-- ==== Sys2Proof/Word.lean ====
section
/-! DEFINITION. The machine words of the AKX-8000 and their plainest arithmetic (00_scope R5, R6). -/

namespace Sys2Proof

/-- A byte. -/
abbrev U8 := BitVec 8
/-- A half word: outcome codes, block bases (00 R11). -/
abbrev U16 := BitVec 16
/-- A register word (00 R7). -/
abbrev U32 := BitVec 32
/-- A 64-bit word. -/
abbrev U64 := BitVec 64

/-- The word that holds a count modulo 2^32 (counters wrap, 04 R113). -/
def u32 (n : Nat) : U32 := BitVec.ofNat 32 n

/-- Bits [31:0] of a count. -/
def lo32 (n : Nat) : U32 := BitVec.ofNat 32 n

/-- Bits [63:32] of a count. -/
def hi32 (n : Nat) : U32 := BitVec.ofNat 32 (n / 4294967296)

/-- A count that stops at `m` (saturating fields). -/
def satTo (m n : Nat) : Nat := if n < m then n else m

/-- A truth value as a bit standing at place `k` of a register word. -/
def bitAt (b : Bool) (k : Nat) : U32 := if b then (1#32 <<< k) else 0#32

/-- A value of at most 32 bits standing with its least significant bit at place `k`. -/
def fieldAt (n k : Nat) : U32 := BitVec.ofNat 32 (n * 2 ^ k)

/-- The field [hi:lo] of a word as a number (00 R6). -/
def field (v : U32) (hi lo : Nat) : Nat := (v.toNat / 2 ^ lo) % 2 ^ (hi + 1 - lo)

/-- A signed number as a 32-bit two's-complement word. -/
def i32 (z : Int) : U32 := BitVec.ofInt 32 z

/-- A signed number reduced to the i64 range (00_scope, "Numbers, units and figures"). -/
def wrapI64 (z : Int) : Int := (BitVec.ofInt 64 z).toInt

end Sys2Proof
end

