-- ==== Sys2Proof/Machine/Tab.lean ====
section
/-! DEFINITION. Sparse tables: lists of (key, value) pairs with strictly rising keys, and the byte memory of the
companion area and the staging buffer as a list of cells in one canonical form. -/

namespace Sys2Proof.Machine

/-- A sparse table: keys strictly rising. An absent key stands for the table's default entry. -/
abbrev Tab (α : Type) := List (Nat × α)

/-- The entry at key `k`, if the table has one. -/
def tabFind {α : Type} : Tab α → Nat → Option α
  | [], _ => none
  | (j, a) :: t, k => if j = k then some a else if k < j then none else tabFind t k

/-- The entry at key `k`, or `d`. -/
def tabGet {α : Type} (t : Tab α) (k : Nat) (d : α) : α := (tabFind t k).getD d

/-- The table with entry `a` at key `k`. -/
def tabPut {α : Type} : Tab α → Nat → α → Tab α
  | [], k, a => [(k, a)]
  | (j, b) :: t, k, a =>
    if j = k then (k, a) :: t else if k < j then (k, a) :: (j, b) :: t else (j, b) :: tabPut t k a

/-- The table without key `k`. -/
def tabDel {α : Type} : Tab α → Nat → Tab α
  | [], _ => []
  | (j, b) :: t, k => if j = k then t else if k < j then (j, b) :: t else (j, b) :: tabDel t k

/-- The entry at `k` (or `d` where there is none) changed by `f`. -/
def tabMod {α : Type} (t : Tab α) (k : Nat) (d : α) (f : α → α) : Tab α := tabPut t k (f (tabGet t k d))

/-- Are the keys strictly rising? -/
def tabWf {α : Type} : Tab α → Bool
  | [] => true
  | [_] => true
  | (i, _) :: (j, b) :: t => decide (i < j) && tabWf ((j, b) :: t)

/-- Addressed RAM: cells in strictly rising address order, none holding 0; an unlisted byte reads 0, because the
companion area is cleared at every start (17 R379). -/
abbrev Memory := List Host.Cell

/-- What an unlisted byte of addressed RAM reads as. -/
def memDefault : U8 := 0

/-- The byte at address `a`. -/
def memRead : Memory → Nat → U8
  | [], _ => memDefault
  | (j, b) :: t, a => if j = a then b else if a < j then memDefault else memRead t a

/-- Store a byte, keeping the canonical form. -/
def memWrite : Memory → Nat → U8 → Memory
  | [], a, b => if b = memDefault then [] else [(a, b)]
  | (j, c) :: t, a, b =>
    if j = a then (if b = memDefault then t else (a, b) :: t)
    else if a < j then (if b = memDefault then (j, c) :: t else (a, b) :: (j, c) :: t)
    else (j, c) :: memWrite t a b

/-- The canonical form: addresses strictly rising and no listed byte equal to the default. -/
def Memory.wf : Memory → Bool
  | [] => true
  | [(_, b)] => decide (b ≠ memDefault)
  | (i, b) :: (j, c) :: t => decide (b ≠ memDefault) && decide (i < j) && Memory.wf ((j, c) :: t)

/-- Store bytes one after another from address `a`. -/
def memWriteBytes : Memory → Nat → List U8 → Memory
  | m, _, [] => m
  | m, a, b :: bs => memWriteBytes (memWrite m a b) (a + 1) bs

/-- Read `n` bytes from address `a`. -/
def memReadBytes (m : Memory) : Nat → Nat → List U8
  | _, 0 => []
  | a, n + 1 => memRead m a :: memReadBytes m (a + 1) n

/-- A little-endian number read from bytes (00 R5). -/
def leNat : List U8 → Nat
  | [] => 0
  | b :: bs => b.toNat + 256 * leNat bs

/-- The `n` bytes of a number, least significant first (00 R5). -/
def leBytes : Nat → Nat → List U8
  | 0, _ => []
  | n + 1, v => BitVec.ofNat 8 v :: leBytes n (v / 256)

/-- A little-endian number of `n` bytes at address `a`. -/
def memReadLe (m : Memory) (a n : Nat) : Nat := leNat (memReadBytes m a n)

/-- The entry of a list at place `k`, changed by `f`. -/
def listMod {α : Type} : List α → Nat → (α → α) → List α
  | [], _, _ => []
  | x :: xs, 0, f => f x :: xs
  | x :: xs, n + 1, f => x :: listMod xs n f

/-- Are numbers pairwise different? -/
def distinctNats : List Nat → Bool
  | [] => true
  | a :: l => !l.contains a && distinctNats l

end Sys2Proof.Machine
end

