-- ==== Sys2Proof/Machine/TPlat.lean ====
section
/-! DEFINITION. State of the platform: global block, start-up, Benchmark time, clocks, PTP, field books, memory protection,
companion port, power and panel (chapters 00, 01, 02, 16, 17, 18, 19, 20). Each field's default is its reset value. -/

namespace Sys2Proof.Machine

/-- Device states, DEVICE_STATUS.STATE (01 Table 1.10). -/
inductive DevState
  | reset | boot | starting | healthy | degraded | slowHold | lastGasp | recovery | halted
deriving DecidableEq, Repr, Inhabited

/-- Seasons of SP[23:0] (02 Table 2.7). -/
inductive Season
  | reset | boot | run
deriving DecidableEq, Repr, Inhabited

/-- The global block and start-up. -/
structure GlobalSt where
  /-- DEVICE_STATUS.STATE | 4 | 01 R26, Table 1.11 -/
  state : DevState := .reset
  /-- DEVICE_STATUS.TQ | 2 | 01 Table 1.11, 16 R368 -/
  tq : Nat := 3
  /-- clusters powered and clocked, CLUSTERS_UP | 4 | 01 R27, Table 1.11 -/
  clustersUp : BitVec 4 := 0
  /-- cluster draining for gating, if any | 2 | 01 R28 -/
  draining : Option Nat := none
  /-- consecutive closed epochs with load below GATE_LOAD_PCT and at most 256 tags | 4 | 01 R27 -/
  lowRun : Nat := 0
  /-- highest number of tags in use in the running epoch | 11 | 01 R27 -/
  maxTags : Nat := 0
  /-- SP_GPIO_OUT.LEVEL of SP[8] to SP[23] | 16 | 02 Table 2.5 -/
  gpioOut : U16 := 0
  /-- levels at SP[23:0] as step 5 sampled them, SP_GPIO_IN.PIN in the reset season | 24 | 02 R33, Table 2.6 -/
  gpioIn : BitVec 24 := 0
  /-- season of the seasonal pins | 2 | 02 R33, Table 2.7 -/
  season : Season := .reset
  /-- SEASON_STATUS.CDST_SRC: 0 none, 1 QSPI A, 2 QSPI B, 3 companion | 2 | 02 R41, Table 2.7 -/
  cdstSrc : Nat := 0
  /-- sampled straps SP[5:0] | 6 | 02 R33, Table 2.1 -/
  straps : BitVec 6 := 0
  /-- SEASON_STATUS.STRAP_ERR | 1 | 02 R34 -/
  strapErr : Bool := false
  /-- last step of Table 2.4 completed by this start | 5 | 02 R39 -/
  startStep : Nat := 0
  /-- elapsed time at which this start began (step 1) | 64 | 02 R39 -/
  startAt : Nat := 0
  /-- elapsed time at which the boot season of this start began (step 6) | 64 | 02 R39 -/
  bootAt : Nat := 0
  /-- elapsed time at which the ports were last told to come up | 64 | 09 R208, 10 R232 -/
  portsAt : Nat := 0
  /-- start watchdog running | 1 | 02 R40 -/
  startWd : Bool := false
  /-- elapsed time of entry into HALTED before HEALTHY, while the keeper's 10 s runs | 64 | 02 R40 -/
  haltedAt : Option Nat := none
  /-- code that stopped start-up | 16 | 02 R39, 19 R419 -/
  haltCode : U16 := 0
  /-- ingest running | 1 | 01 R26, 02 Table 2.4 step 17 -/
  ingest : Bool := false
  /-- resources retired since the start (ports as 100+n, 200+n, DRAM devices, NAND block groups) | list | 01 R26 -/
  retired : List Nat := []
  /-- EPOCH_HI latch | 32 | 01 R32 -/
  epochHi : U32 := 0
  /-- die-to-die link: consecutive retries of the transfer in progress | 5 | 01 R15 -/
  dieRetries : Nat := 0
  /-- die-to-die link retries counted | 32 | 01 R15 -/
  dieErrors : U32 := 0
  /-- die-to-die link retraining since this elapsed time | 64 | 01 R15 -/
  dieRetrain : Option Nat := none
  /-- LED indicator 6, toggled at every epoch boundary | 1 | 19 R420, Table 19.3 -/
  led6 : Bool := false
  /-- levels that GPIO_OUT pins keep in a state that holds the pins | 16 | 02 Table 2.2 -/
  gpioHeld : U16 := 0
  /-- levels of the LED indicators at the entry into a state that holds the pins | 8 | 02 Table 2.2, 19 Table 19.3 -/
  ledHeld : U8 := 0
deriving DecidableEq, Repr, Inhabited

/-- What the boundary work of one epoch has done (01 Table 1.8). -/
structure BoundaryWork where
  /-- epoch being closed | i64 | 01 R25 -/
  epoch : Int := 0
  /-- last step of Table 1.8 done | 4 | 01 R25 -/
  step : Nat := 0
  /-- OC_EPOCH_OVERRUN already recorded for it | 1 | 01 R25 -/
  overrun : Bool := false
  /-- boundary E, device time | 64 | 01 Table 1.8 -/
  boundary : Nat := 0
deriving DecidableEq, Repr, Inhabited

/-- The epoch (01 "The epoch", 16 R360). -/
structure EpochSt where
  /-- EPOCH_OFFSET in force | i64 | 01 R22, R23 -/
  offset : Int := 0
  /-- the epoch in progress, current epoch number | i64 | 01 R22, 16 R360 -/
  current : Int := 0
  /-- epoch clock: the highest device time reached in the run | 64 | 16 R360 -/
  clock : Nat := 0
  /-- boundary work under way, oldest first | list | 01 R25 -/
  work : List BoundaryWork := []
deriving DecidableEq, Repr, Inhabited

/-- The Benchmark unit (16 Table 16.11). -/
structure BenchSt where
  /-- the counter: integer ns in [63:32], fraction in [31:0] | 64 | 16 R355 -/
  bm : U64 := 0
  /-- BM_STATUS.RUNNING | 1 | 16 Table 16.11 -/
  running : Bool := false
  /-- BM_INCR in force | 40 | 16 R355 -/
  incr : BitVec 40 := 0x0400000000
  /-- BM_INCR written and not yet in force | 40 | 16 R355 -/
  incrNext : Option (BitVec 40) := none
  /-- BM_INCR_FRAC register | 32 | 16 Table 16.11 (reset: nominal fraction 0, R355) -/
  incrFrac : U32 := 0
  /-- BM_INCR_INT register | 8 | 16 Table 16.11 (reset: nominal integer 4, R355; log 12) -/
  incrInt : U8 := 4
  /-- BM_STEP_LO | 32 | 16 Table 16.11 -/
  stepLo : U32 := 0
  /-- BM_STEP_HI | 32 | 16 Table 16.11 -/
  stepHi : U32 := 0
  /-- requested step waiting, in ns (STEP_PENDING) | i64 | 16 R357 -/
  stepReq : Option Int := none
  /-- elapsed time of the last step | 64 | 16 R357 -/
  lastStep : Option Nat := none
  /-- BM_STATUS.STEP_GEN | 4 | 16 R357 -/
  stepGen : BitVec 4 := 0
  /-- STEPS, steps applied | 32 | 16 Table 16.11 -/
  steps : U32 := 0
  /-- stamp anchors (device time, integer part) of the last 16 step generations | 16 x (64, 32) | 16 R358 -/
  anchors : Tab (Nat × U32) := []
  /-- BM_FRAC latch | 32 | 16 Table 16.11 -/
  fracLatch : U32 := 0
  /-- DEVICE_TIME_HI latch | 32 | 16 Table 16.11 -/
  timeHi : U32 := 0
  /-- always-on time counter, device time | 64 | 16 R361 -/
  aonTime : Nat := 0
  /-- CLK_STATUS.AON_VALID | 1 | 16 R361 -/
  aonValid : Bool := false
  /-- PPS_STAMP | 32 | 16 Table 16.11 -/
  ppsStamp : U32 := 0
  /-- device time of the last PPS_IN edge | 64 | 16 R369 -/
  ppsLast : Option Nat := none
  /-- BM_STATUS.PPS_VALID | 1 | 16 R369 -/
  ppsValid : Bool := false
  /-- elapsed time of the last rise of PPS_OUT, which stays high for 100 ms | 64 | 16 R369 -/
  ppsRise : Option Nat := none
deriving DecidableEq, Repr, Inhabited

/-- One entry of the time-stamp queue (16 R365). -/
structure TsEntry where
  port : BitVec 2
  transmit : Bool
  msgType : BitVec 4
  gen : BitVec 4
  seqId : U16
  stamp : U32
deriving DecidableEq, Repr, Inhabited

/-- What an accepted Announce carries (16 R366, R367). -/
structure PtpMaster where
  identity : U64 := 0
  clockClass : Nat := 255
  traceable : Bool := false
  /-- clockAccuracy bound in ns -/
  accuracy : Nat := 0
  priority1 : Nat := 255
  priority2 : Nat := 255
  stepsRemoved : Nat := 0
  variance : Nat := 65535
deriving DecidableEq, Repr, Inhabited

/-- An exchange under way on the client port: Sync and Delay_Req stamps (16 R363). -/
structure PtpExchange where
  seqId : U16 := 0
  port : Nat := 0
  /-- origin time of the Sync, when known -/
  t1 : Option Nat := none
  /-- local device time of the Sync's arrival -/
  t2 : Nat := 0
  /-- correctionField, units of 2^-16 ns -/
  corr : Int := 0
deriving DecidableEq, Repr, Inhabited

/-- PTP, servo and time quality (16 R362 to R369). -/
structure PtpSt where
  /-- port states: 0 listening, 1 SLAVE, 2 MASTER, 3 PASSIVE, by port 0 to 3 | 4 x 2 | 16 R363 -/
  port : Tab Nat := []
  /-- best master known on each port | table | 16 R367 -/
  masters : Tab PtpMaster := []
  /-- elapsed time of the last Announce accepted on each port | table | 16 R363 -/
  heard : Tab Nat := []
  /-- two-step Sync waiting for its Follow_Up | record | 16 R363 -/
  sync : Option PtpExchange := none
  /-- last complete Sync exchange, waiting for a Delay_Resp | record | 16 R363 -/
  exchange : Option PtpExchange := none
  /-- local transmit time and sequenceId of the Delay_Req sent | record | 16 R363 -/
  delayReq : Option (U16 × Nat) := none
  /-- mean path delay in ns | i64 | 16 R363 -/
  delay : Int := 0
  /-- filtered offset from the master in ns | i64 | 16 R366 -/
  offset : Int := 0
  /-- consecutive accepted Syncs with the error below 1 ms | 5 | 16 R366 -/
  good : Nat := 0
  /-- BM_STATUS.LOCKED | 1 | 16 R366 -/
  locked : Bool := false
  /-- error estimate in ns when lock was last held, or now while locked | 64 | 16 R366, R368 -/
  eps0 : Nat := 0
  /-- is an error estimate known | 1 | 16 R366 -/
  epsKnown : Bool := false
  /-- elapsed time of the entry into holdover | 64 | 16 R368 -/
  holdAt : Nat := 0
  /-- elapsed time of the entry into TQ2 | 64 | 16 R368 -/
  suspectAt : Nat := 0
  /-- elapsed time of the last accepted Sync | 64 | 16 R366 -/
  lastSync : Nat := 0
  /-- UTC offset table: (TAI instant, offset in s), ascending, at most 32 | list | 16 R367 -/
  utc : List (Nat × Int) := [(0, 37)]
  /-- time-stamp queue, oldest first, at most 64 | list | 16 R365 -/
  tsq : List TsEntry := []
  /-- TSQ_STAMP, stamp of the entry last popped | 32 | 16 Table 16.12 -/
  tsqStamp : U32 := 0
  /-- TSQ_OVERFLOW | 32 | 16 R365 -/
  tsqOverflow : U32 := 0
  /-- PTP_DISCARDED | 32 | 16 R362 -/
  discarded : U32 := 0
  /-- TC_FORWARDED | 32 | 16 R364 -/
  forwarded : U32 := 0
  /-- SYNC_ACCEPTED | 32 | 16 Table 16.12 -/
  accepted : U32 := 0
deriving DecidableEq, Repr, Inhabited

/-- A judged clock source (16 R370, R372). -/
structure ClockSrc where
  /-- judged and not tripped | 1 | 16 Table 16.9 -/
  good : Bool := false
  /-- consecutive judging windows inside the band | 7 | 16 R370 -/
  passes : Nat := 0
  /-- elapsed time at which judging began, or at which the source failed | 64 | 16 R370 -/
  since : Nat := 0
  /-- failed its judgement; retried every 100 ms | 1 | 16 R370 -/
  failed : Bool := false
  /-- monitor windows in a row outside the band, of a good source | 1 | 16 R372 -/
  misses : Nat := 0
deriving DecidableEq, Repr, Inhabited

/-- Clock sources, PLLs and gating (16 R370 to R375). -/
structure ClockSt where
  /-- FIO | record | 16 R370 -/
  fio : ClockSrc := {}
  /-- XA | record | 16 R370 -/
  xa : ClockSrc := {}
  /-- XB | record | 16 R370 -/
  xb : ClockSrc := {}
  /-- REFCLK | record | 16 R370 -/
  refclk : ClockSrc := {}
  /-- PLL_LOCK: bit 0 CPLL, 1 MPLL, 2 SPLL, 3 TPLL | 4 | 16 Table 16.9 -/
  pllLock : BitVec 4 := 0
  /-- ON_FIO | 1 | 16 Table 16.9 -/
  onFio : Bool := false
  /-- KEEPER_SIO | 1 | 16 Table 16.9 -/
  keeperSio : Bool := true
  /-- AON_SIO | 1 | 16 Table 16.9 -/
  aonSio : Bool := false
  /-- CLK_ENABLE0 | 32 | 16 Table 16.10 -/
  enable0 : U32 := 0
  /-- CLK_ENABLE1 | 32 | 16 Table 16.8 -/
  enable1 : U32 := 0
  /-- MON_TRIPS | 32 | 16 Table 16.8 -/
  trips : U32 := 0
  /-- FIO_RATIO, last window measured | 32 | 16 Table 16.8 (reset: none given, log 13) -/
  fioRatio : U32 := 0
  /-- SLOW_HOLD_ENTRIES | 32 | 16 Table 16.8 -/
  slowHolds : U32 := 0
  /-- elapsed time of the entry into SLOW_HOLD | 64 | 16 Table 16.7 -/
  holdAt : Option Nat := none
  /-- state from which SLOW_HOLD was entered (the model's own) | 4 | 16 R374 -/
  heldState : DevState := .healthy
  /-- elapsed time of the REFCLK trip being handled | 64 | 16 R373 -/
  refclkAt : Option Nat := none
deriving DecidableEq, Repr, Inhabited

/-- One block field book record (18 Table 18.4). The payload is held as u32 words. -/
structure FbRec where
  code : U16 := 0
  hours : Nat := 0
  cycles : Nat := 0
  links : List Nat := []
  truncated : Bool := false
  repeats : Nat := 0
  repeatSat : Bool := false
  source : U16 := 0
  payload : List U32 := []
deriving DecidableEq, Repr, Inhabited

/-- One block field book: its last 32 closed records and its open record (18 R411, R413). -/
structure BlockBook where
  /-- closed records, oldest first, at most 32 | list | 18 R411 -/
  closed : List FbRec := []
  /-- open record and the elapsed time of its first occurrence | record | 18 R413 -/
  opened : Option (FbRec × Nat) := none
deriving DecidableEq, Repr, Inhabited

/-- The freeze of the device field book (18 R417). -/
structure FbFreeze where
  /-- owner's stamp -/
  owner : U32 := 0
  /-- elapsed time of FREEZE -/
  since : Nat := 0
  /-- held records, oldest first -/
  held : List (Nat × FbRec) := []
  dropped : Nat := 0
  dropLo : Nat := 0
  dropHi : Nat := 0
  dropClass : Nat := 0
  dropFirst : Nat := 0
  dropLast : Nat := 0
deriving DecidableEq, Repr, Inhabited

/-- Field books (18 R411 to R417). -/
structure FbSt where
  /-- block field books by block number (base / 64 KiB) | table | 18 R411 -/
  blocks : Tab BlockBook := []
  /-- device field book ring, oldest first, with SEQ | list, 16 MiB | 18 R415 -/
  ring : List (Nat × FbRec) := []
  /-- records held by the keeper before the ring exists, 16 KiB | list | 18 R415 -/
  buffer : List (Nat × FbRec) := []
  /-- is the ring in use (from step 12) | 1 | 18 R415 -/
  ringUp : Bool := false
  /-- records dropped with a full start-up buffer: count, first SEQ, last SEQ, highest class, first and last HOURS | record | 18 R415 -/
  lost : Option (Nat × Nat × Nat × Nat × Nat × Nat) := none
  /-- next SEQ | 64 | 18 R414 -/
  nextSeq : Nat := 1
  /-- highest SEQ saved to the image area | 64 | 18 R415 -/
  savedSeq : Nat := 0
  /-- field book section of the image area | list | 18 R415 -/
  saved : List (Nat × FbRec) := []
  /-- saved HOURS and CYCLES, if a section was written | record | 18 R412 -/
  savedTime : Option (Nat × Nat) := none
  /-- HOURS, units of 1/16 h | 32 | 18 R412 -/
  hours : Nat := 0
  /-- CYCLES, power-cycle count | 24 | 18 R412 -/
  cycles : Nat := 0
  /-- elapsed time of the last HOURS tick | 64 | 18 R412 -/
  hoursAt : Nat := 0
  /-- freeze in force | record | 18 R417 -/
  freeze : Option FbFreeze := none
  /-- FB_SELECT | 16 | 18 Table 18.5 (reset: none given, log 14) -/
  select : U16 := 0xFFFF
  /-- cursor: SEQ or index | 64 | 18 R416 -/
  cursor : Nat := 0
  /-- FB_CURSOR_HI as written, applied with FB_CURSOR_LO | 32 | 18 Table 18.5 -/
  cursorHiW : U32 := 0
  /-- FB_CURSOR_HI latch | 32 | 18 Table 18.5 -/
  cursorHi : U32 := 0
  /-- FB_OLDEST_HI latch | 32 | 18 Table 18.5 -/
  oldestHi : U32 := 0
  /-- FB_NEWEST_HI latch | 32 | 18 Table 18.5 -/
  newestHi : U32 := 0
  /-- FB_STATUS.CURSOR_LOST | 1 | 18 R416 -/
  cursorLost : Bool := false
  /-- FB_DROPPED | 32 | 18 Table 18.5 -/
  dropped : U32 := 0
  /-- CODE of the newest class 0x8 device record since the start | 16 | 19 R419 -/
  lastFault : Option U16 := none
  /-- EVENT_FEED enabled | 1 | 17 Table 17.6 -/
  feed : Bool := false
deriving DecidableEq, Repr, Inhabited

/-- One DRAM device of a rank (18 R404). -/
structure DramDev where
  /-- symbols corrected, saturating at 24 bits -/
  symbols : Nat := 0
  /-- lines corrected: (line, elapsed time) within 24 h -/
  lines : List (Nat × Nat) := []
  marked : Bool := false
deriving DecidableEq, Repr, Inhabited

/-- Memory controllers, ECC and the patrol scrubber (18 R400 to R410). -/
structure MemSt where
  /-- installed DRAM in GiB (18 R410, 01 R18) | 9 | 01 Table 1.5 (no reset value: fitted hardware, log 11) -/
  dramGib : Nat := 64
  /-- speed grade 0, 1, 2 or another population | 2 | 01 R18 (no reset value: fitted hardware, log 11) -/
  speed : Nat := 2
  /-- channels populated | 2 | 01 R18 (no reset value: fitted hardware, log 11) -/
  channels : Nat := 2
  /-- are the populated subchannels of equal capacity | 1 | 01 R18 (fitted hardware, log 11) -/
  uniform : Bool := true
  /-- DRAM trained and its population found by this start: MEM_STATUS.SPEED shows it from then on | 1 | 02 Table 2.4, 18 Table 18.3 -/
  trained : Bool := false
  /-- ranks per subchannel | 5 | 18 Table 18.2 (fitted hardware, log 11) -/
  ranks : Nat := 2
  /-- DRAM_CE_LINES[0..3] | 4 x 32 | 18 Table 18.2 -/
  ceLines : Tab U32 := []
  /-- DRAM_UE[0..3] | 4 x 32 | 18 Table 18.2 -/
  ue : Tab U32 := []
  /-- DRAM_POISON_READS | 32 | 18 Table 18.2 -/
  poisonReads : U32 := 0
  /-- SCRUB_PASSES | 32 | 18 Table 18.2 -/
  passes : U32 := 0
  /-- SCRUB_LAST_S | 32 | 18 Table 18.2 -/
  lastS : U32 := 0
  /-- next line of the patrol pass | 32 | 18 R407 -/
  scrubLine : Nat := 0
  /-- elapsed time at which the pass began | 64 | 18 R407 -/
  scrubAt : Nat := 0
  /-- a patrol pass is running, SCRUBBING | 1 | 18 Table 18.3 -/
  scrubbing : Bool := false
  /-- SCRUB_PAUSED | 1 | 18 Table 18.3 -/
  scrubPaused : Bool := false
  /-- OC_SCRUB_LATE recorded for this pass | 1 | 18 R407 -/
  late : Bool := false
  /-- devices by (subchannel, rank, device) number | table | 18 R404 -/
  devs : Tab DramDev := []
  /-- poisoned lines | list | 18 R405 -/
  poisoned : List Nat := []
  /-- DEV_SELECT | 10 | 18 Table 18.2 -/
  devSelect : U32 := 0
  /-- SRAM_CE[0..63] | 64 x 32 | 18 Table 18.2 -/
  sramCe : Tab U32 := []
  /-- SRAM_UE | 32 | 18 Table 18.2 -/
  sramUe : U32 := 0
  /-- SRAM words corrected within the last hour: (address, elapsed times) and whether OC_SRAM_HARD_CE was recorded | table | 18 R409 -/
  sramHard : Tab (List Nat × Bool) := []
deriving DecidableEq, Repr, Inhabited

/-- Mailbox channel states (17 R383). -/
inductive ChState
  | empty | locked | posted | taken | acked
deriving DecidableEq, Repr, Inhabited

/-- A mailbox channel (17 R383, Table 17.4). -/
structure Channel where
  /-- CH_STATUS.STATE | 3 | 17 R383 -/
  state : ChState := .empty
  /-- owner's stamp, 0 none | 32 | 17 R382, R383 -/
  owner : U32 := 0
  /-- CH_STAMP, recorded at posting | 32 | 17 R382 -/
  stamp : U32 := 0
  /-- CH_STAMP_RC | 8 | 17 R382 -/
  stampRc : U8 := 0
  /-- CH_ACK | 16 | 17 Table 17.4 -/
  ack : U16 := 0
  /-- CH_MSG words | 16 x 32 | 17 Table 17.4 -/
  msg : Tab U32 := []
  /-- SENDER_STALE | 1 | 17 R387 -/
  senderStale : Bool := false
  /-- LOCK_STALE | 1 | 17 R387 -/
  lockStale : Bool := false
  /-- elapsed time of posting | 64 | 17 R390 -/
  postedAt : Nat := 0
deriving DecidableEq, Repr, Inhabited

/-- A response waiting for a free outbound channel (17 R390). -/
structure WaitingResponse where
  secure : Bool := false
  msg : Tab U32 := []
  since : Nat := 0
deriving DecidableEq, Repr, Inhabited

/-- Mailboxes (17 R379 to R390). -/
structure MboxSt where
  /-- channels: 0 to 31 non-secure, 32 to 39 secure | 40 records | 17 R381 -/
  ch : Tab Channel := []
  /-- CROSSING of the class: bit 0 non-secure, bit 1 secure | 2 | 17 R384 -/
  crossing : BitVec 2 := 0
  /-- MB_CROSSINGS per class | 2 x 32 | 17 R384 -/
  crossings : Tab U32 := []
  /-- MB_WITHDRAWN per class | 2 x 32 | 17 R390 -/
  withdrawn : Tab U32 := []
  /-- reset count of function 0 | 8 | 17 R380 -/
  fn0Resets : U8 := 0
  /-- reset count of function 1 | 8 | 17 R380 -/
  fn1Resets : U8 := 0
  /-- device warm resets, RWS | 8 | 17 R380 -/
  warmResets : U8 := 0
  /-- responses waiting for a channel | list | 17 R390 -/
  waiting : List WaitingResponse := []
  /-- PCIe link up | 1 | 17 R377 -/
  linkUp : Bool := false
  /-- a companion is attached, as the last start found | 1 | 17 R377 (no reset value: fitted hardware, log 11) -/
  attached : Bool := false
  /-- words of the MSI-X tables and PBAs, by function and offset | 2 x 34 x 32 | 17 R380 (contents those of PCIe, log 34) -/
  msixTable : Tab U32 := []
deriving DecidableEq, Repr, Inhabited

/-- A word queue (17 R391 to R394). Words are held with their poison mark. -/
structure WordQueue where
  /-- words, oldest first, with poison marks | list | 17 R391 -/
  words : List (U32 × Bool) := []
  /-- EMPTY_LAST | 1 | 17 Table 17.9 -/
  emptyLast : Bool := false
  /-- POISON_LAST | 1 | 17 Table 17.9 -/
  poisonLast : Bool := false
  /-- Q_CTRL.ENABLE (stream queues) | 1 | 17 Table 17.8 -/
  enable : Bool := false
  /-- Q_CTRL.THRESHOLD | 15 | 17 Table 17.8 -/
  threshold : Nat := 0
  /-- Q_ERRORS corrected words | 16 | 17 R392 -/
  corrected : Nat := 0
  /-- Q_ERRORS poisoned words | 16 | 17 R392 -/
  poisoned : Nat := 0
  /-- Q_OVERFLOW | 32 | 17 R393 -/
  overflow : U32 := 0
deriving DecidableEq, Repr, Inhabited

/-- A DMA channel (17 R395 to R399). -/
structure DmaChan where
  /-- DMA_RING | 32 | 17 Table 17.11 -/
  ring : U32 := 0
  /-- DMA_RING_SIZE | 32 | 17 Table 17.11 (reset: none given, log 15) -/
  size : U32 := 0
  /-- DMA_HEAD | 32 | 17 Table 17.11 -/
  head : U32 := 0
  /-- DMA_TAIL | 32 | 17 Table 17.11 -/
  tail : U32 := 0
  /-- DMA_CTRL.RUN | 1 | 17 Table 17.11 -/
  run : Bool := false
  /-- STOPPED | 1 | 17 Table 17.12 -/
  stopped : Bool := false
  /-- LAST_CODE | 16 | 17 Table 17.12 -/
  lastCode : U16 := 0
  /-- DMA_DONE | 32 | 17 Table 17.11 -/
  done : U32 := 0
deriving DecidableEq, Repr, Inhabited

/-- The power block and power-fail detection (19 R428 to R430, 20 R439, R449, R450). -/
structure PowerSt where
  /-- PF_ARMED | 1 | 19 Table 19.7 -/
  armed : Bool := false
  /-- VIN_SENSE_MV, last sample | 32 | 19 Table 19.6 (reset: none given, log 16) -/
  vin : Nat := 0
  /-- samples of VIN_SENSE over the last 100 us, newest first | 11 x 16 | 19 R428 -/
  window : List Nat := []
  /-- elapsed time since which the dwell below the threshold runs | 64 | 19 R428 -/
  lowSince : Option Nat := none
  /-- LAST_GASP: sequence running or done | 1 | 19 Table 19.7 -/
  lastGasp : Bool := false
  /-- LG_STEP | 3 | 19 Table 19.7 -/
  lgStep : Nat := 0
  /-- the sequence was cut short by a rail below its minimum | 1 | 20 R439 -/
  lgCut : Bool := false
  /-- elapsed time of the trip T | 64 | 19 R429 -/
  tripAt : Nat := 0
  /-- device time of the trip T | 64 | 19 R429 -/
  tripTime : Nat := 0
  /-- elapsed time since which VIN_SENSE stands above threshold plus 50 mV after LG_DONE (VIN_RETURNED) | 64 | 19 R430 -/
  returnAt : Option Nat := none
  /-- PF_TRIPS, RWS | 32 | 19 Table 19.6 -/
  trips : U32 := 0
  /-- LG_LAST_US, RWS | 32 | 19 Table 19.6 -/
  lgLastUs : U32 := 0
  /-- LG_FLUSHED_KIB, RWS | 32 | 19 Table 19.6 -/
  lgKib : U32 := 0
  /-- last-gasp marker in the reserve control record: (T, last committed JSN, highest durable JSN) | record | 19 R430 -/
  marker : Option (Nat × Nat × Nat) := none
  /-- a power-fail trip happened since the last start | 1 | 19 R430 -/
  tripped : Bool := false
  /-- RAIL_EN | 1 | 20 R437 -/
  railEn : Bool := false
  /-- HU_EN | 1 | 20 R440 -/
  huEn : Bool := false
  /-- elapsed time since which RAIL_EN is held low after a thermal trip | 64 | 20 R449 -/
  thermalAt : Option Nat := none
  /-- MAIN_TEMP, 0.1 degC | i16 | 20 Table 20.14 -/
  mainTemp : Int := 0
  /-- FIELD_TEMP, 0.1 degC | i16 | 20 Table 20.14 -/
  fieldTemp : Int := 0
  /-- OC_TEMP_HIGH recorded in this excursion | 1 | 20 R449 -/
  tempHigh : Bool := false
deriving DecidableEq, Repr, Inhabited

/-- The four segment classes' waveform (19 Table 19.4). -/
structure Waveform where
  /-- FRAME_HALF_MS -/
  half : Nat := 1
  /-- FRAME[0..], one byte each -/
  frames : List U8 := []
deriving DecidableEq, Repr, Inhabited

/-- What a running waveform is. -/
inductive WaveKind
  | update | balance | lastGasp
deriving DecidableEq, Repr, Inhabited

/-- A waveform under way (19 R422, R425). -/
structure PanelRun where
  kind : WaveKind := .update
  band : Nat := 0
  /-- target drawn, 96 segments -/
  target : BitVec 96 := 0
  /-- the waveform as it stood when it started (19 R423) -/
  wave : Waveform := {}
deriving DecidableEq, Repr, Inhabited

/-- The panel (19 R418 to R427). -/
structure PanelSt where
  /-- PANEL_SHOWN | 96 | 19 Table 19.8 -/
  shown : BitVec 96 := 0
  /-- PANEL_USER: USER0 to USER11 | 12 | 19 Table 19.8 -/
  user : BitVec 12 := 0
  /-- PANEL_USER.LED7 | 1 | 19 Table 19.8 -/
  led7 : Bool := false
  /-- PANEL_TEMP, 0.1 degC | i16 | 19 Table 19.8 -/
  temp : Int := 0
  /-- BAND of the last measurement | 3 | 19 Table 19.9 -/
  band : Nat := 0
  /-- COLD | 1 | 19 Table 19.9 -/
  cold : Bool := false
  /-- waveform running | record | 19 R422 -/
  run : Option PanelRun := none
  /-- segments that a cut waveform was changing | 96 | 19 R429 -/
  changing : BitVec 96 := 0
  /-- BALANCE_PENDING | 1 | 19 Table 19.9 -/
  balancePending : Bool := false
  /-- FAILED | 1 | 19 R421 -/
  failed : Bool := false
  /-- consecutive rail faults | 2 | 19 R421 -/
  railRun : Nat := 0
  /-- elapsed time of the last update start | 64 | 19 R422 -/
  lastStart : Option Nat := none
  /-- ACC per segment, V x 0.5 ms; unknown after a loss of VCC_AON | 96 x i32 | 19 R426 -/
  acc : Tab Int := []
  /-- are the accumulators known | 1 | 19 R426 -/
  accKnown : Bool := false
  /-- DC_SELECT | 7 | 19 Table 19.8 -/
  dcSelect : Nat := 0
  /-- PANEL_UPDATES | 32 | 19 Table 19.8 -/
  updates : U32 := 0
  /-- PANEL_BALANCES | 32 | 19 Table 19.8 -/
  balances : U32 := 0
  /-- PANEL_DEFERRED | 32 | 19 Table 19.8 -/
  deferred : U32 := 0
  /-- RAIL_FAULTS | 32 | 19 Table 19.8 -/
  railFaults : U32 := 0
  /-- Ethernet links up: ETH0 to ETH3, MGMT | 5 | 19 Table 19.1 -/
  links : BitVec 5 := 0
  /-- elapsed time of the last cold retry or update attempt while FAILED | 64 | 19 R421, R424 -/
  retryAt : Nat := 0
deriving DecidableEq, Repr, Inhabited

end Sys2Proof.Machine
end

