-- ==== Sys2Proof/Wire.lean ====
section
/-! DEFINITION. The operands of the commands: who asks, what arrives on a port, a link or a session, and what the parts around
the device answer. -/

namespace Sys2Proof

/-- Who issues a register request (01 R30, 17 R382). -/
inductive Requester
  | fn0 (id : U16)
  | fn1 (id : U16)
  | firmware
  | warden
  | keeper
deriving DecidableEq, Repr, Inhabited

/-- What an error acts on (04 Table 4.9): one operation of a block, a block, or a parcel under R79. -/
inductive Scope
  | op (block tag : Nat)
  | block (n : Nat)
  | parcel (index : Nat)
deriving DecidableEq, Repr, Inhabited

/-- A cadastre image as it stands in a region, a part or the companion area (02 Table 2.8): its bytes from offset 0, and whether the HSS
signature of its trailer verifies under the key that SIGNER_HASH names. -/
structure CadImage where
  bytes : List U8 := []
  sigOk : Bool := true
deriving DecidableEq, Repr, Inhabited

/-- An amendment body (02 Table 2.11): its bytes. -/
structure Amendment where
  bytes : List U8 := []
deriving DecidableEq, Repr, Inhabited

/-- Clock sources that are judged (16 R370). -/
inductive ClockSource
  | fio | xa | xb | refclk
deriving DecidableEq, Repr, Inhabited

/-- The PLLs (16 Table 16.6). -/
inductive Pll
  | cpll | mpll | spll | tpll
deriving DecidableEq, Repr, Inhabited

/-- The parts of a PTP message's header and transport that decide its acceptance (16 R362 to R366). -/
structure PtpHeader where
  /-- ETH port 0 to 3 it arrived on -/
  port : Nat := 0
  /-- 0 IPv4, 1 IPv6, 2 IEEE 802.3 -/
  transport : Nat := 0
  domain : Nat := 0
  version : Nat := 2
  minorVersion : Nat := 1
  multicast : Bool := true
  seqId : U16 := 0
  /-- identity of the sending clock -/
  source : U64 := 0
  /-- correctionField in units of 2^-16 ns -/
  correction : Int := 0
  /-- ns since the previous command -/
  dt : Nat := 0
deriving DecidableEq, Repr, Inhabited

/-- What the servo makes of an exchange, which no rule fixes (16 R359, R366): what its filter adds to the offset measured, in ns, and the slew it
applies to BM_INCR in units of 2^-32 ns. -/
structure ServoResult where
  filter : Int := 0
  slew : Int := 0
deriving DecidableEq, Repr, Inhabited

/-- What an Announce carries (16 R366, R367). -/
structure AnnounceBody where
  identity : U64 := 0
  clockClass : Nat := 6
  traceable : Bool := true
  /-- grandmasterClockAccuracy, a code of IEEE 1588 -/
  accuracy : Nat := 0x21
  priority1 : Nat := 128
  priority2 : Nat := 128
  stepsRemoved : Nat := 0
  variance : Nat := 65535
  /-- currentUtcOffset where currentUtcOffsetValid is set -/
  utcOffset : Option Int := none
  leap61 : Bool := false
  leap59 : Bool := false
deriving DecidableEq, Repr, Inhabited

/-- One read of a DRAM line (18 R400 to R406): how the burst that came back differs from the code word the line holds, the rank that holds it,
and of what stands in it the part that no field of the state gives. -/
structure LineRead where
  /-- flipped bits of the burst: a beat, 0 to 15, and a bit of its 40 -/
  flips : List (Nat × Nat) := []
  /-- the line whose content answered in place of this one's -/
  other : Option Nat := none
  rank : Nat := 0
  /-- place in the queue of the staged frame that stands in the line -/
  frame : Nat := 0
  /-- the line's journal page is in the reserve already -/
  inReserve : Bool := false
  /-- the firmware part can be loaded again from the running slot and passes its hash -/
  reloadable : Bool := true
deriving DecidableEq, Repr, Inhabited

/-- What a word of on-chip SRAM holds as it is read (18 R409). -/
inductive SramHolder
  /-- the cached head of a parcel -/
  | head (parcel : Nat)
  /-- a tag buffer or stage queue, of the tag of this ASN -/
  | tag (asn : Nat)
  /-- the journal staging ring, for the entry of a tag that has not committed, or for a committed entry -/
  | ring (asn : Option Nat)
  /-- any other working SRAM, of a block -/
  | other (block : Nat)
deriving DecidableEq, Repr, Inhabited

/-- An error that containment is told of (04 R110, 01 R15, R17, 03 R79, 18 R403 to R409): one of a class, scope and code that its owner
names, with the code's payload; a read of a DRAM line; a read of a word of on-chip SRAM, with the failing cells of its row; a head that disagrees with its directory entry; a
disagreement of the warden pair. -/
inductive ErrorReport
  | generic (cls : Nat) (scope : Scope) (code : U16) (payload : List U32)
  | dramRead (line : Nat) (result : LineRead)
  | sram (bank word : Nat) (cells : List Nat) (holder : SramHolder)
  | headMismatch (bucket : Nat) (inHead inDirectory : U64)
  | wardenMismatch
deriving DecidableEq, Repr, Inhabited

/-- What the word code of a queue found on a pop (17 R392). -/
inductive WordEcc
  | clean
  | corrected
  | uncorrectable
deriving DecidableEq, Repr, Inhabited

/-- What a stream producer captures (17 R394). -/
inductive Capture
  /-- a pair of ADC samples of a PLC port -/
  | plc (first second : U16)
  /-- a frame that RX_READ returned -/
  | radio (rssi : U8) (checkOk acked : Bool) (bytes : List U8)
deriving DecidableEq, Repr, Inhabited

/-- How the companion's host memory answered a descriptor's accesses (17 R395 to R398): the bytes read, in order, and
whether every completion was good. -/
structure HostAnswer where
  data : List U8 := []
  ok : Bool := true
deriving DecidableEq, Repr, Inhabited


/-- An endpoint's date and time (05 R127): unspecified parts are absent, `deviation` is absent for a local time, `summer` is the
daylight bit where there is one, and `invalid` an invalid flag. -/
structure EpClock where
  year : Option Nat := none
  month : Option Nat := none
  day : Option Nat := none
  hour : Option Nat := none
  minute : Option Nat := none
  second : Option Nat := none
  hundredths : Option Nat := none
  deviation : Option Int := none
  summer : Option Bool := none
  invalid : Bool := false
deriving DecidableEq, Repr, Inhabited

/-- A DLMS data item, by its type (05 R126). -/
inductive DScalar
  | integer (v : BitVec 8)
  | long (v : BitVec 16)
  | doubleLong (v : BitVec 32)
  | long64 (v : BitVec 64)
  | unsigned (v : BitVec 8)
  | longUnsigned (v : BitVec 16)
  | doubleLongUnsigned (v : BitVec 32)
  | long64Unsigned (v : BitVec 64)
  | enum (v : BitVec 8)
  | boolean (v : Bool)
  /-- a date-time, or an octet string that holds one -/
  | clock (c : EpClock)
  /-- any other type: float, string, octet string, bit string, null-data, array, structure -/
  | other
deriving DecidableEq, Repr, Inhabited

/-- An element of a notification structure (05 R122): an item, or an array of rows (absent: a row that is no structure). -/
inductive DElem
  | item (d : DScalar)
  | rows (r : List (Option (List DScalar)))
deriving DecidableEq, Repr, Inhabited

/-- The data of an M-Bus record (05 R118, R123, R127). -/
inductive MbusData
  /-- an integer field: its bytes, least significant first -/
  | int (bytes : List U8)
  /-- a BCD field: its bytes, least significant first, two digits each -/
  | bcd (bytes : List U8)
  /-- real or variable-length data -/
  | unsupported
  /-- a time point of type F or I -/
  | clock (c : EpClock)
  /-- a date of type G -/
  | date (year month day : Option Nat) (invalid : Bool)
  | fill
deriving DecidableEq, Repr, Inhabited

/-- An M-Bus data record (05 R123, Table 5.7): VIF, first VIFE where there is one, function field, storage number, tariff,
subunit and data. -/
structure MbusRecord where
  vif : Nat
  vife : Option Nat := none
  function : Nat := 0
  storage : Nat := 0
  tariff : Nat := 0
  subunit : Nat := 0
  data : MbusData := .fill
deriving DecidableEq, Repr, Inhabited

/-- What a frame carries once deciphered (05 R117, R118, R122). -/
inductive Payload
  /-- data-notification: its own date-time, and its body where that is a structure -/
  | notification (clock : Option EpClock) (body : Option (List DElem))
  /-- event-notification-request: logical name and value -/
  | event (obis : List Nat) (value : DScalar)
  /-- EN 13757-3 records, and how many unencrypted items follow the encrypted blocks -/
  | mbus (records : List MbusRecord) (unencrypted : Nat)
  /-- any other APDU -/
  | otherApdu
deriving DecidableEq, Repr, Inhabited

/-- Ciphering of a DLMS frame (05 R117). -/
inductive DlmsTag
  | glo | ded | other
deriving DecidableEq, Repr, Inhabited

/-- The security header and protection of a frame (05 R117, R118). `key` and `authKey` are the keys under which its protection
verifies, `macOk` whether its MAC or tag is right under them, `plainOk` whether mode 5 data begin with 0x2F 0x2F. -/
structure Security where
  tag : DlmsTag := .glo
  authBit : Bool := true
  suite : Nat := 0
  keySet : Nat := 0
  compressed : Bool := false
  afl : Bool := true
  status : Nat := 0
  key : BitVec 128 := 0
  authKey : BitVec 128 := 0
  macOk : Bool := true
  plainOk : Bool := true
deriving DecidableEq, Repr, Inhabited

/-- A frame as it reaches admission: its path (1 PLC, 2 radio, 3 cell), port, cell and short address, its link metrics
(LINK_STATE bytes), its length and its bytes, and what the external standards read in them: the identity extracted where it can be, its raw frame
counter, its protection and payload, the length of the confirmation it gets, and a voltage-angle sector where it carries one. -/
structure Arrival where
  path : Nat := 1
  port : Nat := 0xFF
  cell : Nat := 0xFFFF
  shortAddr : Nat := 0xFFFF
  linkState : List Nat := []
  length : Nat := 64
  frame : List U8 := []
  identity : Option U64 := none
  counter : Nat := 0
  sec : Security := {}
  payload : Payload := .otherApdu
  confirmLength : Nat := 40
deriving DecidableEq, Repr, Inhabited

/-- What a PLC frame carries once its check sequence is good (09 R204, R205, R217, R218). -/
inductive PlcContent
  /-- a MAC acknowledgement of the frame the port sent -/
  | ack
  /-- a whole UDP datagram: destination port, whether its wrapper carries a DLMS APDU, and the frame as admission sees it -/
  | datagram (udp : Nat) (dlms : Bool) (a : Arrival)
  /-- a fragment of a datagram of `size` bytes: tag, offset, length; the fields of the whole datagram stand with each fragment -/
  | fragment (tag size offset len udp : Nat) (dlms : Bool) (a : Arrival)
  /-- a tone-map request, answered from its SNR with the tone map, modulation and gain given here -/
  | toneMapRequest (toneMap modulation gain : Nat)
  /-- any other MAC command, LBP or LOADng message with a row of its own or none -/
  | other
deriving DecidableEq, Repr, Inhabited

/-- A frame at a PLC port (09 R204 to R222): what its frame control header and MAC header name, what the engine measured, and
its content. -/
structure PlcFrame where
  coherent : Bool := false
  fcsOk : Bool := true
  pan : Nat := 0
  /-- is the frame addressed to the device as a unicast -/
  unicast : Bool := true
  /-- MAC source read, where the header could be decoded -/
  src : Option Nat := none
  /-- originator of the mesh header, where there is one -/
  originator : Option Nat := none
  /-- tone map the frame control header names -/
  toneMap : Nat := 0
  /-- 0 ROBO, 1 DBPSK, 2 DQPSK, 3 D8PSK, 4 Super-ROBO -/
  modulation : Nat := 0
  activeTones : Nat := 36
  lqi : Nat := 0
  /-- gain frozen at the end of the preamble, 0 to 14 -/
  pga : Nat := 0
  /-- ADC samples of the preamble's symbols, and of the header and data symbols after them -/
  preamble : List (List Int) := []
  symbols : List (List Int) := []
  /-- ns from the start of its preamble to the end of the frame -/
  span : Nat := 0
  /-- GMK under which its MAC security verifies -/
  gmk : Nat := 0
  /-- phase detection counter times its unit, ns -/
  dtx : Nat := 0
  /-- ns from the phase reference instant to the end of the frame -/
  refBefore : Nat := 0
  /-- ns since the previous command -/
  dt : Nat := 0
  content : PlcContent := .other
deriving DecidableEq, Repr, Inhabited

/-- What a radio frame carries once its check sequence is good (10 R226, R233, R234). -/
inductive RadioContent
  /-- a link acknowledgement of the frame the port sent -/
  | ack
  /-- a whole UDP datagram: destination port, whether it carries a DLMS APDU, and the frame as admission sees it -/
  | datagram (udp : Nat) (dlms : Bool) (a : Arrival)
  /-- a fragment of a datagram of `size` bytes -/
  | fragment (tag size offset len udp : Nat) (dlms : Bool) (a : Arrival)
  /-- an EN 13757-4 frame: C field, access number and the frame as admission sees it -/
  | mbus (cField access : Nat) (a : Arrival)
  /-- any other frame -/
  | other
deriving DecidableEq, Repr, Inhabited

/-- A frame that an RXSTAMP edge and RX_READ deliver (10 R229, R230, R232 to R235, Table 10.5). -/
structure RadioFrame where
  /-- ns since the previous command, to the edge; high time of the pulse; ns from the edge to the end of RX_READ -/
  dt : Nat := 0
  pulse : Nat := 1000
  readNs : Nat := 0
  /-- frame length that RX_READ finds, and the bytes that each RD of RX_READ receives -/
  length : Nat := 64
  miso : List (List U8) := []
  checkOk : Bool := true
  /-- is the frame of the port's mode and frame format (EN 13757-4) -/
  modeOk : Bool := true
  security : Bool := false
  pan : Nat := 0
  /-- is it addressed to the device -/
  toDevice : Bool := true
  /-- acknowledgement requested (SUN-FSK), and bytes of the acknowledgement from PHR or L field to check -/
  ackRequest : Bool := true
  ackBytes : Nat := 7
  /-- does the PHR indicate FEC -/
  fec : Bool := false
  /-- bytes on air after the sync word -/
  airBytes : Nat := 64
  /-- short address of the MAC source, extended or link address of the originator, and whether they are one -/
  lastHop : Nat := 0xFFFF
  address : U64 := 0
  relayed : Bool := false
  content : RadioContent := .other
deriving DecidableEq, Repr, Inhabited

/-- A datagram that arrives at the cell transport's port (11 R248 to R250): its 32-byte header, its body as deciphered, the key under which its tag
verifies, the Ethernet port and address family it came on, the UDP port it is for, its source address and port as one number, and ns since
the previous command. -/
structure Capsule where
  head : List U8 := []
  body : List U8 := []
  key : Nat := 0
  eth : Nat := 0
  ipv6 : Bool := false
  udp : Nat := 47460
  src : Nat := 0
  dt : Nat := 0
deriving DecidableEq, Repr, Inhabited

/-- The header of an item of a FRAMES capsule (11 Table 11.6). -/
structure CellItem where
  format : Nat := 1
  relayed : Bool := false
  rxTimeValid : Bool := false
  length : Nat := 64
  rssi : Nat := 0x80
  lqi : Nat := 0
  rxTime : Nat := 0
  localAddr : U64 := 0
  hops : Nat := 0xFF
deriving DecidableEq, Repr, Inhabited

/-- An order as it arrives on a session (12 R284, Table 12.1): its envelope's bytes, how many envelopes its ORDER message held, and the head end's
public key under which SIGNATURE verifies over SIGNED, 0 where it verifies under none. -/
structure HxOrder where
  sid : Nat := 1
  count : Nat := 1
  envelope : List U8 := []
  sigKey : Nat := 0
deriving DecidableEq, Repr, Inhabited

/-- A TLS 1.3 handshake as a head end offers it (12 R270): the port it reached (0 to 3 ETHn, 4 MGMT), whether over IPv6, the TCP port, key exchange
modes, groups, cipher suites, whether it asks for early data or a ticket, the PSK identity, and the PSK that its binder proves. -/
structure TlsOffer where
  eth : Nat := 0
  ipv6 : Bool := false
  port : Nat := 47470
  /-- psk_key_exchange_modes: 0 psk_ke, 1 psk_dhe_ke -/
  modes : List Nat := [1]
  groups : List Nat := [29]
  suites : List Nat := [0x1302, 0x1301]
  earlyData : Bool := false
  ticket : Bool := false
  certificate : Bool := false
  identity : List U8 := []
  psk : Nat := 0
deriving DecidableEq, Repr, Inhabited

/-- The body of a CAMPAIGN order (12 Table 12.8). CODEs are held as their bytes. -/
structure CampaignBody where
  action : Nat := 0
  campaign : Nat := 1
  /-- REGION: CELLS, PLC, RADIO -/
  region : Option (List Nat × List Nat × List Nat) := none
  group : Option (List U64) := none
  method : Nat := 2
  image : List U8 := []
  imageId : List U8 := []
  blockSize : Nat := 64
  start : Nat := 0
  deadline : Nat := 1
  activateAt : Nat := 0
  doneKind : Nat := 1
  doneCode : List Nat := []
  doneValue : Int := 0
  failKind : Nat := 1
  failCode : List Nat := []
  supersede : Bool := false
  profiles : Option (List Nat) := none
  format : Nat := 0
  lead : List U8 := []
  maxParallel : Nat := 256
  retries : Nat := 5
deriving DecidableEq, Repr, Inhabited

/-- A key of an order (12 Table 12.7, 14 Table 14.7): role, index, KEY_VERSION, and the octets of WRAPPED, or in a mailbox of CLEAR. -/
structure WrappedKey where
  role : Nat := 1
  index : Nat := 0
  version : Nat := 1
  octets : List U8 := []
deriving DecidableEq, Repr, Inhabited

/-- The body of an ENROL order (12 Table 12.7), with the digest of the body. -/
structure EnrolOrder where
  identity : U64 := 1
  protocol : Nat := 1
  medium : Nat := 0
  calendar : Nat := 0
  veeProfile : Nat := 0
  balanceNode : Option Nat := none
  flags : Nat := 0
  keys : List WrappedKey := []
  energy : Option (List Nat) := none
  digest : Nat := 0
deriving DecidableEq, Repr, Inhabited

/-- The body of a KEYLOAD LOAD or ERASE (14 Table 14.7): `octets` of WRAPPED, or in a mailbox of CLEAR, are absent in an ERASE and may be absent
for role 1. -/
structure KeyloadBody where
  scope : Nat := 0
  role : Nat := 1
  index : Nat := 0
  identity : U64 := 0
  generation : Nat := 0
  version : Nat := 1
  octets : Option (List U8) := none
deriving DecidableEq, Repr, Inhabited

/-- A part of a manifest (13 Table 13.4). -/
structure MPart where
  kind : Nat := 1
  offset : Nat := 0
  length : Nat := 1
  version : Nat := 0
  hash : Nat := 0
deriving DecidableEq, Repr, Inhabited

/-- The header, header signature and part table of a manifest (13 Tables 13.3, 13.4) as bytes, and whether SIGNER_HASH names a manifest key whose
SHA-256 the ROM holds and the header signature verifies under it (13 R298, 14 R332). -/
structure ManifestHead where
  bytes : List U8 := []
  signerOk : Bool := true
deriving DecidableEq, Repr, Inhabited

/-- A DATA order of a manifest (13 Table 13.6): who ordered it, its bytes, whether the signature of a cadastre part that they complete verifies, and
what the standby of a pair answered: its outcome, slot state and NEXT_OFFSET. -/
structure StageData where
  headend : Nat := 1
  orderId : Nat := 1
  updateId : Nat := 1
  offset : Nat := 0
  bytes : List U8 := []
  cadOk : Bool := true
  partner : U16 × Nat × Nat := (0, 0, 0)
deriving DecidableEq, Repr, Inhabited

end Sys2Proof
end

