-- ==== Sys2Proof/Machine/TTrav.lean ====
section
/-! DEFINITION. State of parcels, the directory, the head cache, Traverse and the journal (chapters 03 and 04). -/

namespace Sys2Proof.Machine

/-- Parcel states (03 Table 3.3). -/
inductive ParcelState
  | free | active | retiring | restoring
deriving DecidableEq, Repr, Inhabited

/-- A key slot (03 Table 3.4). -/
structure KeySlot where
  /-- ROLE, 0 empty | 8 | 03 Table 3.4 -/
  role : Nat := 0
  /-- KEY_VERSION | 16 | 03 Table 3.4 -/
  version : Nat := 0
  /-- KEK_GEN | 32 | 03 Table 3.4 -/
  kekGen : Nat := 0
  /-- WRAPPED: the key under RFC 3394 with the PKEK of KEK_GEN | 24 bytes | 03 Table 3.4, R58 -/
  wrapped : List U8 := []
deriving DecidableEq, Repr, Inhabited

/-- LAST_CONFIRM of a parcel (03 R56): length, path, and what it confirms. -/
structure Confirm where
  /-- length in bytes, 0 none, at most 92 -/
  length : Nat := 0
  path : Nat := 0
  /-- the protocol it is built for and the extended counter it confirms -/
  protocol : Nat := 0
  counter : Nat := 0
deriving DecidableEq, Repr, Inhabited

/-- Channel state of a parcel (05 Table 5.10). -/
structure ChannelState where
  lastValue : Int := 0
  /-- source time of the last value in seconds, 0 empty -/
  lastTime : Nat := 0
  flatRun : Nat := 0
  flags : Nat := 0
  defTag : Nat := 0
  flatSince : Nat := 0
deriving DecidableEq, Repr, Inhabited

/-- REGISTERS of a parcel (06 Table 6.7). -/
structure Registers where
  /-- ENERGY, 32 x u64: tariff x direction x quantity -/
  energy : Tab Nat := []
  total : Tab Nat := []
  /-- maximum demand: (value, time) per slot and tariff -/
  md : Tab (Nat × Nat) := []
  degraded : Tab Nat := []
  periodsClosed : Nat := 0
  lateCredits : Nat := 0
  demandSkipped : Nat := 0
  periodStart : Nat := 0
deriving DecidableEq, Repr, Inhabited

/-- One demand slot of a parcel (06 Table 6.10); `endAt` is END_S, 0 empty. -/
structure DemandSlot where
  acc : Nat := 0
  endAt : Nat := 0
  tariff : Nat := 0
  minutes : Nat := 0
  incomplete : Bool := false
deriving DecidableEq, Repr, Inhabited

/-- DEMAND_STATE of a parcel (06 Table 6.9). -/
structure DemandState where
  slots : Tab DemandSlot := []
  /-- CARRY0 and CARRY1: per quantity u64 and tariff -/
  carry : Tab Nat := []
  carryTariff : Tab Nat := []
  carryBase : Nat := 0
  demandThrough : Nat := 0
  closedThrough : Nat := 0
deriving DecidableEq, Repr, Inhabited

/-- An interval slot of an endpoint (07 Table 7.6). -/
structure SteelSlot where
  imp : Nat := 0
  exp : Nat := 0
  /-- END_S, 0 empty -/
  endS : Nat := 0
  tamper : Bool := false
  voltage : Bool := false
deriving DecidableEq, Repr, Inhabited

/-- STEELYARD_STATE of a parcel (07 Table 7.6). Times are whole seconds, held in full. -/
structure SteelState where
  slots : Tab SteelSlot := []
  coveredFrom : Nat := 0
  coveredThrough : Nat := 0
  shortMean : Nat := 0
  longMean : Nat := 0
  score : Nat := 0
  zeroRun : Nat := 0
  producer : Bool := false
  reported : Bool := false
  isCheck : Bool := false
  nextNode : Nat := 0xFFFFFFFF
  nextFrom : Nat := 0
deriving DecidableEq, Repr, Inhabited

/-- THEODOLITE_STATE of a parcel (07 Table 7.7). -/
structure TheoState where
  votes : Tab Nat := []
  phase : Nat := 0
  source : Nat := 0
  voltPhase : Nat := 0
  agree : Nat := 0
  candidate : Nat := 0xFFFFFFFF
  rBest : Int := 0
  rSecond : Int := 0
  /-- PROPOSAL_INSTANT, 0 none -/
  proposal : Nat := 0
  /-- LAST_PASS_S -/
  lastPass : Nat := 0
  /-- pass instant of the proposal last accepted, for the repeat answer of R176 (the model's own) -/
  accepted : Nat := 0
deriving DecidableEq, Repr, Inhabited

/-- CAMPAIGN_STATE of a parcel (12 Table 12.10). -/
structure CampaignState where
  campaign : Nat := 0
  /-- EP_STATE (12 Table 12.9) -/
  ep : Nat := 0
  attempts : Nat := 0
  nextBlock : Nat := 0
  stateTime : Nat := 0
  lastCode : Nat := 0
  lastActivated : Nat := 0
  snapshotThrough : Nat := 0
deriving DecidableEq, Repr, Inhabited

/-- A reading record (05 Table 5.1). -/
structure Rec where
  value : Int := 0
  sourceTime : Nat := 0
  arrival : Nat := 0
  delta : Int := 0
  code : List Nat := []
  codeKind : Nat := 0
  channel : Nat := 0
  nunit : Nat := 0
  kind : Nat := 0
  exponent : Int := 0
  tq : Nat := 0
  quality : Nat := 0
  epStatus : Nat := 0
  editReason : Nat := 0
  identity : U64 := 0
  parcel : Nat := 0
  seq : Nat := 0
  generation : Nat := 0
  veeProfile : Nat := 0
deriving DecidableEq, Repr, Inhabited

/-- A staged series sample (08 Table 8.1). -/
structure ArchSample where
  value : Int := 0
  quality : Nat := 0
  edit : Nat := 0
  tq : Nat := 0
deriving DecidableEq, Repr, Inhabited

/-- A channel slot of the archive staging ring (08 Table 8.1). After closure it keeps its span base and, as the anchor of the
next span, the last instant's sample. -/
structure ArchSlot where
  anchor : Option Int := none
  /-- device time of instant 0 -/
  base : Nat := 0
  grain : Nat := 0
  count : Nat := 1
  /-- samples by instant; PRESENT has a bit for each -/
  samples : Tab ArchSample := []
  reset : Bool := false
  rollover : Bool := false
  isOpen : Bool := false
  /-- DEF_TAG, INTERVAL_S and KIND of the channel when it opened -/
  tag : Nat := 0
  interval : Nat := 1
  kind : Nat := 0
deriving DecidableEq, Repr, Inhabited

/-- ARCHIVE_STATE and the archive staging ring of a parcel (08 Tables 8.1, 8.2), part of its image record (08 R184). -/
structure ArchState where
  slots : Tab ArchSlot := []
  /-- reading records with the RECORD_SEQ they have, at most 10 -/
  verbatim : List Rec := []
  chunks : U32 := 0
  notArchived : Nat := 0
  sweepEpoch : U32 := 0
deriving DecidableEq, Repr, Inhabited

/-- A parcel (03 Table 3.2). -/
structure Parcel where
  /-- STATE | 8 | 03 Table 3.3 -/
  state : ParcelState := .free
  /-- GENERATION | 16 | 03 Table 3.3 -/
  generation : Nat := 0
  /-- IDENTITY | 64 | 03 R54 -/
  identity : U64 := 0
  /-- PROTOCOL | 8 | 03 Table 3.3 -/
  protocol : Nat := 0
  /-- MEDIUM | 8 | 03 Table 3.3 -/
  medium : Nat := 0
  /-- PATH | 8 | 03 Table 3.3 -/
  path : Nat := 0
  /-- PORT | 8 | 03 Table 3.3 -/
  port : Nat := 0xFF
  /-- CELL | 16 | 03 Table 3.3 -/
  cell : Nat := 0xFFFF
  /-- SHORT_ADDR | 16 | 03 Table 3.3 -/
  shortAddr : Nat := 0xFFFF
  /-- CALENDAR | 8 | 03 Table 3.3 -/
  calendar : Nat := 0
  /-- FLAGS.SLEEPY | 1 | 03 Table 3.3 -/
  sleepy : Bool := false
  /-- FLAGS.DOWNLINK_PENDING | 1 | 03 Table 3.3 -/
  downlinkPending : Bool := false
  /-- FLAGS.IN_CAMPAIGN | 1 | 03 Table 3.3 -/
  inCampaign : Bool := false
  /-- FLAGS.KEY_INVALID | 1 | 03 R58 -/
  keyInvalid : Bool := false
  /-- PRODUCER of the ENROL entry | 1 | 03 Table 3.12 -/
  producer : Bool := false
  /-- FC_HIGH | 64 | 04 R93 -/
  fcHigh : Nat := 0
  /-- FC_WINDOW | 64 | 04 R90 -/
  fcWindow : U64 := 0
  /-- LAST_ACCEPT_TIME | 64 | 03 Table 3.3 -/
  lastAccept : Nat := 0
  /-- LAST_SOURCE_TIME | 64 | 03 Table 3.3 -/
  lastSource : Nat := 0
  /-- LAST_EPOCH | i64 | 03 Table 3.3 -/
  lastEpoch : Int := 0
  /-- KEY_SLOT0 to KEY_SLOT5 | 6 x 48 bytes | 03 Table 3.4 -/
  keys : Tab KeySlot := []
  /-- BALANCE_NODE | 32 | 03 Table 3.3 -/
  balanceNode : Nat := 0xFFFFFFFF
  /-- VEE_PROFILE | 16 | 03 Table 3.3 -/
  veeProfile : Nat := 0
  /-- CHANNEL_COUNT | 8 | 03 Table 3.3 -/
  channelCount : Nat := 0
  /-- LINK_STATE, 16 bytes as numbers in byte order | 128 | 03 Table 3.3 -/
  linkState : List Nat := []
  /-- LAST_CONFIRM | 96 bytes | 03 R56 -/
  lastConfirm : Confirm := {}
  /-- REGISTERS | 512 bytes | 06 Table 6.7 -/
  registers : Registers := {}
  /-- DEMAND_STATE | 128 bytes | 06 Table 6.9 -/
  demand : DemandState := {}
  /-- CHANNEL_STATE | 16 x 16 bytes | 05 Table 5.10 -/
  channels : Tab ChannelState := []
  /-- STEELYARD_STATE | 64 bytes | 07 Table 7.6 -/
  steel : SteelState := {}
  /-- THEODOLITE_STATE | 64 bytes | 07 Table 7.7 -/
  theo : TheoState := {}
  /-- CAMPAIGN_STATE | 64 bytes | 12 Table 12.10 -/
  campaign : CampaignState := {}
  /-- ARCHIVE_STATE and the staging ring | 64 + 4,096 bytes | 08 Tables 8.1, 8.2 -/
  archive : ArchState := {}
  /-- DOWNLINK_STATE: port, buffer number, sender and request number, elapsed time since which it is pending, oldest first | 40 bytes | 10 Table 10.4 -/
  downlink : List (Nat × Nat × Nat × Nat) := []
  /-- ADMIN.ENROL_TIME | 64 | 03 Table 3.2 -/
  enrolTime : Nat := 0
  /-- ADMIN.ENROL_DIGEST | 128 | 03 Table 3.2 -/
  enrolDigest : Nat := 0
  /-- ADMIN.RETIRE_TIME | 64 | 03 Table 3.2 -/
  retireTime : Nat := 0
  /-- ADMIN.LAST_KEYLOAD_TIME | 64 | 03 Table 3.2 -/
  lastKeyload : Nat := 0
  /-- JSN of the RETIRE entry, 0 none (03 Table 3.14) | 64 | 03 R457 -/
  retireJsn : Nat := 0
  /-- RETIRE accepted, entry not yet committed | 1 | 03 R75 -/
  retireAccepted : Bool := false
  /-- KEY_INVALID entry pending | 1 | 03 R58 -/
  keyInvalidPending : Bool := false
deriving DecidableEq, Repr, Inhabited

/-- A downlink handed to a path within the running command (04 R98, 12 R292): its kind (0 confirmation, 1 campaign frame, 2
campaign abort or activation), parcel, path and address, length, priority, and the extended counter a confirmation confirms. -/
structure Down where
  kind : Nat := 0
  parcel : Nat := 0
  path : Nat := 0
  port : Nat := 0xFF
  cell : Nat := 0xFFFF
  shortAddr : Nat := 0xFFFF
  length : Nat := 0
  /-- the bytes it carries to the endpoint -/
  content : List U8 := []
  priority : Nat := 0
  expiry : Nat := 0
  /-- campaign block number, or the counter confirmed -/
  number : Nat := 0
  /-- a confirmation sent again under R92 -/
  again : Bool := false
  /-- endpoint-table entry on a radio port -/
  entry : Nat := 0xFFFF
  /-- LOCAL_ADDR and FORMAT of an endpoint behind a cell node (11 Table 11.7) -/
  localAddr : Nat := 0
  format : Nat := 1
deriving DecidableEq, Repr, Inhabited

/-- A directory entry (03 Table 3.6). -/
structure DirEntry where
  identity : U64
  index : Nat
  state : Nat
  generation : Nat
deriving DecidableEq, Repr, Inhabited

/-- Where a cached head lies (03 R68). -/
inductive HeadPlace
  | slot (set : Nat) | bypass | writeBack
deriving DecidableEq, Repr, Inhabited

/-- A cached head (03 "The head cache"). -/
structure HeadLine where
  identity : U64
  index : Nat
  place : HeadPlace
  dirty : Bool := false
  age : Nat := 0
  pins : Nat := 0
  /-- elapsed time at which it entered the write-back buffer -/
  since : Nat := 0
deriving DecidableEq, Repr, Inhabited

/-- The parcel store, directory and head cache. -/
structure StoreSt where
  /-- parcel store, by index; an unlisted index is FREE with generation 0 | table | 03 R55 -/
  parcels : Tab Parcel := []
  /-- free list, head first, as ranges of indices (first, one past the last) | list | 03 R73 -/
  free : List (Nat × Nat) := []
  /-- capacity the free list was laid out for | 32 | 03 R74 -/
  capacity : Nat := 0
  /-- directory buckets: up to four entries each | table | 03 R62 -/
  buckets : Tab (List DirEntry) := []
  /-- directory stash, at most 64 | list | 03 R64 -/
  stash : List DirEntry := []
  /-- which draw of the directory's hash keys is in force | 64 | 03 R63 -/
  hashDraw : Nat := 0
  /-- buckets being rebuilt, oldest first; REBUILD is set while there is one | list | 03 R79 -/
  rebuild : List Nat := []
  /-- cached heads | list | 03 R67 to R69 -/
  heads : List HeadLine := []
  /-- outstanding misses: identity and the ASNs joined to it, oldest first, at most 256 | list | 03 R70 -/
  misses : List (U64 × List Nat) := []
  /-- HC_HITS | 32 | 03 Table 3.9 -/
  hits : U32 := 0
  /-- HC_MISSES | 32 | 03 Table 3.9 -/
  missCount : U32 := 0
  /-- HC_MERGED | 32 | 03 Table 3.9 -/
  merged : U32 := 0
  /-- HC_BYPASS | 32 | 03 Table 3.9 -/
  bypass : U32 := 0
  /-- HC_DIRTY_EVICT | 32 | 03 Table 3.9 -/
  dirtyEvict : U32 := 0
  /-- DIR_UNKNOWN | 32 | 03 Table 3.9 -/
  unknown : U32 := 0
  /-- DIR_MOVES | 32 | 03 Table 3.9 -/
  moves : U32 := 0
  /-- background rewrap under a new PKEK running | 1 | 03 R59 -/
  rewrap : Bool := false
  /-- parcel image in NAND: parcel and IMAGE_JSN, by index | table | 04 R101, 08 R202 -/
  image : Tab (Parcel × Nat) := []
  /-- capacity recorded in the parcel image | 32 | 03 R74 -/
  imageCapacity : Nat := 0
  /-- free list recorded with the parcel image and its JSN | list | 03 R73 -/
  imageFree : List (Nat × Nat) × Nat := ([], 0)
deriving DecidableEq, Repr, Inhabited

/-- READING entry tail (04 Table 4.6). -/
structure ReadTail where
  linkState : List Nat := []
  path : Nat := 0
  port : Nat := 0xFF
  cell : Nat := 0xFFFF
  shortAddr : Nat := 0xFFFF
  confirm : Confirm := {}
deriving DecidableEq, Repr, Inhabited

/-- ENROL entry body (03 Table 3.12). -/
structure EnrolBody where
  orderId : Nat := 0
  headend : Nat := 0
  digest : Nat := 0
  enrolDigest : Nat := 0
  identity : U64 := 0
  protocol : Nat := 0
  medium : Nat := 0
  calendar : Nat := 0
  producer : Bool := false
  sleepy : Bool := false
  veeProfile : Nat := 0
  balanceNode : Nat := 0xFFFFFFFF
  keys : Tab KeySlot := []
  energy : Option (Tab Nat) := none
deriving DecidableEq, Repr, Inhabited

/-- Bodies of journal entries (04 Table 4.5). -/
inductive JBody
  /-- READING (04 R96) -/
  | reading (records : List Rec) (tail : ReadTail)
  /-- ENROL (03 Table 3.12) -/
  | enrol (b : EnrolBody)
  /-- RETIRE (03 Table 3.13) -/
  | retire (orderId headend digest : Nat) (identity : U64)
  /-- RELEASE (03 Table 3.14) -/
  | release (identity : U64) (retireJsn : Nat) (epoch : Int)
  /-- KEYLOAD (03 Table 3.15); `slot = none` clears nothing but the slot named by an ERASE -/
  | keyload (orderId headend digest source slotNo : Nat) (slot : KeySlot)
  /-- BOUNDARY (06): kind 0 CLOSURE, 1 TQ, 2 CELL_STATE and others, with its numbers -/
  | boundary (kind : Nat) (nums : List Int)
  /-- CALENDAR_ACTIVATE (06 R144) -/
  | calendarActivate (nums : List Int)
  /-- EPOCH_SEAL (04 Table 4.5) -/
  | epochSeal (epoch : Int) (root : Nat) (epochMs : Nat) (offset : Int)
  /-- LMS_RESERVE (14 R334) -/
  | lmsReserve (nums : List Int)
  /-- ORDER (12 R287): kind, source, ORDER_ID, HEADEND_ID, digest and body numbers -/
  | order (kind source orderId headend digest : Nat) (nums : List Int)
deriving DecidableEq, Repr, Inhabited

/-- A journal entry (04 Table 4.4). -/
structure JEntry where
  jsn : Nat := 0
  asn : Nat := 0
  arrival : Nat := 0
  admitAt : Nat := 0
  counter : Nat := 0
  parcel : Option Nat := none
  generation : Nat := 0
  body : JBody := .boundary 0 []
  /-- the profile set of the admission epoch, which every reader of the entry uses (05 R119) -/
  profiles : List (List Int) := []
  /-- ARCHIVE_GRAIN in force at the commit, which the slots that the entry opens take (08 R183, R184) -/
  grains : List (List Int) := []
  /-- the epoch of admission, from device time and the EPOCH_OFFSET then in force (01 R22, R24; the model's own, log 102) -/
  epoch : Int := 0
  /-- BODY of an ORDER entry that carries one as received (12 R287) -/
  received : List U8 := []
  /-- LENGTH in bytes -/
  length : Nat := 64
deriving DecidableEq, Repr, Inhabited

/-- Tag states (04 Table 4.2); a FREE tag is not listed. -/
inductive TagState
  | lookup | joined | secured | ready | committed
deriving DecidableEq, Repr, Inhabited

/-- A tag in use (04 R84). -/
structure Tag where
  /-- ARCHIVE_GRAIN in force at its commit (08 R184) -/
  grains : List (List Int) := []
  /-- state | 3 | 04 Table 4.2 -/
  state : TagState := .lookup
  /-- ASN | 64 | 04 R83 -/
  asn : Nat := 0
  /-- arrival stamp, device time | 64 | 04 R83 -/
  arrival : Nat := 0
  /-- admission time, device time | 64 | 04 R84 -/
  admitAt : Nat := 0
  /-- epoch of the admission time | i64 | 01 R24 -/
  epoch : Int := 0
  /-- time quality at admission | 2 | 05 Table 5.1 -/
  tq : Nat := 0
  /-- profile set in force at the start of the epoch of admission | list | 05 R119 -/
  profiles : List (List Int) := []
  /-- payload items not mapped by stage 5 | 16 | 05 R123 -/
  unmapped : Nat := 0
  /-- estimated values and gaps left unestimated by stage 6 | 2 x 32 | 05 R132 -/
  estimates : Nat × Nat := (0, 0)
  /-- frame and path in the tag buffer | 2,048 bytes | 04 R84 -/
  arr : Arrival := {}
  /-- parcel index delivered by the lookup | 24 | 04 R84 -/
  parcel : Option Nat := none
  /-- generation delivered | 16 | 03 R70 -/
  generation : Nat := 0
  /-- key slots in force at admission | 6 slots | 03 R78 -/
  keys : Tab KeySlot := []
  /-- parcel and generation whose slots `keys` holds | record | 03 R72, R78 -/
  keysOf : Option (Nat × Nat) := none
  /-- place in the join order of the domains | 64 | 04 R87 -/
  joinNo : Nat := 0
  /-- extended frame counter | 64 | 04 R89 -/
  counter : Nat := 0
  /-- shadowed tag | 64 | 04 R91 -/
  shadowOf : Option Nat := none
  /-- records built | list | 04 R84 -/
  records : List Rec := []
  /-- stage 5 done | 1 | 04 R81 -/
  normal : Bool := false
  /-- LAST_TIME of each record's channel before it, for stage 8 | list | 06 R149 -/
  prevs : List Nat := []
  /-- confirmation built | 96 bytes | 04 R98 -/
  confirm : Confirm := {}
  /-- JSN assigned | 64 | 04 R97 -/
  jsn : Nat := 0
  /-- ITEM of its SHADOW frame, 0 none | 64 | 15 R345 -/
  item : Nat := 0
  /-- stage 8 done | 1 | 04 R85 -/
  regDone : Bool := false
  /-- stage 9 done: queued for the Steelyard | 1 | 04 R85 -/
  steelDone : Bool := false
  /-- stage 10 done: queued for the archive compressor | 1 | 04 R85 -/
  archDone : Bool := false
  /-- stage 11 done: queued for the sheet builder | 1 | 04 R85 -/
  sheetDone : Bool := false
deriving DecidableEq, Repr, Inhabited

/-- An entry waiting in a parcel's ordering domain (03 R75, R78, R58, R76). -/
structure DomainItem where
  joinNo : Nat := 0
  parcel : Nat := 0
  body : JBody := .boundary 0 []
  /-- head end and ORDER_ID to answer, if any -/
  answer : Option (Nat × Nat) := none
  /-- mailbox channel to acknowledge, if any -/
  channel : Option Nat := none
  /-- BODY of an order as its entry carries it -/
  received : List U8 := []
deriving DecidableEq, Repr, Inhabited

/-- An error handling of the containment classes (04 R110, R111, R458). -/
structure Handling where
  /-- number of the handling -/
  id : Nat := 0
  cls : Nat := 2
  /-- what it acts on: block number, or parcel + 65536, or operation -/
  scope : Scope := .block 0
  code : U16 := 0
  /-- SEQ of its first record -/
  seq : Nat := 0
  started : Bool := true
  /-- handling it waits on -/
  behind : Option Nat := none
  /-- failures of the C2 operation so far -/
  failures : Nat := 1
  /-- elapsed time at which it (or its present class) began -/
  since : Nat := 0
  payload : List U32 := []
deriving DecidableEq, Repr, Inhabited

/-- A committed tag's copy of its records in an engine's input queue (04 R81, R85). -/
structure EngineItem where
  asn : Nat := 0
  parcel : Nat := 0
  entry : JEntry := {}
  records : List Rec := []
  tail : ReadTail := {}
  prevs : List Nat := []
deriving DecidableEq, Repr, Inhabited

/-- A background work item (04 R108). -/
structure WorkItem where
  enqueued : Nat := 0
  level : Nat := 0
  promoted : Bool := false
  preempting : Bool := false
deriving DecidableEq, Repr, Inhabited

/-- Traverse (04 Table 4.10). -/
structure TravSt where
  /-- tags in use, in ASN order, at most 1,024 | list | 04 R84 -/
  tags : List Tag := []
  /-- entries waiting in their domains | list | 04 R88 -/
  items : List DomainItem := []
  /-- next place in the join order | 64 | 04 R87 -/
  nextJoin : Nat := 1
  /-- burst staging in ASN order | list | 04 R84 -/
  staged : List Tag := []
  /-- bytes of burst staging in use | 32 | 04 R106 -/
  stagedBytes : Nat := 0
  /-- next ASN | 64 | 04 R83 -/
  nextAsn : Nat := 1
  /-- BP_ACT | 1 | 04 R106 -/
  bpAct : Bool := false
  /-- BP_LOCAL | 1 | 04 R106 -/
  bpLocal : Bool := false
  /-- admissions stopped (C4, SLOW_HOLD, last gasp) | 1 | 04 R112, 16 Table 16.7 -/
  stopped : Bool := false
  /-- blocks draining for a quiescent value | list | 02 R50 -/
  drains : List Nat := []
  /-- ADMITTED | 32 | 04 Table 4.10 -/
  admitted : U32 := 0
  /-- COMMITTED | 32 | 04 Table 4.10 -/
  committed : U32 := 0
  /-- DUPLICATES | 32 | 04 Table 4.10 -/
  duplicates : U32 := 0
  /-- CONFIRM_RESENT | 32 | 04 Table 4.10 -/
  resent : U32 := 0
  /-- REPLAY_STALE | 32 | 04 Table 4.10 -/
  stale : U32 := 0
  /-- AUTH_FAIL | 32 | 04 Table 4.10 -/
  authFail : U32 := 0
  /-- KEY_FAIL | 32 | 04 Table 4.10 -/
  keyFail : U32 := 0
  /-- FORMAT_FAIL | 32 | 04 Table 4.10 -/
  formatFail : U32 := 0
  /-- CONFIRM_SENT | 32 | 04 Table 4.10 -/
  confirmSent : U32 := 0
  /-- BP_EVENTS | 32 | 04 Table 4.10 -/
  bpEvents : U32 := 0
  /-- STAGING_FULL | 32 | 04 Table 4.10 -/
  stagingFull : U32 := 0
  /-- JSN_HI latch | 32 | 04 R113 -/
  jsnHi : U32 := 0
  /-- GEN_SKIPPED | 32 | 04 Table 4.10 -/
  genSkipped : U32 := 0
  /-- reading counters of Table 5.11, by register offset | 14 x 32 | 05 R135 -/
  reads : Tab U32 := []
  /-- PROMOTIONS | 32 | 04 Table 4.10 -/
  promotions : U32 := 0
  /-- PREEMPT_SLOTS | 32 | 04 Table 4.10 -/
  preempts : U32 := 0
  /-- CONTAIN_C1 | 32 | 04 Table 4.10 -/
  c1 : U32 := 0
  /-- CONTAIN_C2 | 32 | 04 Table 4.10 -/
  c2 : U32 := 0
  /-- CONTAIN_C3 | 32 | 04 Table 4.10 -/
  c3 : U32 := 0
  /-- open handlings above C1, oldest first | list, at most 2 | 04 R111 -/
  handlings : List Handling := []
  /-- next handling number | 64 | 04 R111 -/
  nextHandling : Nat := 1
  /-- a C4 fault is being handled: its code | 16 | 04 R112 -/
  c4 : Option U16 := none
  /-- engine input queues: 1 Steelyard, 2 archive compressor, each in commit order | 2 lists | 04 R81, R105 -/
  engines : Tab (List EngineItem) := []
  /-- work queues of Table 4.8 by class, oldest first | 6 lists | 04 R107 -/
  work : Tab (List WorkItem) := []
  /-- class that took the last preempting slot of a shared resource, keyed by the resource's lowest class | 3 each | 04 R108 -/
  slotTurn : Tab Nat := []
  /-- parcel image writer at preempting priority | 1 | 04 R100 -/
  imageUrgent : Bool := false
deriving DecidableEq, Repr, Inhabited

/-- A BOUNDARY entry as the engines read it back (06 Table 6.11). -/
structure BoundaryEntry where
  jsn : Nat := 0
  kind : Nat := 1
  calendar : Nat := 0xFF
  period : Bool := false
  catchUp : Bool := false
  through : Nat := 0
  prevThrough : Nat := 0
  nextAsn : Nat := 0
  billingTime : Nat := 0
  periodEnd : Nat := 0
deriving DecidableEq, Repr, Inhabited

/-- The journal (04 R94 to R104, R454). -/
structure JournalSt where
  /-- entries committed and still kept, oldest first (reserve and tail; PAD is not listed) | list | 04 R94 -/
  entries : List JEntry := []
  /-- last assigned JSN | 64 | 04 R94, R113 -/
  lastJsn : Nat := 0
  /-- bytes of the staging ring not yet collected into a DRAM page | 32 | 04 R97 -/
  ring : Nat := 0
  /-- bytes in the open page | 17 | 04 R94 -/
  pageFill : Nat := 0
  /-- last JSN in each full page not yet written, oldest first | list | 04 R99 -/
  pages : List Nat := []
  /-- highest JSN in the reserve | 64 | 04 R99 -/
  durable : Nat := 0
  /-- last JSN of each page in the reserve ring, oldest first | list | 04 R100 -/
  reserve : List Nat := []
  /-- JSN of the last EPOCH_SEAL entry | 64 | 04 R454 -/
  lastSeal : Nat := 0
  /-- epoch, EPOCH_MS and boundary of the last EPOCH_SEAL entry | record | 01 R23 -/
  sealed : Option (Int × Nat × Nat) := none
  /-- watermarks: tariff engine, Steelyard, archive, sheet builder | 4 x 64 | 04 R101 -/
  marks : Tab Nat := []
  /-- first ASN of the run, or the highest NEXT_ASN used | 64 | 04 R83 -/
  firstAsn : Nat := 1
  /-- journal losses to report in the first sheet: EVENT 19 with JSN and parcel (0xFFFFFF a whole page), EVENT 20 with first and last JSN | list | 04 R103, R112 -/
  losses : List (U16 × Nat × Nat) := []
  /-- entries bound to no parcel that fell due before ingest: kind and body of device-made ORDER entries | list | 04 R456 -/
  waiting : List (Nat × List Int) := []
  /-- is a replay or C3 reload running, REPLAYING | 1 | 04 Table 4.11 -/
  replaying : Bool := false
deriving DecidableEq, Repr, Inhabited

end Sys2Proof.Machine
end

