-- ==== Sys2Proof/Machine/TBill.lean ====
section
/-! DEFINITION. State of billing time and calendars (chapter 06). -/

namespace Sys2Proof.Machine

/-- A calendar version: its image as bytes, the instant from which it applies, and the ORDER entry that loaded it
(06 R138, R143, R144). -/
structure CalVersion where
  image : List Nat := []
  activation : Nat := 0
  orderJsn : Nat := 0
deriving DecidableEq, Repr, Inhabited

/-- A calendar of the calendar store (06 R142 to R144). -/
structure CalSlot where
  /-- current version | up to 1,504 bytes | 06 R144 -/
  current : Option CalVersion := none
  /-- previous version | up to 1,504 bytes | 06 R144 -/
  previous : Option CalVersion := none
  /-- passive version pending | up to 1,504 bytes | 06 R143 -/
  passive : Option CalVersion := none
deriving DecidableEq, Repr, Inhabited

/-- A sweep over the parcel store (06 R155, 12 R288): of a closure of a calendar, or of a snapshot mark. -/
structure Sweep where
  /-- calendar of a closure, none for a snapshot mark -/
  calendar : Option Nat := none
  /-- epoch in which the entry committed -/
  epoch : Int := 0
  /-- next slice -/
  slice : Nat := 0
  /-- THROUGH of the closure, or AT of the mark -/
  through : Nat := 0
  jsn : Nat := 0
  /-- parcels whose tag admitted before the entry had not retired when their slice came -/
  waiting : List Nat := []
deriving DecidableEq, Repr, Inhabited

/-- A snapshot mark ordered by a head end (12 R288): scope 0 all, 1 calendar, 2 list. -/
structure SnapMark where
  at_ : Nat := 0
  scope : Nat := 0
  calendar : Nat := 0
  identities : List U64 := []
  /-- once committed: JSN and NEXT_ASN of its SNAPSHOT_MARK entry -/
  committed : Option (Nat × Nat) := none
deriving DecidableEq, Repr, Inhabited

/-- Billing time and boundary entries (06). -/
structure BillingSt where
  /-- billing time | 64 | 06 R136 -/
  time : Nat := 0
  /-- BILLING_TIME_HI latch | 32 | 06 R159 -/
  timeHi : U32 := 0
  /-- committed BOUNDARY entries, newest first | list | 06 R151 -/
  bounds : List BoundaryEntry := []
  /-- a TQ entry is due and waits | 1 | 06 R137 -/
  tqDue : Bool := false
  /-- device time at which time quality last passed between good and bad, or was set at start-up step 5 (log 97) | 64 | 06 R137 -/
  tqAt : Nat := 0
  /-- device time at which billing time last began to move again: closures due before it are CATCH_UP | 64 | 06 R150 -/
  resumed : Nat := 0
  /-- calendar store, calendars 0 to 31 | table | 06 R142 -/
  cals : Tab CalSlot := []
  /-- calendar store saved with the parcel image, and its JSN | table | 06 R142 -/
  saved : Tab CalSlot × Nat := ([], 0)
  /-- sweeps running, oldest first | list | 06 R155, 12 R288 -/
  sweeps : List Sweep := []
  /-- snapshot marks: pending, then committed ones whose sweep runs | list | 12 R288 -/
  marks : List SnapMark := []
  /-- CREDITS | 32 | 06 Table 6.14 -/
  credits : U32 := 0
  /-- DEGRADED_CREDITS | 32 | 06 Table 6.14 -/
  degradedCredits : U32 := 0
  /-- CORRECTIONS | 32 | 06 Table 6.14 -/
  corrections : U32 := 0
  /-- DEMAND_EXCLUDED | 32 | 06 Table 6.14 -/
  excluded : U32 := 0
  /-- MD_UPDATES | 32 | 06 Table 6.14 -/
  mdUpdates : U32 := 0
  /-- PERIOD_CLOSES | 32 | 06 Table 6.14 -/
  periodCloses : U32 := 0
  /-- BOUNDARY_COMMITS | 32 | 06 Table 6.14 -/
  boundaryCommits : U32 := 0
  /-- ACTIVATIONS | 32 | 06 Table 6.14 -/
  activations : U32 := 0
deriving DecidableEq, Repr, Inhabited

end Sys2Proof.Machine
end

