-- ==== Sys2Proof/Machine/THx.lean ====
section
/-! DEFINITION. State of Head-end Exchange, sheets and campaigns (chapter 12). -/

namespace Sys2Proof.Machine

/-- An HX session (12 R270 to R274, R280, R281). -/
structure HxSession where
  sid : Nat := 0
  headend : Nat := 0
  /-- version negotiated, 0 before OPEN -/
  version : Nat := 0
  /-- next sheet to send, once subscribed -/
  next : Option Int := none
  /-- highest sheet sent -/
  sent : Option Int := none
  /-- sheets sent and not covered by a SHEET_ACK -/
  window : List Int := []
  /-- THROUGH of the session -/
  through : Option Int := none
  /-- elapsed times: opened, last received, last sent, last REPORT -/
  openedAt : Nat := 0
  lastRx : Nat := 0
  lastTx : Nat := 0
  lastReport : Nat := 0
deriving DecidableEq, Repr, Inhabited

/-- An item of sections 1 to 5 of a sheet, with the journal entry it comes from (12 R275, R278, Table 12.3). -/
structure SheetItem where
  epoch : Int := 0
  sec : Nat := 5
  jsn : Nat := 0
  nums : List Int := []
deriving DecidableEq, Repr, Inhabited

/-- A signed sheet (12 R276 to R279). -/
structure Sheet where
  epoch : Int := 0
  leaves : List Rec := []
  items : List SheetItem := []
  /-- SEAL fields (12 Table 12.5) -/
  flags : Nat := 0
  epochMs : Nat := 0
  firstJsn : Nat := 0
  lastJsn : Nat := 0
  root : Nat := 0
  digest : Nat := 0
  prevSeal : Nat := 0
  sealHash : Nat := 0
  /-- LMS leaf that signed it -/
  leaf : Nat := 0
deriving DecidableEq, Repr, Inhabited

/-- A campaign (12 R290 to R293). Members are fixed at commit. -/
structure Campaign where
  number : Nat := 0
  jsn : Nat := 0
  method : Nat := 1
  imageHash : Nat := 0
  /-- image, held in DRAM and in the campaign section -/
  image : List U8 := []
  imageId : List U8 := []
  blockSize : Nat := 64
  start : Nat := 0
  deadline : Nat := 0
  activateAt : Nat := 0
  /-- DONE: CODE_KIND, CODE, VALUE -/
  doneKind : Nat := 0
  doneCode : List Nat := []
  doneValue : Int := 0
  /-- FAIL: CODE_KIND, CODE -/
  failKind : Nat := 0
  failCode : List Nat := []
  /-- method 2 FORMAT -/
  format : Nat := 0
  /-- PREFIX of method 2 -/
  lead : List U8 := []
  /-- the activation has been sent, at ACTIVATE_AT -/
  activated : Bool := false
  maxParallel : Nat := 256
  retries : Nat := 5
  members : List Nat := []
  excluded : Nat := 0
deriving DecidableEq, Repr, Inhabited

/-- A row of the repeat table (12 R285): the recorded answer of an order. -/
structure RepeatRow where
  orderId : Nat := 0
  digest : Nat := 0
  outcome : U16 := 0
  /-- the map of DETAIL as sent, empty where there is none -/
  detail : List U8 := []
  jsn : Nat := 0
  /-- session it came on, and whether its answer is still to come -/
  sid : Nat := 0
  waits : Bool := false
  /-- sessions on which it was repeated meanwhile -/
  repeaters : List Nat := []
deriving DecidableEq, Repr, Inhabited

/-- Head-end Exchange (12). -/
structure HxSt where
  /-- HX_STATUS.LISTENING | 1 | 12 Table 12.12 -/
  listening : Bool := false
  /-- listen_start, device time | 64 | 12 R285 -/
  listenStart : Nat := 0
  /-- open sessions, at most 8 | list | 12 R271 -/
  sessions : List HxSession := []
  /-- next session number (the model's own, names a session) | 64 | 12 R271 -/
  nextSid : Nat := 1
  /-- ACK_THROUGH by HEADEND_ID | table | 12 R281 -/
  acks : Tab Int := []
  /-- ACK_THROUGH values saved with the parcel image | table | 12 R281 -/
  acksSaved : Tab Int := []
  /-- repeat table by HEADEND_ID: ORDER_ID, digest, outcome, detail, JSN; at most 4,096 each | table | 12 R285 -/
  repeats : Tab (List RepeatRow) := []
  /-- elapsed time of the last connection attempt by HEADEND_ID | table | 12 R270 -/
  called : Tab Nat := []
  /-- sheets held, ascending epochs | list, 1 GiB | 12 R282 -/
  sheets : List Sheet := []
  /-- sections 1 to 5 of epochs whose journal pages remain | list | 12 R275, R282 -/
  items : List SheetItem := []
  /-- journal ranges: epoch, last JSN, time quality at seal, EPOCH_MS | list | 12 R275, Table 12.5 -/
  ranges : List (Int × Nat × Nat × Nat) := []
  /-- epoch whose seal this unit signed last in the current run, and that seal | record | 12 R279 -/
  chain : Option (Int × Nat) := none
  /-- identities named by UNKNOWN_ENDPOINT: identity, device time of the event, frames refused since | list | 12 Table 12.4 -/
  unknowns : List (U64 × Nat × Nat) := []
  /-- campaign downlinks that ended, with their outcomes, for CAMPAIGN_BLOCK_OUTCOME | list | 12 R292 -/
  ended : List (Down × U16) := []
  /-- running campaigns | table, at most 64 | 12 R290 -/
  campaigns : Tab Campaign := []
  /-- campaign section of the image area: image and group by hash, readable or not | table | 12 R291 -/
  campImages : Tab Bool := []
  /-- campaigns copied from the active before their ORDER entries | table | 15 R346 -/
  copies : Tab Campaign := []
  /-- HX_TLS_FAIL | 32 | 12 Table 12.11 -/
  tlsFail : U32 := 0
  /-- SHEETS_SIGNED | 32 | 12 Table 12.11 -/
  signed : U32 := 0
  /-- SHEETS_SENT | 32 | 12 Table 12.11 -/
  sheetsSent : U32 := 0
  /-- SHEETS_REBUILT | 32 | 12 Table 12.11 -/
  rebuilt : U32 := 0
  /-- ORDERS_RECEIVED | 32 | 12 Table 12.11 -/
  received : U32 := 0
  /-- ORDERS_ACCEPTED | 32 | 12 Table 12.11 -/
  accepted : U32 := 0
  /-- ORDERS_REFUSED | 32 | 12 Table 12.11 -/
  refused : U32 := 0
  /-- ORDERS_REPEAT | 32 | 12 Table 12.11 -/
  repeated : U32 := 0
  /-- ORDER_SIG_FAIL | 32 | 12 Table 12.11 -/
  sigFail : U32 := 0
  /-- EXTRACTS | 32 | 12 Table 12.11 -/
  extracts : U32 := 0
  /-- CAMPAIGN_BLOCKS | 32 | 12 Table 12.11 -/
  blocks : U32 := 0
  /-- CAMPAIGN_FAILED | 32 | 12 Table 12.11 -/
  campFailed : U32 := 0
  /-- ACK_HI latch | 32 | 12 R294 -/
  ackHi : U32 := 0
deriving DecidableEq, Repr, Inhabited

end Sys2Proof.Machine
end

