-- ==== Sys2Proof/Machine/TKeys.lean ====
section
/-! DEFINITION. State of keys, roots, lifecycle and device update (chapters 13 and 14). -/

namespace Sys2Proof.Machine

/-- A loaded vault slot (14 Table 14.6): role code, KEY_VERSION and the key. -/
structure VaultKey where
  role : Nat := 0
  version : Nat := 0
  key : Nat := 0
deriving DecidableEq, Repr, Inhabited

/-- A carried key: role, index, KEY_VERSION and key (14 Table 14.7). -/
structure CarriedKey where
  role : Nat := 0
  index : Nat := 0
  version : Nat := 0
  key : Nat := 0
deriving DecidableEq, Repr, Inhabited

/-- An accepted state change that waits for its boundary (14 R320). -/
structure StateChange where
  newState : Nat := 3
  /-- elapsed time of acceptance -/
  accepted : Nat := 0
  /-- first epoch boundary after step 2, device time -/
  boundary : Nat := 0
  carry : List CarriedKey := []
deriving DecidableEq, Repr, Inhabited

/-- Keys and lifecycle (14). -/
structure KeySt where
  /-- lifecycle code in OTP: 0 BLANK, 1 MANUFACTURE, 2 PROVISION, 3 DEPLOY, 5 RMA, 6 SCRAP | 5 fuses | 14 R317 (no reset value: OTP, log 22) -/
  state : Nat := 1
  /-- MAINTENANCE flag of the warden record | 1 | 14 R317 -/
  maintenance : Bool := false
  /-- source of this start's root, and the OTP field ROOT_SOURCE once it is written: 0 none, 1 PUF, 2 fuses | 2 | 14 R314, R316 -/
  rootSource : Nat := 0
  /-- ROOT_SOURCE_INIT of the cadastre last accepted, kept beside the highest SERIAL (log 42) | 8 | 02 R35 -/
  rootInit : Nat := 0
  /-- ROOT_LOCKED, ROOT_SOURCE written in OTP | 1 | 14 R316 (no reset value: OTP, log 22) -/
  rootLocked : Bool := false
  /-- the root of this start was produced | 1 | 14 R314 -/
  rootOk : Bool := false
  /-- fuse root blown | 1 | 14 Table 14.3 (no reset value: OTP, log 22) -/
  fuseRoot : Bool := true
  /-- PUF helper data enrolled in OTP | 1 | 14 R315 (no reset value: OTP, log 22) -/
  enrolled : Bool := false
  /-- PUF_ERRORS | 8 | 14 R315 -/
  pufErrors : Nat := 0
  /-- the JTAG challenge of RMA has been answered; no row answers one (log 43) | 1 | 14 Table 14.2 -/
  challenge : Bool := false
  /-- uid, device identifier in OTP | 64 | 14 R323 (no reset value: OTP, log 22) -/
  uid : Nat := 0
  /-- SECURITY_FLOOR in OTP | 32 | 13 R299 (no reset value: OTP, log 22) -/
  floor : Nat := 0
  /-- vault slots 0 to 63 in use | 256 x 256 | 14 R324, Table 14.6 -/
  vault : Tab VaultKey := []
  /-- vault section of the image area | table | 14 R326 -/
  vaultSaved : Tab VaultKey := []
  /-- draw of the permutation of physical slot addresses | 64 | 14 R324 -/
  perm : Nat := 0
  /-- draw of the mask | 64 | 14 R324 -/
  mask : Nat := 0
  /-- generation of the current PKEK, 0 none | 32 | 03 R59 -/
  pkekGen : Nat := 0
  /-- generation of the PKEK before it, 0 none | 32 | 03 R59 -/
  pkekPrev : Nat := 0
  /-- SLOT_SELECT | 8 | 14 Table 14.14 -/
  slotSelect : Nat := 0
  /-- KEY_DATA words 0 to 7 | 8 x 32 | 14 Table 14.14 -/
  keyData : Tab U32 := []
  /-- VAULT_REFUSED | 32 | 14 Table 14.14 -/
  refused : U32 := 0
  /-- next leaf q | 40 | 14 R333 -/
  q : Nat := 0
  /-- reserved end | 40 | 14 R334 -/
  reservedEnd : Nat := 0
  /-- LMS_Q_HI latch | 32 | 14 R337 -/
  qHi : U32 := 0
  /-- RESERVED_HI latch | 32 | 14 R337 -/
  reservedHi : U32 := 0
  /-- a reservation failed and is retried at the next boundary | 1 | 14 R334 -/
  reserveFailed : Bool := false
  /-- reserved end of the reserve control record, with its UNIT | 64 | 14 R334 -/
  controlEnd : Option (Nat × Nat) := none
  /-- newest warden record of QSPI A: UNIT, RESERVED_END | 64 bytes | 14 Table 14.11 -/
  wardenA : Option (Nat × Nat) := none
  /-- newest warden record of QSPI B: UNIT, RESERVED_END | 64 bytes | 14 Table 14.11 -/
  wardenB : Option (Nat × Nat) := none
  /-- OTP range fuses blown, from 0 upward | 4,096 fuses | 14 R335 -/
  rangeFuses : Nat := 0
  /-- state change accepted and waiting | record | 14 R320 -/
  change : Option StateChange := none
  /-- carried keys in the warden record | list, at most 8 | 14 R320 -/
  carried : List CarriedKey := []
  /-- the first start in this lifecycle state is still to come | 1 | 14 R319 -/
  firstStart : Bool := true
deriving DecidableEq, Repr, Inhabited

/-- A firmware slot: its record (13 Table 13.2) and the manifest it holds. -/
structure Slot where
  /-- 0 EMPTY, 1 STAGING, 2 STAGED, 3 TRIAL, 4 COMMITTED, 5 FAILED -/
  state : Nat := 0
  trialBoots : Nat := 0
  journalFloor : Nat := 0
  actSeq : Nat := 0
  nextOffset : Nat := 0
  /-- NEXT_OFFSET as recorded at the last part completed -/
  recorded : Nat := 0
  retiredMask : Nat := 0
  updateId : Nat := 0
  activateAt : Nat := 0
  headerHash : Nat := 0
  securityFloor : Nat := 0
  copySeq : Nat := 0
  /-- header fields of the manifest -/
  securityVersion : Nat := 0
  journalLevel : Nat := 0
  lifecycleMask : Nat := 63
  total : Nat := 0
  release : Nat := 0
  parts : List MPart := []
  /-- payload as programmed: offset and bytes, ascending -/
  payload : List (Nat × List U8) := []
  /-- has the slot been erased from end to end since BEGIN -/
  erased : Bool := true
  /-- cadastre image of its cadastre part, once staged and checked -/
  cadImage : Option CadImage := none
deriving DecidableEq, Repr, Inhabited

/-- A download in RECOVERY (13 R310, R311): path 0 UART, 1 MGMT, 2 companion. -/
structure Download where
  path : Nat := 0
  slot : Nat := 0
  /-- next manifest offset expected -/
  next : Nat := 0
  /-- bytes received before the header and part table were complete -/
  start : List U8 := []
  /-- the header has been accepted -/
  begun : Bool := false
deriving DecidableEq, Repr, Inhabited

/-- Device update (13). -/
structure UpdSt where
  /-- firmware slots 0 A, 1 B, EMPTY in a fresh QSPI | 2 records | 13 R295, R296 (no reset value: QSPI contents, log 23) -/
  slots : Tab Slot := []
  /-- slot records as written in the QSPI devices: slot A copies 0 and 1, slot B copies 0 and 1 | 4 of 128 bytes | 13 R296, Table 13.2 (no reset value:
  QSPI contents, log 23) -/
  records : Tab (List U8) := []
  /-- running slot | 1 | 13 R296 -/
  running : Nat := 0
  /-- pending schedule: UPDATE_ID, ACTIVATE_AT | record | 13 R305 -/
  schedule : Option (Nat × Nat) := none
  /-- device time from which activation is deferred | 64 | 13 R306 -/
  deferredAt : Option Nat := none
  /-- activation under way | 1 | 13 R306 -/
  activating : Bool := false
  /-- elapsed time of the start of the 120 s trial timer | 64 | 13 R308 -/
  trialAt : Option Nat := none
  /-- RECOVERY_DONE, RWS | 1 | 13 R310 -/
  recoveryDone : Bool := false
  /-- reason for recovery: 0 strap, 1 three failed boots, 2 no bootable slot | 2 | 13 R311 -/
  reason : Nat := 0
  /-- download in progress | record | 13 R310 -/
  download : Option Download := none
  /-- elapsed time of the last ANNOUNCE | 64 | 13 R311 -/
  announcedAt : Nat := 0
  /-- elapsed time of the last valid host packet | 64 | 13 R310, R311 -/
  hostAt : Nat := 0
  /-- announcing: no valid host packet since the entry or the last silence | 1 | 13 R311 -/
  announcing : Bool := false
  /-- the booted slot is one installed in RECOVERY | 1 | 14 Table 14.12 -/
  fromRecovery : Bool := false
  /-- DATA orders waiting for the erase | list | 13 R301, R302 -/
  waiting : List StageData := []
  /-- RELEASE of the peer unit, where known | 64 | 13 R309 -/
  peerRelease : Option Nat := none
  /-- staging state and NEXT_OFFSET of the peer's slot, as last reported | record | 13 R303 -/
  peerSlot : Nat × Nat := (0, 0)
  /-- active of a pair whose standby has still to resynchronise after its activation: device time A | 64 | 13 R309 -/
  twinWait : Option Nat := none
  /-- CMP_MANIFEST_LEN | 32 | 13 Table 13.9 -/
  manifestLen : U32 := 0
  /-- CMP_CADASTRE_LEN | 32 | 13 Table 13.9 -/
  cadastreLen : U32 := 0
  /-- CMP_RESULT | 32 | 13 Table 13.9 -/
  result : U32 := 0
  /-- firmware of this start came over the companion port | 1 | 13 R312 -/
  companionBoot : Bool := false
  /-- ACTIVATE_AT_HI latch | 32 | 13 Table 13.9 -/
  activateHi : U32 := 0
  /-- UPD_ACTIVATIONS, RWS | 32 | 13 Table 13.9 -/
  activations : U32 := 0
  /-- UPD_FALLBACKS, RWS | 32 | 13 Table 13.9 -/
  fallbacks : U32 := 0
  /-- RECOVERY_ENTRIES, RWS | 32 | 13 Table 13.9 -/
  recoveries : U32 := 0
  /-- BOOT_ATTEMPTS, RWS | 2 | 02 Table 2.7, R40 -/
  bootAttempts : Nat := 0
deriving DecidableEq, Repr, Inhabited

end Sys2Proof.Machine
end

