-- ==== Sys2Proof/Machine/TPorts.lean ====
section
/-! DEFINITION. State of the power-line and radio ports (chapters 09 and 10). -/

namespace Sys2Proof.Machine

/-- A neighbour (09 R212). -/
structure PlcNeighbour where
  /-- tone map, modulation and gain it last gave the device, and the elapsed time of that response -/
  map : Nat := 0
  modulation : Nat := 0
  gain : Nat := 0
  mapAt : Option Nat := none
  stale : Bool := true
  /-- tone map the device last gave it, and the elapsed time -/
  given : Option (Nat × Nat) := none
deriving DecidableEq, Repr, Inhabited

/-- A joined endpoint (09 R213, R214). -/
structure PlcJoin where
  eui : U64 := 0
  /-- elapsed time of its last frame -/
  heard : Nat := 0
  /-- receipt of the new GMK confirmed -/
  newKey : Bool := false
deriving DecidableEq, Repr, Inhabited

/-- A route (09 R216). -/
structure PlcRoute where
  nextHop : Nat := 0
  hops : Nat := 1
  cost : Nat := 0
  /-- elapsed time of its last use -/
  used : Nat := 0
deriving DecidableEq, Repr, Inhabited

/-- A reassembly buffer (09 R217). -/
structure PlcReasm where
  src : Nat := 0
  tag : Nat := 0
  size : Nat := 0
  got : List (Nat × Nat) := []
  since : Nat := 0
deriving DecidableEq, Repr, Inhabited

/-- A unicast downlink on a port (09 R212, R216). -/
structure PlcTx where
  /-- elapsed time since which it has been held for a route or a tone map -/
  heldAt : Option Nat := none
  down : Down := {}
  /-- waits for a tone-map response since, for a route since -/
  tmSince : Option Nat := none
  routeSince : Option Nat := none
  /-- route requests repeated -/
  tries : Nat := 0
  /-- a tone-map request went unanswered: send in ROBO -/
  robo : Bool := false
  attempts : Nat := 0
deriving DecidableEq, Repr, Inhabited

/-- A PLC port (09). -/
structure PlcPort where
  /-- UP | 1 | 09 R208 -/
  up : Bool := false
  /-- RETIRED | 1 | 09 R207, R208 -/
  retired : Bool := false
  /-- TX_INHIBIT since this elapsed time | 1 | 09 R207 -/
  inhibit : Option Nat := none
  /-- PGA_STEP | 4 | 09 R209 -/
  pga : Nat := 0
  /-- running mean square of the ADC samples, times 65,536 | number | 09 R210 -/
  meanSq : Nat := 0
  /-- frames of the device's own that TX_INHIBIT holds, oldest first: name and fields | list | 09 R207 -/
  held : List (String × List Int) := []
  /-- joined endpoints by short address, at most 2,000 | table | 09 R214 -/
  joined : Tab PlcJoin := []
  /-- short addresses removed within 24 h: elapsed time of removal | table | 09 R214 -/
  freed : Tab Nat := []
  /-- neighbour table by short address, at most 2,048 | table | 09 R212 -/
  neighbours : Tab PlcNeighbour := []
  /-- route table by short address, at most 2,048 | table | 09 R216 -/
  routes : Tab PlcRoute := []
  /-- reassembly buffers, at most 64 | list | 09 R217 -/
  reasm : List PlcReasm := []
  /-- downlink waiting, oldest first | list | 09 R216, R219 -/
  queue : List PlcTx := []
  /-- unicast sent and not yet acknowledged | record | 09 R207 -/
  current : Option PlcTx := none
  /-- elapsed times of driver faults within 60 s | list | 09 R207 -/
  faults : List Nat := []
  /-- elapsed time of the C3 reset | 64 | 09 R207 -/
  resetAt : Option Nat := none
  /-- key index in use and, during a rekeying, the new GMK, its KEY_VERSION and the elapsed time of its order | record | 09 R215 -/
  keyIndex : Nat := 0
  rekey : Option (Nat × Nat × Nat) := none
  /-- RX_FRAMES | 32 | 09 Table 9.6 -/
  rxFrames : U32 := 0
  /-- RX_FCS_FAIL | 32 | 09 Table 9.6 -/
  fcsFail : U32 := 0
  /-- RX_UNATTRIBUTED | 32 | 09 Table 9.6 -/
  unattributed : U32 := 0
  /-- RX_COHERENT | 32 | 09 Table 9.6 -/
  coherent : U32 := 0
  /-- RX_UNMAPPED | 32 | 09 Table 9.6 -/
  unmapped : U32 := 0
  /-- RX_REFUSED_BP | 32 | 09 Table 9.6 -/
  refusedBp : U32 := 0
  /-- REASM_REFUSED | 32 | 09 Table 9.6 -/
  reasmRefused : U32 := 0
  /-- ERASED_SYMBOLS | 32 | 09 Table 9.6 -/
  erased : U32 := 0
  /-- blanked samples; BLANKED_KSAMPLES counts thousands | 32 | 09 Table 9.6 -/
  blanked : Nat := 0
  /-- TX_FRAMES | 32 | 09 Table 9.6 -/
  txFrames : U32 := 0
  /-- TX_NO_ACK | 32 | 09 Table 9.6 -/
  noAck : U32 := 0
  /-- TM_REQUESTS | 32 | 09 Table 9.6 -/
  tmRequests : U32 := 0
  /-- TM_STALE | 32 | 09 Table 9.6 -/
  tmStale : U32 := 0
  /-- ROUTE_DISCOVERIES | 32 | 09 Table 9.6 -/
  discoveries : U32 := 0
  /-- ROUTE_FAILS | 32 | 09 Table 9.6 -/
  routeFails : U32 := 0
  /-- JOIN_ACCEPTED | 32 | 09 Table 9.6 -/
  joinOk : U32 := 0
  /-- JOIN_REFUSED | 32 | 09 Table 9.6 -/
  joinRefused : U32 := 0
  /-- DRIVER_FAULTS | 32 | 09 Table 9.6 -/
  driverFaults : U32 := 0
  /-- CONFIRM_UNDELIVERED | 32 | 09 Table 9.6 -/
  undelivered : U32 := 0
deriving DecidableEq, Repr, Inhabited

/-- A zero-crossing input (09 R220). -/
structure ZcInput where
  /-- device times of the last accepted edge -/
  last : Option Nat := none
  /-- the last 16 accepted periods, newest first -/
  periods : List Nat := []
  /-- ZC_VALID -/
  valid : Bool := false
  /-- the accepted edge before the last -/
  prior : Option Nat := none
  /-- ZC_STAMP -/
  stamp : U32 := 0
deriving DecidableEq, Repr, Inhabited

/-- Power-line ports (09). -/
structure PlcSt where
  /-- ports 0 to 5 | table | 09 R204 -/
  ports : Tab PlcPort := []
  /-- zero-crossing inputs 0 to 5 | table | 09 R220 -/
  zc : Tab ZcInput := []
deriving DecidableEq, Repr, Inhabited

/-- A frame to transmit on a radio port (10 R237, R240, R243). -/
structure RadioTx where
  down : Down := {}
  /-- endpoint-table entry, 0xFFFF none -/
  entry : Nat := 0xFFFF
  /-- elapsed time at which it was queued -/
  since : Nat := 0
  attempts : Nat := 0
  /-- sent from the pending set on a poll -/
  polled : Bool := false
  /-- frame-pending bit -/
  more : Bool := false
deriving DecidableEq, Repr, Inhabited

/-- An entry of a radio port's endpoint table (10 R233). -/
structure RadioEp where
  address : U64 := 0
  short : Nat := 0xFFFF
  /-- elapsed time last heard -/
  heard : Nat := 0
  sleepy : Bool := false
  oneWay : Bool := false
  lastHop : Nat := 0xFFFF
  /-- pending frames, at most 4, oldest first, with the elapsed time since which each is pending -/
  pending : List (Down × Nat) := []
  /-- access number under which the oldest pending frame was sent (EN 13757-4) -/
  sent : Option Nat := none
deriving DecidableEq, Repr, Inhabited

/-- An acknowledgement or response scheduled (10 R235, R243). -/
structure RadioAck where
  /-- TXGO instant, device time -/
  txgo : Nat := 0
  airtime : Nat := 0
  bytes : Nat := 0
  entry : Nat := 0xFFFF
  /-- frame-pending bit, or the pending downlink sent in place of an ACK -/
  more : Bool := false
  response : Bool := false
deriving DecidableEq, Repr, Inhabited

/-- A radio port (10). -/
structure RadioPort where
  /-- UP | 1 | 10 R232 -/
  up : Bool := false
  /-- RETIRED | 1 | 10 R232 -/
  retired : Bool := false
  /-- endpoint table by entry 0 to 9,999 | table | 10 R233 -/
  eps : Tab RadioEp := []
  /-- short addresses removed within 24 h: elapsed time of removal | table | 10 R233 -/
  freed : Tab Nat := []
  /-- reassembly buffers, at most 64 | list | 10 R234 -/
  reasm : List PlcReasm := []
  /-- downlinks handed over and not yet queued, oldest first | list | 10 R240 -/
  inbox : List Down := []
  /-- transmit queue, at most 1,024 | list | 10 R240 -/
  queue : List RadioTx := []
  /-- frame sent and not yet acknowledged | record | 10 R237 -/
  current : Option RadioTx := none
  /-- acknowledgement scheduled | record | 10 R235 -/
  ack : Option RadioAck := none
  /-- buckets of sub-bands: by sub-band, airtime in µs by second of device time | 16 x 3,600 | 10 R239 -/
  buckets : Tab (Tab Nat) := []
  /-- device time of the last accepted RXSTAMP edge | 64 | 10 R229 -/
  edge : Option Nat := none
  /-- script failures in a row | 3 | 10 R232 -/
  fails : Nat := 0
  /-- elapsed times of C3 resets within 60 s | list | 10 R232 -/
  resets : List Nat := []
  /-- TX_STAMP | 32 | 10 Table 10.6 -/
  txStamp : U32 := 0
  /-- RX_FRAMES | 32 | 10 Table 10.6 -/
  rxFrames : U32 := 0
  /-- RX_FCS_FAIL | 32 | 10 Table 10.6 -/
  fcsFail : U32 := 0
  /-- RX_UNSUPPORTED | 32 | 10 Table 10.6 -/
  unsupported : U32 := 0
  /-- RX_UNMAPPED | 32 | 10 Table 10.6 -/
  unmapped : U32 := 0
  /-- RX_REFUSED_BP | 32 | 10 Table 10.6 -/
  refusedBp : U32 := 0
  /-- ASSOC_REFUSED | 32 | 10 Table 10.6 -/
  assocRefused : U32 := 0
  /-- ACKS_SENT | 32 | 10 Table 10.6 -/
  acksSent : U32 := 0
  /-- ACK_SUPPRESSED | 32 | 10 Table 10.6 -/
  suppressed : U32 := 0
  /-- ACK_LATE | 32 | 10 Table 10.6 -/
  late : U32 := 0
  /-- TX_FRAMES | 32 | 10 Table 10.6 -/
  txFrames : U32 := 0
  /-- TX_BUDGET_FAIL | 32 | 10 Table 10.6 -/
  budgetFail : U32 := 0
  /-- PENDING_EXPIRED | 32 | 10 Table 10.6 -/
  expired : U32 := 0
  /-- CONFIRM_ONEWAY | 32 | 10 Table 10.6 -/
  oneWay : U32 := 0
  /-- RXSTAMP_IGNORED | 32 | 10 Table 10.6 -/
  ignored : U32 := 0
  /-- SCRIPT_FAILS | 32 | 10 Table 10.6 -/
  scriptFails : U32 := 0
deriving DecidableEq, Repr, Inhabited

/-- Radio ports (10). -/
structure RadioSt where
  /-- ports 0 to 7 | table | 10 R225 -/
  ports : Tab RadioPort := []
deriving DecidableEq, Repr, Inhabited

end Sys2Proof.Machine
end

