-- ==== Sys2Proof/Machine/TSteel.lean ====
section
/-! DEFINITION. State of the Steelyard and Theodolite engines (chapter 07). -/

namespace Sys2Proof.Machine

/-- A balance node (07 Table 7.1). -/
structure BalNode where
  parent : Nat := 0xFFFFFFFF
  check : U64 := 0
  kind : Nat := 0
  medium : Nat := 0
  loss : Nat := 0
deriving DecidableEq, Repr, Inhabited

/-- A topology and its loss classes, in force from an instant (07 R162). -/
structure TopoVer where
  since : Nat := 0
  nodes : Tab BalNode := []
  losses : List (List Int) := []
deriving DecidableEq, Repr, Inhabited

/-- An import or export share of one record in one interval, at its endpoint's node, with the entry's JSN (07 R164, R166). -/
structure Share where
  k : Nat := 0
  parcel : Nat := 0
  gen : Nat := 0
  node : Nat := 0
  imp : Int := 0
  exp : Int := 0
  jsn : Nat := 0
deriving DecidableEq, Repr, Inhabited

/-- A committed current or voltage record of an endpoint, with its phase, 0 where it names none (07 R167, R174). -/
structure Sample where
  parcel : Nat := 0
  gen : Nat := 0
  phase : Nat := 0
  time : Nat := 0
  value : Int := 0
  jsn : Nat := 0
deriving DecidableEq, Repr, Inhabited

/-- An endpoint or a node that is or was OUT (07 R177). -/
structure OutRec where
  id : Nat := 0
  start : Nat := 0
  finish : Option Nat := none
  reported : Bool := false
  /-- last gasps and silent endpoints counted, DARK cells involved -/
  gasps : Nat := 0
  silent : Nat := 0
  cells : List Nat := []
deriving DecidableEq, Repr, Inhabited

/-- What a pass found for one endpoint (07 R174): best and second candidate, coefficients in thousandths, voltage phase. -/
structure PassRow where
  parcel : Nat := 0
  generation : Nat := 0
  best : Nat := 0xFFFFFFFF
  r1 : Int := -1000
  r2 : Int := -1000
  phase : Nat := 0
deriving DecidableEq, Repr, Inhabited

/-- A pass waiting to be applied (07 R175). -/
structure Pass where
  set : Nat := 0
  epoch : Int := 0
  instant : Nat := 0
  rows : List PassRow := []
deriving DecidableEq, Repr, Inhabited

/-- An endpoint moved to another node: index, generation, the start of the first interval under the new node in ns, and the node before
(07 R176). -/
structure NodeMove where
  parcel : Nat := 0
  gen : Nat := 0
  since : Nat := 0
  node : Nat := 0
deriving DecidableEq, Repr, Inhabited

/-- Steelyard and Theodolite (07). -/
structure SteelSt where
  /-- topologies and loss classes in force, newest first | list | 07 R162 -/
  topos : List TopoVer := []
  /-- shares of open intervals | list | 07 R164 -/
  shares : List Share := []
  /-- current records of open intervals, in commit order | list | 07 R167 -/
  currents : List Sample := []
  /-- voltage records that a pass may still use, in commit order | list | 07 R174 -/
  volts : List Sample := []
  /-- first interval not yet closed, once one was | 64 | 07 R166 -/
  nextK : Option Nat := none
  /-- endpoints whose move an open interval still precedes | list | 07 R176 -/
  moved : List NodeMove := []
  /-- endpoints released while an interval in which they were in use is open: index, release time, the parcel as it was | list | 07 R165 -/
  gone : List (Nat × Nat × Parcel) := []
  /-- windows: OVER or not, newest first, by node | table | 07 R169 -/
  windows : Tab (List Bool) := []
  /-- flagged nodes | list | 07 R169 -/
  flagged : List Nat := []
  /-- nodes for which OC_CHECK_PARENT_MISMATCH was recorded | list | 07 R162 -/
  mismatch : List Nat := []
  /-- endpoints OUT | list | 07 R177 -/
  outs : List OutRec := []
  /-- nodes OUT, those that returned kept while an open interval overlaps them | list | 07 R177, R178 -/
  nodeOuts : List OutRec := []
  /-- DARK spans of cells: cell, from, until | list | 07 R177, 11 R264 -/
  darks : List (Nat × Nat × Option Nat) := []
  /-- last index assessed by candidate set | table | 07 R174 -/
  lastIndex : Tab Nat := []
  /-- instant of the last pass by candidate set | table | 07 R174 -/
  lastPass : Tab Nat := []
  /-- passes waiting for epoch n + 64 | list | 07 R175 -/
  passes : List Pass := []
  /-- INTERVALS_CLOSED | 32 | 07 Table 7.8 -/
  closed : U32 := 0
  /-- INTERVALS_INVALID | 32 | 07 Table 7.8 -/
  invalid : U32 := 0
  /-- INTERVALS_SUSPENDED | 32 | 07 Table 7.8 -/
  suspended : U32 := 0
  /-- BAL_LATE | 32 | 07 Table 7.8 -/
  late : U32 := 0
  /-- SLOT_EVICT | 32 | 07 Table 7.8 -/
  evict : U32 := 0
  /-- SUSPECT_EVENTS | 32 | 07 Table 7.8 -/
  suspects : U32 := 0
  /-- OUTAGE_EVENTS | 32 | 07 Table 7.8 -/
  outageEvents : U32 := 0
  /-- THEO_PASSES | 32 | 07 Table 7.8 -/
  theoPasses : U32 := 0
  /-- THEO_PROPOSALS | 32 | 07 Table 7.8 -/
  proposals : U32 := 0
  /-- THEO_APPLIED | 32 | 07 Table 7.8 -/
  applied : U32 := 0
  /-- PHASE_VOTES | 32 | 07 Table 7.8 -/
  phaseVotes : U32 := 0
deriving DecidableEq, Repr, Inhabited

end Sys2Proof.Machine
end

