-- ==== Sys2Proof/Machine/TLink.lean ====
section
/-! DEFINITION. What the frames of the Baseline link carry (15 Tables 15.1 to 15.4), and what a start finds around the device
(02 Table 2.4): the operands of the twin's and the start-up's commands. -/

namespace Sys2Proof.Machine

/-- A frame of the Baseline link as it leaves a lane: the lane, the 32 bytes of its header (15 Table 15.1), its body deciphered, the key under
which its tag verifies over both, and ns since the previous command. -/
structure BlFrame where
  lane : Nat := 0
  head : List U8 := []
  body : List U8 := []
  key : Nat := 0
  dt : Nat := 0
deriving DecidableEq, Repr, Inhabited

/-- The body of a HELLO (15 R343, Table 15.2); `nonce` is its N. -/
structure BlHello where
  uid : Nat := 1
  unit : Nat := 0
  role : Nat := 0
  sp2 : Nat := 0
  state : Nat := 3
  lifecycle : Nat := 3
  serial : Nat := 1
  amendSeq : Nat := 0
  release : Nat := 0
  lastSealed : Int := 0
  nonce : Nat := 0
deriving DecidableEq, Repr, Inhabited

/-- A SHADOW body (15 Table 15.3). -/
structure BlShadow where
  item : Nat := 1
  asn : Nat := 1
  arrival : Nat := 0
  admitAt : Nat := 0
  tq : Nat := 0
  arr : Arrival := {}
deriving DecidableEq, Repr, Inhabited

/-- A STATE_COPY body (15 Table 15.2, R346, R352). -/
inductive StateCopy
  /-- kind 1: the PLC tables of a port (09 R223) -/
  | plc (port : Nat) (table : PlcPort)
  /-- kind 2: the radio tables of a port (10 R246) -/
  | radio (port : Nat) (table : RadioPort)
  /-- kind 3: the duty-cycle buckets of a port -/
  | buckets (port : Nat) (rows : Tab (Tab Nat))
  /-- kind 4: ACK_THROUGH values (12 R281) -/
  | acks (values : Tab Int)
  /-- kind 5: a campaign's image and group (12 R291) -/
  | campaign (c : Campaign)
  /-- kind 6: the BEGIN of a staged manifest (13 R304) -/
  | manifestHead (updateId : Nat) (head : ManifestHead)
  /-- kind 6: manifest bytes (13 R304) -/
  | manifestBytes (data : StageData)
  /-- the active's cadastre image and amendment log (15 R352 step 1) -/
  | cadastre (image : CadImage) (log : List Amendment)
deriving DecidableEq, Repr, Inhabited

/-- The sections that came with the bulk copy, and the hash over them (15 Table 15.2, R352 step 3). -/
structure BulkEnd where
  hash : Nat := 0
  calendars : Tab CalSlot := []
  free : List (Nat × Nat) := []
  steel : SteelSt := {}
  marks : Tab Nat := []
  campaigns : Tab Campaign := []
deriving DecidableEq, Repr, Inhabited

/-- An EPOCH_END body (15 Table 15.4). -/
structure EpochEnd where
  epoch : Int := 0
  firstJsn : Nat := 0
  lastJsn : Nat := 0
  pages : Nat := 0
  digests : List Nat := [0, 0, 0, 0]
deriving DecidableEq, Repr, Inhabited

/-- What a start finds (02 Table 2.4): is it from power-up; is a companion attached whose link comes up; does FIO judge good; which rail fails; do the sources and PLLs come
good, with the XA cycles of the last window of 1,000 FIO cycles; the levels at SP[23:0]; is a root produced, and with how many PUF errors; is the DRAM trained, and its GiB, speed grade and
uniformity where the population has changed; slots whose boot checks fail; a changed NAND population; corrupt journal entries
(JSN, in the header); an entry of a reserved type; is a campaign section unreadable; ports that reach service; which write of the
leaf reservation fails (0 none); and the ns the start takes: to step 5, where device time begins to count (`dt`), from there to the end of
step 11, where sessions begin to be accepted (`dtBoot`), and from there on (`dtRun`). -/
structure StartInfo where
  cold : Bool := true
  companion : Bool := true
  fioGood : Bool := true
  railFail : Option Nat := none
  clocksGood : Bool := true
  xaCount : Nat := 250
  pins : BitVec 24 := 0
  rootMade : Bool := true
  pufErrors : Nat := 0
  trained : Bool := true
  dram : Option (Nat × Nat × Nat × Bool) := none
  badSlots : List Nat := []
  nand : Option (List Int) := none
  corrupt : List (Nat × Bool) := []
  reservedEntry : Option Nat := none
  campUnreadable : List Nat := []
  portsUp : List Nat := []
  lmsFail : Nat := 0
  dt : Nat := 0
  dtBoot : Nat := 0
  dtRun : Nat := 0
deriving DecidableEq, Repr, Inhabited

end Sys2Proof.Machine
end

