-- ==== Sys2Proof/Syntax.lean ====
section
/-! DEFINITION. The commands of the AKX-8000: one constructor of `Instr` per row of the table of operations and events. -/

namespace Sys2Proof

/-- A command: a register access, a message that arrives, an order, or an event whose instant has come (spec/opcode_table.json). -/
inductive Instr where
  /-- A write to a register with no row of its own stores its fields or is rejected whole, and sets LAST_OUTCOME. (00 R8) -/
  | regWrite (r : Requester) (addr : U32) (v : U32)
  /-- An access outside every register block ends in a bus error and a field book record under OC_FAULT. (01 R29) -/
  | unmappedAccess (r : Requester) (addr : U32) (bytes : Nat)
  /-- A non-secure request to a secure-only block ends in a bus error and an OC_AUTH record. (01 R30) -/
  | secureAccessDenied (r : Requester) (addr : U32) (bytes : Nat)
  /-- An unaligned or partial-word access ends in a bus error with no LAST_OUTCOME change. (00 R453) -/
  | misalignedAccess (r : Requester) (addr : U32) (bytes : Nat)
  /-- An access to a block whose clock is gated ends in a bus error and an OC_CLK_GATED record. (16 R375) -/
  | gatedBlockAccess (r : Requester) (addr : U32) (bytes : Nat)
  /-- A write to CLK_ENABLE0 or CLK_ENABLE1 gates or ungates blocks, and a companion write is refused with OC_AUTH. (16 R375) -/
  | clkEnableWrite (r : Requester) (second : Bool) (v : U32)
  /-- A read of EPOCH_LO returns the low epoch bits and latches EPOCH_HI. (01 R32) -/
  | epochLoRead (r : Requester)
  /-- A read of JSN_LO returns the low JSN bits and latches JSN_HI. (04 R113) -/
  | jsnLoRead (r : Requester)
  /-- A read of BILLING_TIME_LO returns the low bits and latches BILLING_TIME_HI. (06 R159) -/
  | billingTimeLoRead (r : Requester)
  /-- A read of ACK_LO returns the low acknowledged-epoch bits and latches ACK_HI. (12 R294) -/
  | ackLoRead (r : Requester)
  /-- A read of ACTIVATE_AT_LO returns the low bits of the pending activation and latches ACTIVATE_AT_HI. (13 R313) -/
  | activateAtLoRead (r : Requester)
  /-- A read of COMPARED_LO returns the low bits of the last compared epoch and latches COMPARED_HI. (15 R354) -/
  | comparedLoRead (r : Requester)
  /-- A read of LMS_Q_LO returns the low bits of the next leaf and latches LMS_Q_HI. (14 R337) -/
  | lmsQLoRead (r : Requester)
  /-- A read of RESERVED_LO returns the low bits of the reserved end and latches RESERVED_HI. (14 R337) -/
  | reservedLoRead (r : Requester)
  /-- A read of DEVICE_TIME_LO returns the low bits of device time and latches DEVICE_TIME_HI. (16 R376) -/
  | deviceTimeLoRead (r : Requester)
  /-- A read of BM_INT returns the integer ns of the counter and latches BM_FRAC. (16 R376) -/
  | bmIntRead (r : Requester)
  /-- A read of FB_OLDEST_LO returns the low bits of the oldest SEQ and latches FB_OLDEST_HI. (18 R416) -/
  | fbOldestLoRead (r : Requester)
  /-- A read of FB_NEWEST_LO returns the low bits of the newest SEQ and latches FB_NEWEST_HI. (18 R416) -/
  | fbNewestLoRead (r : Requester)
  /-- A read of FB_CURSOR_LO returns the low cursor bits and latches FB_CURSOR_HI. (18 R416) -/
  | fbCursorLoRead (r : Requester)
  /-- A write of FB_CURSOR_LO moves the field book cursor, together with FB_CURSOR_HI. (18 R416) -/
  | fbCursorWrite (r : Requester) (v : U32)
  /-- A write of FB_SELECT selects the device field book or a block field book, and a value naming no block is refused. (18 R416) -/
  | fbSelectWrite (r : Requester) (v : U32)
  /-- The FB_CMD NEXT command moves the cursor to the next record present. (18 R416) -/
  | fbNext (r : Requester)
  /-- The FB_CMD SEEK_OLDEST command moves the cursor to the oldest record. (18 R416) -/
  | fbSeekOldest (r : Requester)
  /-- The FB_CMD FREEZE command stops the device field book ring from changing, owned by the requester. (18 R417) -/
  | fbFreeze (r : Requester)
  /-- The FB_CMD THAW command by the owner ends the freeze, moves held records into the ring and writes any OVERRUN record. (18 R417) -/
  | fbThaw (r : Requester)
  /-- A write of 0 to SEASON_STATUS.BOOT_ATTEMPTS clears the failed-boot count, and any other value is refused. (02 R40) -/
  | bootAttemptsClear (r : Requester) (v : U32)
  /-- A write of 0 to UPD_STATUS.RECOVERY_DONE clears the flag, and any other value is refused. (13 R310) -/
  | recoveryDoneClear (r : Requester) (v : U32)
  /-- A write of BM_INCR_INT sets the Benchmark increment from the next tick, refused outside 3.900 to 4.100 ns. (16 R355) -/
  | bmIncrWrite (r : Requester) (v : U32)
  /-- A write of BM_STEP_CMD.GO requests a step of device time by the written delta. (16 R357) -/
  | bmStepGo (r : Requester)
  /-- A read of TSQ_POP removes and returns the oldest time-stamp queue entry. (16 R365) -/
  | tsqPopRead (r : Requester)
  /-- A write of KEY_DATA by the warden pair stores key words, and a write by any other requester is refused with OC_AUTH. (14 R326) -/
  | keyDataWrite (r : Requester) (k : Fin 8) (v : U32)
  /-- The KEY_CMD LOAD command atomically loads a vault slot and writes the vault section. (14 R326) -/
  | keyCmdLoad (r : Requester) (slot : U8)
  /-- The KEY_CMD ERASE command atomically erases a vault slot and writes the vault section. (14 R326) -/
  | keyCmdErase (r : Requester) (slot : U8)
  /-- A write of CMP_DOORBELL.GO makes the device take the companion manifest and cadastre images from BAR2. (13 R312) -/
  | cmpDoorbellGo (r : Requester) (ws : List (Nat × List U8)) (signerOk : Bool) (partOk : Bool) (imgOk : Bool) (x : Machine.StartInfo)
  /-- A read of CH_LOCK on an EMPTY channel locks it to the reader, and otherwise returns the owner's stamp. (17 R383) -/
  | chLockRead (r : Requester) (c : Fin 40)
  /-- The channel owner writes message words, and a write by anyone else is refused with OC_CMP_NOT_OWNER. (17 R383) -/
  | chMsgWrite (r : Requester) (c : Fin 40) (k : Fin 16) (v : U32)
  /-- The owner posts its message, moving the channel from LOCKED to POSTED and recording the stamp. (17 R383) -/
  | chDoorbellPost (r : Requester) (c : Fin 40)
  /-- A read of CH_STAMP by the receiving side in POSTED returns the stamp and moves the channel to TAKEN. (17 R383) -/
  | chStampTake (r : Requester) (c : Fin 40)
  /-- A write of an outcome to CH_ACK in TAKEN moves the channel to ACKED and raises the acknowledgement vector. (17 R383) -/
  | chAckWrite (r : Requester) (c : Fin 40) (v : U32)
  /-- The owner's write of CH_RELEASE.DONE returns the channel to EMPTY unless it is POSTED or TAKEN. (17 R383) -/
  | chReleaseDone (r : Requester) (c : Fin 40)
  /-- A write of Q_DATA appends one word to a queue, refused on pop-only or full control queues. (17 R391) -/
  | qDataPush (r : Requester) (q : Fin 22) (v : U32)
  /-- A read of Q_DATA removes the oldest word, or returns the idle word and sets EMPTY_LAST. (17 R391) -/
  | qDataPop (r : Requester) (q : Fin 22) (e : WordEcc)
  /-- A write of DMA_RING or DMA_RING_SIZE sets HEAD and TAIL to 0, and is refused with OC_BUSY while RUN is set. (17 R395) -/
  | dmaRingWrite (r : Requester) (c : Fin 4) (size : Bool) (v : U32)
  /-- A write of DMA_TAIL makes further descriptors ready for the engine. (17 R395) -/
  | dmaTailWrite (r : Requester) (c : Fin 4) (ws : List (Nat × List U8)) (v : U32)
  /-- Setting DMA_CTRL.RUN starts or retries the engine on the channel's ring. (17 R395) -/
  | dmaRun (r : Requester) (c : Fin 4) (ws : List (Nat × List U8))
  /-- Writing DMA_CTRL.DISABLE drops all work of the channel at once and clears RUN. (17 R399) -/
  | dmaDisable (r : Requester) (c : Fin 4)
  /-- The engine finishes or fails a descriptor, reads back, writes result fields, OUTCOME and DONE, and stops on failure. (17 R397) -/
  | dmaDescriptorDone (c : Fin 4) (h : HostAnswer)
  /-- A Function Level Reset advances that function's reset count and resets its mailbox parties. (17 R380) -/
  | pcieFlr (f : Fin 2)
  /-- A hot reset or link down advances both counts and ends every DMA channel. (17 R380) -/
  | pcieHotReset (linkUp : Bool)
  /-- A PING mailbox service is acknowledged OC_OK. (17 R388) -/
  | mboxPing (c : Fin 40)
  /-- A STATUS service returns the main status registers in a response. (17 R388) -/
  | mboxStatus (c : Fin 40)
  /-- A QUOTE service writes a signed quote to the companion area. (17 R388) -/
  | mboxQuote (c : Fin 40)
  /-- A secure KEYLOAD service reads its map from the staging buffer and loads keys or changes state. (17 R389) -/
  | mboxKeyload (c : Fin 40) (ws : List (Nat × List U8))
  /-- An EVENT_FEED service enables or disables copying field book records to queue 4. (17 R388) -/
  | mboxEventFeed (c : Fin 40)
  /-- A message naming an undefined SERVICE is acknowledged OC_CMP_SERVICE. (17 R388) -/
  | mboxUndefinedService (c : Fin 40)
  /-- An outbound message untaken for 10 s is withdrawn. (17 R390) -/
  | mboxOutboundWithdraw (c : Fin 40)
  /-- A response finding no free outbound channel for 1 s is dropped. (17 R390) -/
  | mboxResponseDrop
  /-- An enabled stream producer writes an ADC sample pair or a received radio frame into its queue. (17 R394) -/
  | streamCapture (q : Fin 22) (x : Capture)
  /-- A requested step is applied at the next tick once 2 s have passed since the last step, and STEP_GEN advances. (16 R357) -/
  | bmStepApply
  /-- The keeper refreshes the current generation's stamp anchor at least once per second. (16 R358) -/
  | anchorRefresh
  /-- An accepted Sync updates the servo offset and lock state. (16 R366) -/
  | ptpSync (h : PtpHeader) (twoStep : Bool) (origin : Nat) (f : ServoResult)
  /-- A Follow_Up completes a two-step Sync exchange. (16 R363) -/
  | ptpFollowUp (h : PtpHeader) (origin : Nat) (f : ServoResult)
  /-- A master port answers a received Delay_Req. (16 R363) -/
  | ptpDelayReq (h : PtpHeader)
  /-- A Delay_Resp completes the client's delay measurement. (16 R363) -/
  | ptpDelayResp (h : PtpHeader) (received : Nat)
  /-- An accepted Announce feeds the BMCA and may change the UTC offset. (16 R367) -/
  | ptpAnnounce (h : PtpHeader) (a : AnnounceBody)
  /-- A PTP frame of TC_DOMAIN is forwarded to the other TC ports with residence time added. (16 R364) -/
  | tcForward (h : PtpHeader) (ty : Nat) (residence : Nat)
  /-- No accepted Sync for SYNC_LOSS_S loses lock and enters holdover. (16 R366) -/
  | syncLossTimeout
  /-- The holdover error estimate reaching 100 ms moves time quality to TQ2. (16 R368) -/
  | holdoverLimit
  /-- SUSPECT_MAX_H in TQ2 moves time quality to TQ3. (16 R368) -/
  | suspectMaxExpiry
  /-- A PPS_IN edge is stamped and judged valid or not. (16 R369) -/
  | ppsInEdge (dt : Nat)
  /-- No PPS_IN edge arrives within 10^9 ns plus 1 ms of the last, and PPS_IN ceases to be valid. (16 R369) -/
  | ppsInLoss
  /-- At each second of device time PPS_OUT rises for 100 ms while time quality is TQ0 or TQ1. (16 R369) -/
  | ppsOutPulse
  /-- A judging window of a source ends and counts toward its pass or its limit. (16 R370) -/
  | clockJudgeWindow (k : ClockSource) (count : Nat)
  /-- A failed source is retried every 100 ms. (16 R370) -/
  | clockSourceRetry (k : ClockSource)
  /-- The FIO monitor trips and the keeper moves to SIO. (16 R373) -/
  | fioTrip
  /-- The XB monitor trips and the always-on time counter moves to SIO. (16 R373) -/
  | xbTrip
  /-- The REFCLK monitor trips, SerDes ports go down and the device enters DEGRADED. (16 R373) -/
  | refclkTrip
  /-- REFCLK not good within REFCLK_YIELD_MS drives TWIN_ALIVE low. (16 R373) -/
  | refclkYieldTimeout
  /-- The XA monitor trips, and the device enters SLOW_HOLD and falls back to FIO. (16 R373) -/
  | xaTrip
  /-- A PLL losing lock with a good reference raises a C4 fault. (16 R372) -/
  | pllUnlock (p : Pll)
  /-- PORST_N rises or a warm reset occurs, and the device runs the start-up sequence of Table 2.4. (02 R39) -/
  | startup (x : Machine.StartInfo)
  /-- A device restart without loss of VCC_AON resets all but RWS fields and begins start-up. (00 R7) -/
  | warmReset
  /-- The 180 s start watchdog expires before HEALTHY or DEGRADED, and the keeper issues a warm reset. (02 R40) -/
  | startWatchdogExpiry
  /-- 10 s after HALTED entered before HEALTHY, the keeper issues a warm reset counted as a failed boot. (02 R40) -/
  | haltedResetTimer
  /-- At boot source 0b10 the companion has not rung the doorbell within 60 s, and the device enters HALTED with OC_NO_CADASTRE. (02 R39) -/
  | companionImageTimeout
  /-- A port not up within START_PORT_TIMEOUT_MS is retired. (09 R208) -/
  | portStartTimeout
  /-- At each epoch boundary the device starts the boundary work of Table 1.8 for the closing epoch. (01 R25) -/
  | epochBoundary (load : Nat) (fail : Nat) (bad : Bool)
  /-- When the drained block is idle the new quiescent value is installed and dispatch resumes. (02 R50) -/
  | quiescentApply (tag : Nat)
  /-- A draining cluster whose queues have moved and cores are idle is gated. (01 R28) -/
  | clusterGated
  /-- After the tags of the epoch drain, the EPOCH_SEAL entry commits and closes the journal range and Merkle root. (04 R454) -/
  | epochSealCommit
  /-- The warden pair LMS-signs the sheet seal of the epoch. (12 R279) -/
  | sheetSign (fail : Nat)
  /-- A die-to-die transfer fails its CRC and is retried, and 16 failures retrain the link as C3. (01 R15) -/
  | dieLinkTransferError (again : Bool)
  /-- Link retraining not complete within 1 ms raises a C4 fault. (01 R15) -/
  | dieLinkRetrainTimeout
  /-- An error of class C2 or higher is started, queued, absorbed or escalated under the containment rule. (04 R111) -/
  | containError (x : ErrorReport)
  /-- The C4 flush ends, the fault is recorded with any lost JSNs, and a warm reset follows. (04 R112) -/
  | c4FlushDone (pages : Nat)
  /-- A C2 repeat completes or fails, and the fourth failure continues as C3. (04 R110) -/
  | containC2RepeatDone (id : Nat) (ok : Bool)
  /-- A C2 handling not complete within 1 ms continues as C3 on the owning block. (04 R110) -/
  | containC2Timeout (id : Nat)
  /-- A reset block is back in service with its work replayed, and the handling ends. (04 R110) -/
  | containC3Done (id : Nat)
  /-- A C3 handling not ended within 2 s continues as C4. (04 R110) -/
  | containC3Timeout (id : Nat)
  /-- When a tag frees, the oldest staged frame is admitted in ASN order. (04 R84) -/
  | stagedFrameAdmit
  /-- A miss path completes with the head installed and pinned, or ends OC_PARCEL_UNKNOWN. (03 R70) -/
  | headCacheMissDone (id : U64)
  /-- A tag joins its ordering domain once every lower ASN has joined or ended, and stage 3 classifies it. (04 R87) -/
  | domainJoin (asn : Nat)
  /-- Stage 4 finishes header tests, key unwrap and authenticated decryption, or ends the tag. (03 R58) -/
  | decryptionDone (asn : Nat)
  /-- A KEY_INVALID order entry commits in the parcel's domain, sets the flag and makes its single record. (03 R58) -/
  | keyInvalidCommit (p : Nat)
  /-- Stage 5 finishes mapping the payload into reading records, or ends the tag with a subsystem 2 code. (05 R122) -/
  | normalisationDone (asn : Nat)
  /-- After earlier tags of the parcel end, stage 6 validates the records and builds the confirmation. (05 R130) -/
  | veeDone (asn : Nat)
  /-- A READY tag whose commit conditions hold is assigned a JSN, journalled and applied to the head. (04 R97) -/
  | journalCommit (asn : Nat)
  /-- The tariff engine advances the parcel and credits each record's DELTA to its registers. (06 R147) -/
  | registerUpdate (asn : Nat)
  /-- A committed tag whose records are in every engine queue releases its head pin and is freed. (04 R85) -/
  | tagRetire (asn : Nat)
  /-- A journal page finishes writing to the reserve, shrinking the tail. (04 R99) -/
  | journalPageWritten
  /-- The oldest work item passes its urgent age and is promoted one level. (04 R108) -/
  | queuePromote (q : Nat)
  /-- The oldest item reaches twice its urgent age and takes one slot in 16 ahead of the reading path. (04 R108) -/
  | queueUrgentPreempt (q : Nat)
  /-- An ENROL order is checked, allocates an index, writes the parcel, commits and inserts the directory entry. (03 R71) -/
  | enrol (o : HxOrder)
  /-- A RETIRE order marks the parcel retiring and joins its entry to the parcel's ordering domain. (03 R75) -/
  | retire (o : HxOrder)
  /-- The RETIRE entry commits after earlier domain tags, takes the snapshot and answers OC_OK. (03 R75) -/
  | retireEntryCommit (p : Nat)
  /-- After boundary work of the retirement epoch completes, a RELEASE entry frees the index to the free list. (03 R76) -/
  | parcelRelease (p : Nat)
  /-- A parcel KEYLOAD entry commits in the domain, installing the key and clearing KEY_INVALID. (03 R78) -/
  | keyloadEntryCommit (p : Nat)
  /-- The background rewrap of every parcel under a new PKEK completes. (03 R59) -/
  | pkekRewrapDone
  /-- A parcel under C3 reload is restored from its image and its domain entries replayed, returning to ACTIVE. (03 R79) -/
  | parcelRestoreDone (p : Nat)
  /-- A poisoned or mismatched directory bucket is rebuilt from the parcel store and waiting lookups resume. (03 R79) -/
  | bucketRebuildDone
  /-- Billing time reaches a pending activation, and a CALENDAR_ACTIVATE entry makes the passive version current. (06 R144) -/
  | calendarActivation (c : Nat)
  /-- Billing time passes a demand boundary plus grace, and a CLOSURE BOUNDARY entry is committed. (06 R150) -/
  | demandClosure (c : Nat)
  /-- In its scheduled epoch a slice of 65,536 parcel indices is advanced to close their periods. (06 R155) -/
  | periodSweepSlice (jsn : Nat)
  /-- Billing time reaches a snapshot AT, and a SNAPSHOT_MARK entry is committed. (12 R288) -/
  | snapshotMarkCommit
  /-- The Steelyard engine splits a record's DELTA into interval shares and updates coverage and outage state. (07 R164) -/
  | steelyardApply (asn : Nat)
  /-- At a seal every due balance interval is closed, judged and reported. (07 R166) -/
  | balanceIntervalClose
  /-- At its pass instant a Theodolite pass correlates a candidate set's voltage profiles. (07 R174) -/
  | theoPass (k : Nat)
  /-- In epoch n + 64 the pass results are applied, judging each endpoint and opening or withdrawing proposals. (07 R175) -/
  | theoPassApply
  /-- The archive compressor applies a committed record to the parcel's staging ring. (08 R183) -/
  | archiveApply (asn : Nat)
  /-- The archive sweep visits 65,536 parcels per epoch, closing due spans and flushing verbatim records. (08 R183) -/
  | archiveSweepVisit
  /-- A chunk page finishes programming into its segment, sealing the segment when full. (08 R190) -/
  | chunkProgramDone
  /-- A segment open for 600 s is sealed with its summary. (08 R190) -/
  | segmentSealTimeout
  /-- A failing codeword is retried with further offset sets and queued for relocation on success. (08 R194) -/
  | nandReadRetry (area : Nat) (block : Nat) (page : Nat) (codeword : Nat) (errors : List (Option Nat))
  /-- A reclamation copy is read back and verified, invalidating the source, or restarts to a fresh target. (08 R197) -/
  | gcCopyVerified (ok : Bool)
  /-- A program failure rewrites the page elsewhere, copies the block's valid pages and retires the block. (08 R198) -/
  | nandProgramFail (area : Nat) (block : Nat) (page : Nat)
  /-- An erase failure retires the block and records OC_NAND_ERASE_FAIL. (08 R198) -/
  | nandEraseFail (area : Nat) (block : Nat)
  /-- The erase of a reclamation victim or a block completes successfully and the block joins the free blocks, which may end SQUEEZE. (08 R195) -/
  | nandEraseDone (b : Nat)
  /-- The image writer writes the record of a changed parcel with its IMAGE_JSN. (08 R202) -/
  | parcelImageWrite
  /-- A PLC frame ends and is acknowledged, discarded or reassembled, and a complete DLMS datagram passes to admission. (09 R217) -/
  | plcFrameReceived (n : Fin 6) (f : PlcFrame)
  /-- A reassembly not completed within REASSEMBLY_S is discarded. (09 R217) -/
  | plcReassemblyTimeout (n : Fin 6)
  /-- PLCn_DRVFLT_N low during transmission stops the frame, inhibits transmission and may reset or retire the port. (09 R207) -/
  | plcDriverFault (n : Fin 6) (dt : Nat)
  /-- 1 s after a driver fault the port may transmit again. (09 R207) -/
  | plcTxInhibitEnd (n : Fin 6)
  /-- A PLC unicast receives no MAC acknowledgement in time and is retried, or ends counted in TX_NO_ACK after MAX_FRAME_RETRIES. (09 R207) -/
  | plcMacAckTimeout (n : Fin 6)
  /-- A unicast downlink to a PLC endpoint is sent with a fresh tone map or held for a request or route. (09 R212) -/
  | plcUnicastSend (n : Fin 6)
  /-- A tone-map response refreshes the neighbour entry and releases held unicasts. (09 R212) -/
  | tonemapResponseReceived (n : Fin 6) (addr : Nat) (map : Nat) (modulation : Nat) (gain : Nat) (bits : Option Nat)
  /-- No tone-map response within TMR_WAIT_MS, and the unicast goes in ROBO. (09 R212) -/
  | tmrWaitTimeout (n : Fin 6)
  /-- A LOADng route request addressed to the device is answered with a route reply. (09 R216) -/
  | routeRequestReceived (n : Fin 6) (org : Nat) (hop : Nat) (hops : Nat) (cost : Nat) (toDevice : Bool)
  /-- A route reply installs a route and releases held unicasts. (09 R216) -/
  | routeReplyReceived (n : Fin 6) (dest : Nat) (hop : Nat) (hops : Nat) (cost : Nat)
  /-- No reply within NET_TRAVERSAL_MS retries discovery, or ends the unicast OC_PLC_NO_ROUTE. (09 R216) -/
  | rreqRetryTimeout (n : Fin 6)
  /-- A route unused for ROUTE_TTL_MIN expires. (09 R216) -/
  | routeExpiry (n : Fin 6)
  /-- An LBP EAP-PSK join is authenticated and answered with the GMK and a short address, or refused. (09 R213) -/
  | plcJoin (n : Fin 6) (eui : U64) (psk : Nat)
  /-- An endpoint silent for JOIN_IDLE_H is removed from the join table. (09 R214) -/
  | joinIdleExpiry (n : Fin 6)
  /-- An endpoint confirms receipt of the new GMK, activating it when all have confirmed. (09 R215) -/
  | gmkReceiptConfirmed (n : Fin 6) (addr : Nat)
  /-- 24 h after the order the new GMK is activated regardless of confirmations. (09 R215) -/
  | gmkRekeyActivate (n : Fin 6)
  /-- A rising zero-crossing edge is stamped, accepted or ignored, and updates the period and ZC_VALID. (09 R220) -/
  | zcEdge (k : Fin 6) (dt : Nat)
  /-- No accepted edge for 50 ms clears ZC_VALID. (09 R220) -/
  | zcLossTimeout (k : Fin 6)
  /-- An RXSTAMP edge and RX_READ deliver a frame that is discarded, acknowledged and passed to admission. (10 R230) -/
  | radioFrameReceived (n : Fin 8) (f : RadioFrame)
  /-- At the scheduled TXGO the acknowledgement goes out, or is dropped as late. (10 R236) -/
  | radioAckTxgo (n : Fin 8) (late : Bool)
  /-- A POLL or WAIT_IRQ timeout fails the script run, repeated as C2 and escalating to port reset or retirement. (10 R232) -/
  | radioScriptTimeout (n : Fin 8) (script : Nat)
  /-- A SUN-FSK association request creates a table entry with a short address, or is refused at capacity. (10 R233) -/
  | radioAssociationRequest (n : Fin 8) (addr : U64) (rxOnIdle : Bool) (ackBytes : Nat) (ago : Nat)
  /-- An endpoint silent for ENDPOINT_IDLE_H is removed from the port's table. (10 R233) -/
  | endpointIdleExpiry (n : Fin 8)
  /-- A downlink is queued for transmission, held as pending for a sleepy endpoint, or refused. (10 R240) -/
  | radioDownlinkQueue (n : Fin 8)
  /-- A queued frame that fits its budget and the acknowledgement schedule starts with CSMA-CA. (10 R237) -/
  | radioTxStart (n : Fin 8) (clear : Bool)
  /-- A radio frame receives no link acknowledgement in time and is retried, or ends with OC_RADIO_NO_ACK after MAX_FRAME_RETRIES. (10 R237) -/
  | radioAckTimeout (n : Fin 8)
  /-- A frame unaffordable at TX_HOLD_S ends with OC_BUDGET. (10 R240) -/
  | radioTxHoldExpiry (n : Fin 8)
  /-- Each second the oldest duty-cycle bucket leaves the window and used airtime falls. (10 R239) -/
  | budgetBucketRoll
  /-- A data request from a sleepy endpoint is acknowledged with frame-pending and the oldest pending frame is sent. (10 R243) -/
  | radioDataRequest (n : Fin 8) (k : Nat) (ackBytes : Nat) (ago : Nat)
  /-- A pending frame older than PENDING_TTL_S ends with OC_RADIO_PENDING_EXPIRED. (10 R242) -/
  | pendingTtlExpiry (n : Fin 8)
  /-- A HELLO capsule is checked and answered with HELLO_ACK and a pending session, CLOSE, or dropped. (11 R253) -/
  | actHello (k : Capsule)
  /-- A FRAMES capsule is authenticated and its items passed to admission within credit. (11 R256) -/
  | actFrames (k : Capsule) (frames : List Arrival)
  /-- A CONFIRM capsule reports downlink items, each mapped to an outcome for its sender. (11 R261) -/
  | actConfirm (k : Capsule)
  /-- An authenticated BEACON is answered within 50 ms and counts as a beacon received. (11 R262) -/
  | actBeacon (k : Capsule)
  /-- A CLOSE from the cell node makes the cell DARK at once and ends the session. (11 R263) -/
  | actCloseReceived (k : Capsule)
  /-- A pending session with no authenticated capsule within 10 s is discarded. (11 R253) -/
  | actPendingSessionExpiry (c : Nat)
  /-- When a cell's outstanding credit falls to half and room exists, its limit is raised and a CREDIT capsule sent. (11 R257) -/
  | creditRaise
  /-- A queued downlink item is sent when the cell holds fewer than DL_SLOTS unconfirmed items. (11 R260) -/
  | actDownlinkSend (c : Nat)
  /-- An item with no report within DL_TIMEOUT_S ends with OC_ACT_DL_TIMEOUT. (11 R261) -/
  | actDlTimeout (c : Nat)
  /-- No authenticated capsule for three beacon periods plus grace makes the cell DARK. (11 R263) -/
  | cellDarkTimeout (c : Nat)
  /-- A cell DARK for SESSION_IDLE_S loses its session. (11 R265) -/
  | actSessionIdleExpiry (c : Nat)
  /-- After TAKEOVER_GRACE_S cells without a new handshake are committed DARK. (11 R267) -/
  | takeoverGraceExpiry
  /-- A capsule with a bad MAGIC, major version, TYPE or LENGTH, or an oversize datagram, is discarded and counted in ACT_FORMAT. (11 R249) -/
  | actCapsuleMalformed (dt : Nat)
  /-- A TLS 1.3 PSK handshake opens an HX session, or fails, or is closed over the session limit. (12 R270) -/
  | hxConnect (x : TlsOffer)
  /-- Every 30 s the device opens TCP to a CALL_OUT head end with which it holds no session. (12 R270) -/
  | hxCallOut (headend : Nat)
  /-- An OPEN negotiates the HX version and is answered OPEN_ACK or CLOSE. (12 R272) -/
  | hxOpen (sid : Nat) (bytes : List U8)
  /-- No OPEN within 10 s closes the session with OC_HX_FORMAT. (12 R272) -/
  | hxOpenTimeout (sid : Nat)
  /-- A SUBSCRIBE starts or restarts sheet delivery from FROM, or closes with OC_HX_SHEET_GONE. (12 R280) -/
  | hxSubscribe (sid : Nat) (bytes : List U8)
  /-- With window room, the next sheet is sent as SHEET_HEAD and SHEET_PARTs. (12 R280) -/
  | hxSheetSend (sid : Nat)
  /-- A SHEET_ACK advances the session's acknowledgement and the head end's ACK_THROUGH. (12 R281) -/
  | hxSheetAck (sid : Nat) (bytes : List U8)
  /-- A PING from the peer is answered with PONG. (12 R273) -/
  | hxPing (sid : Nat) (bytes : List U8)
  /-- A PONG from the peer is received on the session. (12 R273) -/
  | hxPong (sid : Nat) (bytes : List U8)
  /-- A CLOSE from the head end ends the session. (12 R274) -/
  | hxClose (sid : Nat) (bytes : List U8)
  /-- After 30 s without sending, the device sends PING. (12 R273) -/
  | hxPingTimer (sid : Nat)
  /-- A session receiving nothing for HX_IDLE_S is closed. (12 R273) -/
  | hxIdleTimeout (sid : Nat)
  /-- Every REPORT_S the device sends a REPORT on each session. (12 R274) -/
  | hxReportTimer (sid : Nat)
  /-- An ORDER envelope that is malformed or names a reserved or device-made kind is refused with OC_HX_FORMAT, OC_UNKNOWN_TAG or OC_SIG. (12 R286) -/
  | hxOrderUnknownKind (o : HxOrder)
  /-- An HX message that is malformed, too long or of a type the head end may not send makes the device send CLOSE with OC_HX_FORMAT and end the
  session. (12 R274) -/
  | hxMessageMalformed (sid : Nat) (bytes : List U8)
  /-- An AMEND order is checked, logged to both QSPI devices and applied by class. (02 R52) -/
  | amend (o : HxOrder)
  /-- A CALENDAR order loads, replaces or cancels a passive calendar version. (06 R143) -/
  | calendar (o : HxOrder)
  /-- A CAMPAIGN order with ACTION 0 fixes members and starts an endpoint firmware campaign. (12 R290) -/
  | campaignStart (o : HxOrder)
  /-- A CAMPAIGN order with ACTION 1 cancels a running campaign. (12 R290) -/
  | campaignCancel (o : HxOrder)
  /-- With START passed and a parallel slot free, a WAITING member enters TRANSFER. (12 R292) -/
  | campaignMemberStart (p : Nat)
  /-- A campaign block's downlink ends, delivering the block or resending it up to BLOCK_RETRIES. (12 R292) -/
  | campaignBlockOutcome
  /-- At ACTIVATE_AT, ACTIVATING members are sent the activation. (12 R292) -/
  | campaignActivateAt (n : Nat)
  /-- At DEADLINE non-terminal members fail and the campaign closes. (12 R292) -/
  | campaignDeadline (n : Nat)
  /-- A KEYLOAD LOAD installs a vault, parcel or cell key after its checks. (14 R329) -/
  | keyloadLoad (o : HxOrder)
  /-- A KEYLOAD ERASE removes a permitted vault, parcel or cell key. (14 R329) -/
  | keyloadErase (o : HxOrder)
  /-- ENTER_MAINTENANCE commits an ORDER entry that sets MAINTENANCE at commit. (14 R321) -/
  | enterMaintenance (o : HxOrder)
  /-- LEAVE_MAINTENANCE commits an ORDER entry that returns to DEPLOY at commit. (14 R321) -/
  | leaveMaintenance (o : HxOrder)
  /-- A CHANGE_STATE request derives the incoming root, signs the handover quote and schedules the change. (14 R320) -/
  | changeState (o : HxOrder)
  /-- An EXTRACT order returns named leaves with inclusion paths, seal and signature. (12 R289) -/
  | extract (o : HxOrder)
  /-- A TOPOLOGY_ACCEPT order applies an open proposal to the parcel's balance membership. (07 R176) -/
  | topologyAccept (o : HxOrder)
  /-- A SNAPSHOT order schedules an ORDERED snapshot mark. (12 R288) -/
  | snapshot (o : HxOrder)
  /-- TWIN_CMD SWITCH commits an entry and triggers a planned takeover. (15 R353) -/
  | twinSwitch (o : HxOrder)
  /-- TWIN_CMD RESYNC makes the standby rejoin. (15 R353) -/
  | twinResync (o : HxOrder)
  /-- TWIN_CMD DETACH stops shadowing until a RESYNC. (15 R353) -/
  | twinDetach (o : HxOrder)
  /-- TWIN_CMD STATUS answers with the twin status, peer UNIT and last compared epoch. (15 R353) -/
  | twinCmdStatus (o : HxOrder)
  /-- A MANIFEST BEGIN checks the header and starts staging into the staging slot. (13 R301) -/
  | manifestBegin (o : HxOrder) (signerOk : Bool) (partner : U16 × Nat × Nat)
  /-- A MANIFEST DATA programs bytes at NEXT_OFFSET and checks completed parts. (13 R302) -/
  | manifestData (o : HxOrder) (cadOk : Bool) (partner : U16 × Nat × Nat)
  /-- A MANIFEST SCHEDULE sets the activation instant of a staged slot. (13 R305) -/
  | manifestSchedule (o : HxOrder)
  /-- A MANIFEST CANCEL removes a pending schedule and may empty the slot. (13 R305) -/
  | manifestCancel (o : HxOrder)
  /-- A MANIFEST STATUS returns slot state and NEXT_OFFSET. (13 R303) -/
  | manifestStatus (o : HxOrder)
  /-- The background erase of the staging slot completes and DATA orders waiting for it proceed. (13 R301) -/
  | stagingEraseDone
  /-- At the boundary the unit drains, blows the lifecycle fuse, zeroises the vault and warm resets. (14 R320) -/
  | stateChangeExecute (fuseOk : Bool)
  /-- A JTAG request moves BLANK to MANUFACTURE, or MANUFACTURE or RMA to SCRAP. (14 R318) -/
  | jtagLifecycleTransition (new : Nat) (fuseOk : Bool)
  /-- At ACTIVATE_AT a single unit drains, sets the slot TRIAL, re-hashes parts and warm resets. (13 R306) -/
  | updateActivation (bad : Bool)
  /-- The 120 s trial timer expires before HEALTHY, and the keeper fails the slot and warm resets. (13 R308) -/
  | trialTimerExpiry
  /-- A standby not resynchronised within TWIN_UPDATE_WAIT_S of A ends the schedule with OC_UPD_PARTNER. (13 R309) -/
  | twinUpdateWaitTimeout
  /-- In RECOVERY the device sends ANNOUNCE every 1 s until a valid host packet arrives. (13 R311) -/
  | recoveryAnnounceTimer
  /-- A recovery DATA packet is programmed at the expected offset and answered with ACK. (13 R311) -/
  | recoveryData (path : Nat) (packet : List U8) (signerOk : Bool) (cadOk : Bool)
  /-- A FINISH verifies every part, sets the slot TRIAL and RECOVERY_DONE, and warm resets. (13 R311) -/
  | recoveryFinish (path : Nat) (packet : List U8)
  /-- An ABORT packet ends the download in progress. (13 R311) -/
  | recoveryAbort (path : Nat) (packet : List U8)
  /-- 30 s of silence releases the download path. (13 R310) -/
  | recoverySilenceTimeout
  /-- A Baseline HELLO pairs the units and derives session keys. (15 R343) -/
  | blHello (h : Machine.BlFrame)
  /-- A HEARTBEAT frame is received, keeping the link alive. (15 R344) -/
  | blHeartbeat (h : Machine.BlFrame)
  /-- The standby receives a shadowed frame and processes it through Traverse. (15 R346) -/
  | blShadow (h : Machine.BlFrame) (a : Arrival)
  /-- The standby receives a device-made journal entry in stream order. (15 R346) -/
  | blEntry (h : Machine.BlFrame) (e : Machine.JEntry) (am : Option Amendment)
  /-- The standby commits or ends items with the JSNs and outcomes given. (15 R346) -/
  | blCommit (h : Machine.BlFrame)
  /-- The standby receives a journal page of the epoch and writes it to its reserve. (15 R348) -/
  | blDeltaPage (h : Machine.BlFrame) (fail : Nat)
  /-- The standby compares the four digests and answers EPOCH_RESULT. (15 R348) -/
  | blEpochEnd (h : Machine.BlFrame)
  /-- The active receives the comparison result, starting a recheck on mismatch. (15 R349) -/
  | blEpochResult (h : Machine.BlFrame)
  /-- The standby installs copied port tables, buckets, ACK values, campaign data or manifest bytes. (15 R346) -/
  | blStateCopy (h : Machine.BlFrame) (c : Machine.StateCopy)
  /-- A joining standby installs copied image records. (15 R352) -/
  | blBulk (h : Machine.BlFrame) (records : List (Nat × Machine.Parcel × Nat))
  /-- The bulk copy ends, and the joiner catches up from the shadowed stream. (15 R352) -/
  | blBulkDone (h : Machine.BlFrame) (b : Machine.BulkEnd)
  /-- A joining standby loads the pair slots of the vault. (15 R352) -/
  | blKeySync (h : Machine.BlFrame)
  /-- A peer's recheck verdict is received, and the pair yields, resynchronises or reports unresolved. (15 R350) -/
  | blRecheck (h : Machine.BlFrame)
  /-- The new active receives YIELD and begins admitting frames. (15 R351) -/
  | blYield (h : Machine.BlFrame) (load : Nat) (fail : Nat) (up : List Nat)
  /-- A FAULT report with a C4 code triggers takeover. (15 R347) -/
  | blFault (h : Machine.BlFrame)
  /-- The active commits an LMS_RESERVE entry for the standby's UNIT. (15 R346) -/
  | blReserveReq (h : Machine.BlFrame)
  /-- The active handles a TWIN_CMD relayed by the standby and answers CMD_ANSWER. (15 R353) -/
  | blCmd (h : Machine.BlFrame)
  /-- The standby receives the active's outcome and answers the relayed order. (15 R353) -/
  | blCmdAnswer (h : Machine.BlFrame)
  /-- A CLOSE frame ends the Baseline session. (15 R343) -/
  | blClose (h : Machine.BlFrame)
  /-- A frame of reserved type closes the session with OC_TWIN_LINK_FORMAT. (15 R344) -/
  | blReservedFrame (h : Machine.BlFrame)
  /-- ACK_SEQ not advancing for 50 µs resends from the first unacknowledged frame. (15 R344) -/
  | blResendTimeout
  /-- After 100 µs without sending, the unit sends HEARTBEAT. (15 R344) -/
  | blHeartbeatTimer
  /-- No authenticated frame for LINK_TIMEOUT_MS makes the link lost. (15 R344) -/
  | blLinkTimeout
  /-- A lane without block lock for 1 ms is taken out of use and its frames resent. (15 R342) -/
  | blLaneLockLoss (lane : Fin 2)
  /-- A lane with 100 ms of continuous lock rejoins. (15 R342) -/
  | blLaneRejoin (lane : Fin 2)
  /-- Every 500 µs the unit toggles TWIN_ALIVE. (15 R339) -/
  | twinAliveToggle
  /-- No edge on TWIN_ALIVE_PEER for 5 ms counts the peer as lost. (15 R339) -/
  | peerAliveLoss
  /-- An edge on TWIN_ALIVE_PEER after the peer was judged lost makes the peer alive again. (15 R339) -/
  | peerAliveReturn (role : Bool) (dt : Nat)
  /-- After 10 ms with TWIN_ROLE high the unit keeps the role or backs off. (15 R340) -/
  | roleArbitrationWait (role : Bool)
  /-- After the random back-off of 10 to 100 ms a unit that lost arbitration retries it. (15 R340) -/
  | roleArbitrationBackoff
  /-- A cover not arriving within MIRROR_HOLD_MS detaches the pair. (15 R346) -/
  | mirrorHoldTimeout
  /-- At takeover instant E the yielding active stops and the new active serves. (15 R351) -/
  | takeoverInstant (load : Nat) (fail : Nat) (bad : Bool) (up : List Nat)
  /-- A recheck of a diverged epoch completes and RECHECK is sent. (15 R349) -/
  | recheckDone (scrub : Bool) (replayed : List Nat)
  /-- A recheck not ended within 2 × L reports FAULT with REASON bit 2. (15 R349) -/
  | recheckTimeout
  /-- The patrol scrubber reads the next DRAM line, correcting or poisoning it. (18 R407) -/
  | patrolScrubRead (x : LineRead)
  /-- A patrol pass not complete within 2 × SCRUB_HOURS records OC_SCRUB_LATE. (18 R407) -/
  | scrubLate
  /-- An open block record closes after 1 s and passes to the keeper. (18 R413) -/
  | fbRecordClose (block : Nat)
  /-- A freeze ends automatically 1 s after FREEZE, or at once when the pending buffer fills. (18 R417) -/
  | fbFreezeExpiry
  /-- Every 225 s the keeper advances HOURS. (18 R412) -/
  | hoursTick
  /-- A target image differing from the shown one starts a waveform after MIN_UPDATE_S. (19 R422) -/
  | panelUpdateStart (field : Int)
  /-- A waveform's last frame ends, rails are lowered and DC book-keeping may schedule a refresh. (19 R425) -/
  | panelWaveformDone (field : Int)
  /-- A panel rail not at 90 % within 2 ms abandons the update. (19 R421) -/
  | panelRailTimeout (rail : Nat)
  /-- Every 1 s the panel temperature and band are measured. (19 R424) -/
  | panelTempMeasure (main : Int) (field : Int)
  /-- A deferred update below −15 °C is retried every 60 s. (19 R424) -/
  | panelColdRetry (field : Int)
  /-- VIN_SENSE, sampled every 10 us (mV), trips the detector, and the device enters LAST_GASP. (19 R428) -/
  | powerFailTrip (samples : List Nat)
  /-- The journal tail flush ends, the marker is written and the fault image drawn before LG_DONE. (19 R429) -/
  | lastGaspFlushDone (pages : Nat) (field : Int)
  /-- VIN_SENSE above threshold for 100 ms after LG_DONE makes the keeper warm reset. (19 R430) -/
  | vinReturnReset (vin : Nat)
  /-- A main rail below its minimum for 10 µs is a C4 fault, or ends the last gasp. (20 R439) -/
  | railLow (rail : Nat)
  /-- The main die at or above 110 °C for 1 s records OC_TEMP_HIGH. (20 R449) -/
  | tempHigh (t : Int)
  /-- The main die at or above 120 °C for 10 ms raises a C4 fault and holds RAIL_EN low. (20 R449) -/
  | tempTrip (t : Int)
  /-- After 60 s of RAIL_EN low following a thermal trip, the warm reset proceeds. (20 R449) -/
  | railEnHoldExpiry
  /-- An Ethernet or MGMT link goes up or down, changing the panel's link segments. (19 R418) -/
  | ethLinkChange (port : Nat) (up : Bool)
deriving DecidableEq, Repr

end Sys2Proof
end

