-- ==== Sys2Proof/Decode.lean ====
section
/-! DEFINITION. The decoder over the rows of the table that give bits. -/

namespace Sys2Proof

/-- The command that a word spells. No row of spec/opcode_table.json gives bits: every command comes from outside as itself. -/
def decodeTableWord (_nbits _w : Nat) : Option Instr := none

end Sys2Proof
end

