-- ==== Sys2Proof/Config.lean ====
section
/-! DEFINITION. What an implementation fixes and the specification leaves open: opaque constants, each applied to a
counter or to its operands. Nothing can be proved about their values. -/

namespace Sys2Proof.Config

/-- A fresh open value: the value of a draw the specification leaves open (random session numbers, back-offs, undefined
straps, undefined register contents), by the number of the draw (log 3). -/
opaque free : Nat → Nat

/-- The two keyed directory hashes of 03 R63: by key draw, which of the two, and identity (log 4). -/
opaque dirHash : Nat → Nat → U64 → Nat

/-- The default panel waveforms of the running manifest's default-tables part (19 R423), by number: the frame length in
half milliseconds, and its frames (log 5). -/
opaque waveHalf : Nat → Nat
/-- Frames of the default panel waveform of a number (19 R423, log 5). -/
opaque waveFrames : Nat → List U8

/-- The root secret that this device's OTP fuses hold (14 R314, log 6). -/
opaque fuseRoot : Nat

/-- The root secret that this device's SRAM PUF regenerates (14 R314, R315, log 6). -/
opaque pufRoot : Nat

/-- The root T[1] of the top LMS tree, as the 32 bytes spell it, of the tree that a SEED and an identifier I make (RFC 8554 computes it from
2^20 one-time keys; 14 Table 14.5, R332, log 6). -/
opaque lmsRoot : List U8 → List U8 → Nat

/-- The Pearson coefficient in thousandths of two profiles one of which does not vary: 07 R174 states no value (log 7). -/
opaque flatCoeff : List Int → List Int → Int

/-- Nythaor's default read threshold table: the offset set of an index 0 to 149 (08 R193, log 8). -/
opaque readSet : Nat → Nat

/-- Nythaor's default read-level offsets of an offset set 0 to 63 (08 R193, log 8). -/
opaque readLevels : Nat → List Int

/-- Bytes that a ciphered DLMS ACTION-request of the image transfer class adds around a block, by the member's protocol
(12 R292 takes them from external standards, log 9). -/
opaque actionBytes : Nat → Nat

/-- Byte of a ciphered DLMS ACTION-request of the image transfer class, by the member's protocol, the data it carries, and its place (12 R292 takes
it from external standards, log 9). -/
opaque actionByte : Nat → List U8 → Nat → U8

/-- Bytes, counted from PHR or L field to the last check byte, of the radio frame that carries a datagram: by the port's STANDARD and
the datagram's length (10 names the external standards that frame it, log 9). -/
opaque frameBytes : Nat → Nat → Nat

/-- Byte of the identity signature over bytes under a leaf, by its place (14 R332, R336, log 35). -/
opaque signByte : List U8 → Nat → Nat → U8

/-- Level that stands at an input pin SP[p] at a microsecond of elapsed time, as the board drives it (02 Table 2.6, log 100). -/
opaque pinIn : Nat → Nat → Bool

/-- DELTA of a record whose difference lies outside an i64, and EXPONENT of one whose scaled exponent lies outside an i8: 05 Table 5.1 states no
value (log 107). -/
opaque deltaOut : Int → BitVec 64
/-- EXPONENT of a record whose scaled exponent lies outside an i8 (05 Table 5.1, log 107). -/
opaque exponentOut : Int → BitVec 8

/-- Entries that an engine's input queue holds (04 R81, R85 name the queues and no size, log 112). -/
opaque engineDepth : Nat → Nat

/-- Byte of an application confirmation, by protocol, counter confirmed and place: external standards form it (03 R56, log 113). -/
opaque confirmByte : Nat → Nat → Nat → U8

/-- Bytes of the journal staging ring in working SRAM (04 R97 gives it no size, log 112). -/
opaque ringBytes : Nat

/-- Version of the mask ROM (14 Table 14.12 states no value, log 10). -/
opaque romVersion : Nat

end Sys2Proof.Config
end

