-- ==== Sys2Proof/Machine/Digest.lean ====
section
/-! DEFINITION. Numbers as bytes, and the standard digests over bytes that the specification names: SHA-256, HMAC, HKDF, and the derivation of
14 R323 (FIPS 180-4, RFC 2104, RFC 5869, NIST SP 800-108). -/

namespace Sys2Proof.Machine

/-- The `n` bytes of a number, most significant first: digests and identities in frame order. -/
def beBytes (n v : Nat) : List U8 := (leBytes n v).reverse

/-- Big-endian number of bytes. -/
def beNat (l : List U8) : Nat := l.foldl (fun a b => 256 * a + b.toNat) 0

/-- Big-endian number of `n` bytes from an offset. -/
def beAt (l : List U8) (off n : Nat) : Nat := beNat ((l.drop off).take n)

/-- A signed number of `n` bytes in two's complement, most significant byte first. -/
def beInt (n : Nat) (z : Int) : List U8 := beBytes n (z % (256 ^ n : Nat)).toNat

/-- Signed big-endian number of `n` bytes from an offset. -/
def beSigned (l : List U8) (off n : Nat) : Int :=
  let v := beAt l off n
  if 2 * v < 256 ^ n then (v : Int) else (v : Int) - (256 ^ n : Nat)

/-- Reserved bytes, which are written 0 (03 R55). -/
def zeros (n : Nat) : List U8 := List.replicate n 0

/-- The characters of an ASCII string, without terminator. -/
def asciiBytes (t : String) : List U8 := t.toList.map (fun c => BitVec.ofNat 8 c.toNat)

/-! ### SHA-256 (FIPS 180-4) over 32-bit words held as numbers -/

/-- The round constants. -/
def shaK : List Nat :=
  [0x428A2F98, 0x71374491, 0xB5C0FBCF, 0xE9B5DBA5, 0x3956C25B, 0x59F111F1, 0x923F82A4, 0xAB1C5ED5] ++
  [0xD807AA98, 0x12835B01, 0x243185BE, 0x550C7DC3, 0x72BE5D74, 0x80DEB1FE, 0x9BDC06A7, 0xC19BF174] ++
  [0xE49B69C1, 0xEFBE4786, 0x0FC19DC6, 0x240CA1CC, 0x2DE92C6F, 0x4A7484AA, 0x5CB0A9DC, 0x76F988DA] ++
  [0x983E5152, 0xA831C66D, 0xB00327C8, 0xBF597FC7, 0xC6E00BF3, 0xD5A79147, 0x06CA6351, 0x14292967] ++
  [0x27B70A85, 0x2E1B2138, 0x4D2C6DFC, 0x53380D13, 0x650A7354, 0x766A0ABB, 0x81C2C92E, 0x92722C85] ++
  [0xA2BFE8A1, 0xA81A664B, 0xC24B8B70, 0xC76C51A3, 0xD192E819, 0xD6990624, 0xF40E3585, 0x106AA070] ++
  [0x19A4C116, 0x1E376C08, 0x2748774C, 0x34B0BCB5, 0x391C0CB3, 0x4ED8AA4A, 0x5B9CCA4F, 0x682E6FF3] ++
  [0x748F82EE, 0x78A5636F, 0x84C87814, 0x8CC70208, 0x90BEFFFA, 0xA4506CEB, 0xBEF9A3F7, 0xC67178F2]

/-- The initial hash value. -/
def shaStart : List Nat := [0x6A09E667, 0xBB67AE85, 0x3C6EF372, 0xA54FF53A, 0x510E527F, 0x9B05688C, 0x1F83D9AB, 0x5BE0CD19]

/-- A word turned right. -/
def shaTurn (x n : Nat) : Nat := (x >>> n) ||| ((x <<< (32 - n)) % 4294967296)

/-- The next word of the message schedule from the words before it, the newest first. -/
def shaNext (l : List Nat) : Nat :=
  let a := l.getD 14 0
  let b := l.getD 1 0
  let s0 := shaTurn a 7 ^^^ shaTurn a 18 ^^^ (a >>> 3)
  let s1 := shaTurn b 17 ^^^ shaTurn b 19 ^^^ (b >>> 10)
  (l.getD 15 0 + s0 + l.getD 6 0 + s1) % 4294967296

/-- The message schedule after `n` more words, the newest first. -/
def shaSchedule : Nat → List Nat → List Nat
  | 0, l => l
  | n + 1, l => shaSchedule n (shaNext l :: l)

/-- One round: the eight working words, a round constant and a word of the schedule. -/
def shaRound (v : List Nat) (kw : Nat × Nat) : List Nat := match v with
  | [a, b, c, d, e, f, g, h] =>
    let s1 := shaTurn e 6 ^^^ shaTurn e 11 ^^^ shaTurn e 25
    let ch := (e &&& f) ^^^ ((e ^^^ 4294967295) &&& g)
    let t1 := h + s1 + ch + kw.1 + kw.2
    let s0 := shaTurn a 2 ^^^ shaTurn a 13 ^^^ shaTurn a 22
    let maj := (a &&& b) ^^^ (a &&& c) ^^^ (b &&& c)
    [(t1 + s0 + maj) % 4294967296, a, b, c, (d + t1) % 4294967296, e, f, g]
  | l => l

/-- Big-endian words of bytes; `n` words. -/
def shaWords : Nat → List U8 → List Nat
  | 0, _ => []
  | n + 1, l => beNat (l.take 4) :: shaWords n (l.drop 4)

/-- The hash value after a block of 64 bytes. -/
def shaBlock (h : List Nat) (block : List U8) : List Nat :=
  let w := (shaSchedule 48 (shaWords 16 block).reverse).reverse
  (h.zip ((shaK.zip w).foldl shaRound h)).map (fun x => (x.1 + x.2) % 4294967296)

/-- The hash value after `n` blocks. -/
def shaBlocks : Nat → List Nat → List U8 → List Nat
  | 0, h, _ => h
  | n + 1, h, l => shaBlocks n (shaBlock h (l.take 64)) (l.drop 64)

/-- The padded message: a bit 1, zeros, and the length in bits. -/
def shaPad (l : List U8) : List U8 := l ++ 0x80 :: zeros ((119 - l.length % 64) % 64) ++ beBytes 8 (8 * l.length)

/-- SHA-256 of bytes, as the number its 32 bytes spell. -/
@[irreducible] def hashOf (l : List U8) : Nat :=
  let p := shaPad l
  (shaBlocks (p.length / 64) shaStart p).foldl (fun a w => a * 4294967296 + w) 0

/-- SHA-256 of bytes, as bytes. -/
def hashBytes (l : List U8) : List U8 := beBytes 32 (hashOf l)

/-! ### Keyed digests and derivation -/

/-- HMAC-SHA-256. -/
def hmacSha256 (key msg : List U8) : List U8 :=
  let k := if 64 < key.length then hashBytes key else key
  let k := k ++ zeros (64 - k.length)
  hashBytes (k.map (· ^^^ 0x5C#8) ++ hashBytes (k.map (· ^^^ 0x36#8) ++ msg))

/-- HKDF-extract with SHA-256 (RFC 5869). -/
def hkdfExtract (salt ikm : List U8) : List U8 := hmacSha256 salt ikm

/-- HKDF-expand to 32 bytes, which is its first block. -/
def hkdfExpand (prk info : List U8) : List U8 := hmacSha256 prk (info ++ [1])

/-- kdf(key, label, context) of 14 R323. -/
def kdf (key : List U8) (label : String) (context : List U8) : List U8 :=
  hmacSha256 key (beBytes 4 1 ++ asciiBytes label ++ [0] ++ context ++ beBytes 4 0x100)

end Sys2Proof.Machine
end

