-- ==== Sys2Proof/Machine/KeyWrap.lean ====
section
/-! DEFINITION. Key wrapping: AES with 256-bit keys (FIPS 197) and RFC 3394, under which keys stand in parcels, orders and the cadastre
(03 Table 3.4, 14 R326 to R331). -/

namespace Sys2Proof.Machine

/-! ### AES-256 over a state of 16 bytes held as numbers, in column order -/

/-- The S-box: the substitute of byte x stands at bits 8 x to 8 x + 7. -/
def aesBox : Nat :=
  0x16BB54B00F2D99416842E6BF0D89A18CDF2855CEE9871E9B948ED9691198F8E19E1DC186B95735610EF6034866B53E708A8BBD4B1F74DDE8C6B4A61C2E2578BA08AE7A65EAF4566CA94ED58D6D37C8E779E4959162ACD3C25C2406490A3A32E0DB0B5EDE14B8EE4688902A22DC4F816073195D643D7EA7C41744975FEC130CCDD2F3FF1021DAB6BCF5389D928F40A351A89F3C507F02F94585334D43FBAAEFD0CF584C4A39BECB6A5BB1FC20ED00D153842FE329B3D63B52A05A6E1B1A2C830975B227EBE28012079A059618C323C7041531D871F1E5A534CCF73F362693FDB7C072A49CAFA2D4ADF04759FA7DC982CA76ABD7FE2B670130C56F6BF27B777C63

/-- The inverse S-box, likewise. -/
def aesUnbox : Nat :=
  0x7D0C2155631469E126D677BA7E042B17619953833CBBEBC8B0F52AAE4D3BE0A0EF9CC9939F7AE52D0D4AB519A97F51605FEC8027591012B131C7078833A8DD1FF45ACD78FEC0DB9A2079D2C64B3E56FC1BBE18AA0E62B76F89C5291D711AF1476EDF751CE837F9E28535ADE72274AC9673E6B4F0CECFF297EADC674F4111913A6B8A130103BDAFC1020F3FCA8F1E2CD00645B3B80558E4F70AD3BC8C00ABD890849D8DA75746155EDAB9EDFD5048706C92B6655DCC5CA4D41698688664F6F87225D18B6D49A25B76B224D92866A12E084EC3FA420B954CEE3D23C2A632947B54CBE9DEC444438E3487FF2F9B8239E37CFBD7F3819EA340BF38A53630D56A0952

/-- The entry of a box. -/
def boxAt (box x : Nat) : Nat := (box >>> (8 * x)) % 256

/-- A byte times x in GF(2^8). -/
def aesDouble (a : Nat) : Nat := if a < 128 then 2 * a else (2 * a) % 256 ^^^ 0x1B

/-- Words of the key schedule after `n` more, the newest first (each word four bytes); `i` is the number of the next word. -/
def aesWords : Nat → Nat → Nat → List (List Nat) → List (List Nat)
  | 0, _, _, l => l
  | n + 1, i, rcon, l =>
    let t := l.getD 0 []
    let back := l.getD 7 []
    let sub := t.map (boxAt aesBox)
    let u := if i % 8 = 0 then (match sub with
        | [a, b, c, d] => [b ^^^ rcon, c, d, a]
        | x => x)
      else if i % 8 = 4 then sub else t
    let w := (back.zip u).map (fun p => p.1 ^^^ p.2)
    aesWords n (i + 1) (if i % 8 = 0 then aesDouble rcon else rcon) (w :: l)

/-- The 60 words of the key schedule of a 32-byte key. -/
def aesSchedule (key : List Nat) : List (List Nat) :=
  (aesWords 52 8 1 ((List.range 8).map (fun k => (key.drop (4 * k)).take 4)).reverse).reverse

/-- The round keys, 16 bytes each; `n` of them. -/
def aesRounds : Nat → List (List Nat) → List (List Nat)
  | 0, _ => []
  | n + 1, w => (w.take 4).flatten :: aesRounds n (w.drop 4)

/-- Add a round key. -/
def aesAdd (s k : List Nat) : List Nat := (s.zip k).map (fun p => p.1 ^^^ p.2)

/-- Rows shifted left by their number. -/
def aesShift (s : List Nat) : List Nat := [0, 5, 10, 15, 4, 9, 14, 3, 8, 13, 2, 7, 12, 1, 6, 11].map (fun k => s.getD k 0)

/-- Rows shifted right by their number. -/
def aesUnshift (s : List Nat) : List Nat := [0, 13, 10, 7, 4, 1, 14, 11, 8, 5, 2, 15, 12, 9, 6, 3].map (fun k => s.getD k 0)

/-- A column mixed. -/
def aesColumn (a b c d : Nat) : List Nat :=
  let t := a ^^^ b ^^^ c ^^^ d
  [a ^^^ t ^^^ aesDouble (a ^^^ b), b ^^^ t ^^^ aesDouble (b ^^^ c), c ^^^ t ^^^ aesDouble (c ^^^ d), d ^^^ t ^^^ aesDouble (d ^^^ a)]

/-- A column unmixed: the mix of the column with 4 (a + c) and 4 (b + d) added. -/
def aesUncolumn (a b c d : Nat) : List Nat :=
  let u := aesDouble (aesDouble (a ^^^ c))
  let v := aesDouble (aesDouble (b ^^^ d))
  aesColumn (a ^^^ u) (b ^^^ v) (c ^^^ u) (d ^^^ v)

/-- Apply a map of columns. -/
def aesColumns (f : Nat → Nat → Nat → Nat → List Nat) : List Nat → List Nat
  | a :: b :: c :: d :: l => f a b c d ++ aesColumns f l
  | _ => []

/-- Encrypt a block. -/
def aesEncrypt (rounds : List (List Nat)) (s : List Nat) : List Nat := match rounds with
  | [] => s
  | k :: ks =>
    let last := ks.getLastD []
    let s := ks.dropLast.foldl (fun s k => aesAdd (aesColumns aesColumn (aesShift (s.map (boxAt aesBox)))) k) (aesAdd s k)
    aesAdd (aesShift (s.map (boxAt aesBox))) last

/-- Decrypt a block. -/
def aesDecrypt (rounds : List (List Nat)) (s : List Nat) : List Nat := match rounds.reverse with
  | [] => s
  | k :: ks =>
    let last := ks.getLastD []
    let s := ks.dropLast.foldl (fun s k => aesColumns aesUncolumn (aesAdd ((aesUnshift s).map (boxAt aesUnbox)) k)) (aesAdd s k)
    aesAdd ((aesUnshift s).map (boxAt aesUnbox)) last

/-! ### RFC 3394 -/

/-- Bytes as numbers. -/
def byteVals (l : List U8) : List Nat := l.map (·.toNat)

/-- The round keys of a key given as a number. -/
def kekRounds (kek : Nat) : List (List Nat) := aesRounds 15 (aesSchedule (byteVals (beBytes 32 kek)))

/-- The 8-byte registers of key data; `n` of them. -/
def wrapParts : Nat → List Nat → List (List Nat)
  | 0, _ => []
  | n + 1, l => l.take 8 :: wrapParts n (l.drop 8)

/-- A register with a step's counter added to it. -/
def wrapXor (a : List Nat) (t : Nat) : List Nat := (a.zip (byteVals (beBytes 8 t))).map (fun p => p.1 ^^^ p.2)

/-- One pass over the registers: the integrity register, those done (newest first), those to do, and the next step. -/
def wrapPass (ks : List (List Nat)) : List Nat → List (List Nat) → List (List Nat) → Nat → List Nat × List (List Nat)
  | a, out, [], _ => (a, out.reverse)
  | a, out, r :: rs, t =>
    let b := aesEncrypt ks (a ++ r)
    wrapPass ks (wrapXor (b.take 8) t) (b.drop 8 :: out) rs (t + 1)

/-- One pass backwards: the registers come newest first. -/
def unwrapPass (ks : List (List Nat)) : List Nat → List (List Nat) → List (List Nat) → Nat → List Nat × List (List Nat)
  | a, out, [], _ => (a, out.reverse)
  | a, out, r :: rs, t =>
    let b := aesDecrypt ks (wrapXor a t ++ r)
    unwrapPass ks (b.take 8) (b.drop 8 :: out) rs (t - 1)

/-- The initial value of the integrity register. -/
def wrapStart : List Nat := List.replicate 8 0xA6

/-- A key of `n` bytes (16 or 32) wrapped under a 32-byte key: `n` + 8 bytes. -/
@[irreducible] def keyWrap (kek n key : Nat) : List U8 :=
  let ks := kekRounds kek
  let parts := wrapParts (n / 8) (byteVals (beBytes n key))
  let r := (List.range 6).foldl (fun (x : List Nat × List (List Nat)) j => wrapPass ks x.1 [] x.2 (n / 8 * j + 1)) (wrapStart, parts)
  (r.1 ++ r.2.flatten).map (BitVec.ofNat 8)

/-- The key that wrapped bytes hold under a 32-byte key, where their integrity check passes. -/
@[irreducible] def keyUnwrap (kek : Nat) (l : List U8) : Option Nat :=
  let n := l.length / 8 - 1
  if l.length % 8 ≠ 0 ∨ n < 2 then none
  else
    let ks := kekRounds kek
    let v := byteVals l
    let r := (List.range 6).foldl (fun (x : List Nat × List (List Nat)) j => unwrapPass ks x.1 [] x.2 (n * (6 - j)))
      (v.take 8, (wrapParts n (v.drop 8)).reverse)
    if r.1 = wrapStart then some ((r.2.reverse.flatten).foldl (fun a b => a * 256 + b) 0) else none

end Sys2Proof.Machine
end

