-- ==== Sys2Proof/Machine/Layout.lean ====
section
/-! DEFINITION. The byte layouts of parcels, reading records and journal entries, little-endian (00 R5, 03 R55, R457, 04 R94 to R96, 05 R114), the
CRC-32C they carry, and the deterministic CBOR that digests are taken over. -/

namespace Sys2Proof.Machine

/-- A signed number of `n` bytes in two's complement, least significant byte first (00 R5). -/
def leInt (n : Nat) (z : Int) : List U8 := leBytes n (z % (256 ^ n : Nat)).toNat

/-- Numbers below 256 as bytes, cut or filled with zeros to `n`. -/
def fixed (n : Nat) (l : List Nat) : List U8 := (List.range n).map (fun k => BitVec.ofNat 8 (l.getD k 0))

/-- Bytes as the numbers a digest is taken over. -/
def byteNums (l : List U8) : List Int := l.map (fun b => (b.toNat : Int))

/-! ### CRC-32C (Castagnoli) -/

/-- One bit of the reflected CRC-32C register. -/
def crcBit (c : U32) : U32 := if c.getLsbD 0 then (c >>> 1) ^^^ 0x82F63B78#32 else c >>> 1

/-- One byte. -/
def crcByte (c : U32) (b : U8) : U32 :=
  let x := c ^^^ b.setWidth 32
  crcBit (crcBit (crcBit (crcBit (crcBit (crcBit (crcBit (crcBit x)))))))

/-- CRC-32C of bytes (04 Table 4.4, 02 Table 2.8). -/
def crc32c (l : List U8) : U32 := ~~~ (l.foldl crcByte 0xFFFFFFFF#32)

/-! ### Deterministic CBOR -/

/-- The head of an item of a major type: the shortest form of its argument. -/
def cborHead (major n : Nat) : List U8 :=
  let m (k : Nat) : U8 := BitVec.ofNat 8 (32 * major + k)
  if n < 24 then [m n]
  else if n < 256 then m 24 :: beBytes 1 n
  else if n < 65536 then m 25 :: beBytes 2 n
  else if n < 4294967296 then m 26 :: beBytes 4 n
  else m 27 :: beBytes 8 n

/-- A uint or a negative int. -/
def cborInt (z : Int) : List U8 := if 0 ≤ z then cborHead 0 z.toNat else cborHead 1 (-1 - z).toNat

/-- A bool. -/
def cborBool (b : Bool) : List U8 := [if b then 0xF5 else 0xF4]

/-- A byte string. -/
def cborBytes (l : List U8) : List U8 := cborHead 2 l.length ++ l

/-- An array of encoded items. -/
def cborArray (l : List (List U8)) : List U8 := cborHead 4 l.length ++ l.flatten

/-- A map with the keys 1, 2, 3 and so on. -/
def cborMap (l : List (List U8)) : List U8 := cborHead 5 l.length ++ (l.zipIdx.map (fun e => cborInt (e.2 + 1) ++ e.1)).flatten

/-- A map with given keys, in ascending order. -/
def cborKeyed (l : List (Nat × List U8)) : List U8 := cborHead 5 l.length ++ (l.map (fun e => cborHead 0 e.1 ++ e.2)).flatten

/-- An array of integers. -/
def cborInts (l : List Int) : List U8 := cborArray (l.map cborInt)

/-! ### The parcel record (03 Table 3.2) -/

/-- A key slot (03 Table 3.4). -/
def keySlotBytes (k : KeySlot) : List U8 :=
  if k.role = 0 then zeros 48
  else leBytes 1 k.role ++ leBytes 1 16 ++ leBytes 2 k.version ++ leBytes 4 k.kekGen ++ k.wrapped.take 24 ++ zeros (24 - k.wrapped.length) ++ zeros 16

/-- Key slots `a` to `a + n - 1`. -/
def keySlotsBytes (t : Tab KeySlot) (a n : Nat) : List U8 := ((List.range n).map (fun k => keySlotBytes (tabGet t (a + k) {}))).flatten

/-- LAST_CONFIRM (03 Table 3.2): u16 length, u16 path, and the 92 bytes of the confirmation, which external standards form (log 113). -/
def confirmBytes (c : Confirm) : List U8 :=
  leBytes 2 c.length ++ leBytes 2 c.path ++
    (List.range 92).map (fun k => if k < c.length then Config.confirmByte c.protocol c.counter k else 0)

/-- `n` u64 of a table. -/
def u64s (t : Tab Nat) (a n : Nat) : List U8 := ((List.range n).map (fun k => leBytes 8 (tabGet t (a + k) 0))).flatten

/-- REGISTERS (06 Table 6.7). -/
def registersBytes (r : Registers) : List U8 :=
  u64s r.energy 0 32 ++ u64s r.total 0 4 ++
    ((List.range 8).map (fun k => let m := tabGet r.md k (0, 0); leBytes 8 m.1 ++ leBytes 8 m.2)).flatten ++
    u64s r.degraded 0 4 ++ leBytes 4 r.periodsClosed ++ leBytes 4 r.lateCredits ++ leBytes 4 r.demandSkipped ++ zeros 4 ++
    leBytes 8 r.periodStart ++ zeros 40

/-- A demand slot (06 Table 6.10). -/
def demandSlotBytes (d : DemandSlot) : List U8 :=
  leBytes 8 d.acc ++ leBytes 4 d.endAt ++ leBytes 1 d.tariff ++ leBytes 1 d.minutes ++ leBytes 1 d.incomplete.toNat ++ zeros 1

/-- DEMAND_STATE (06 Table 6.9). -/
def demandBytes (d : DemandState) : List U8 :=
  demandSlotBytes (tabGet d.slots 0 {}) ++ demandSlotBytes (tabGet d.slots 1 {}) ++ u64s d.carry 0 8 ++
    leBytes 1 (tabGet d.carryTariff 0 0) ++ leBytes 1 (tabGet d.carryTariff 1 0) ++ zeros 6 ++
    leBytes 8 d.carryBase ++ leBytes 8 d.demandThrough ++ leBytes 8 d.closedThrough

/-- CHANNEL_STATE (05 Table 5.10). -/
def channelsBytes (t : Tab ChannelState) : List U8 :=
  ((List.range 16).map (fun k => let c := tabGet t k {}; leInt 8 c.lastValue ++ leBytes 8 c.lastTime)).flatten

/-- VEE_STATE (05 Table 5.10). -/
def veeBytes (t : Tab ChannelState) : List U8 :=
  ((List.range 16).map (fun k => let c := tabGet t k {}
    leBytes 1 c.flatRun ++ leBytes 1 c.flags ++ leBytes 2 c.defTag ++ leBytes 4 c.flatSince)).flatten

/-- A Steelyard slot (07 Table 7.6). -/
def steelSlotBytes (x : SteelSlot) : List U8 :=
  leBytes 4 x.imp ++ leBytes 4 x.exp ++ leBytes 4 x.endS ++ leBytes 1 (x.tamper.toNat + 2 * x.voltage.toNat) ++ zeros 3

/-- STEELYARD_STATE (07 Table 7.6). -/
def steelBytes (x : SteelState) : List U8 :=
  steelSlotBytes (tabGet x.slots 0 {}) ++ steelSlotBytes (tabGet x.slots 1 {}) ++ leBytes 4 x.coveredFrom ++ leBytes 4 x.coveredThrough ++
    leBytes 4 x.shortMean ++ leBytes 4 x.longMean ++ leBytes 2 x.score ++ leBytes 1 x.zeroRun ++
    leBytes 1 (x.producer.toNat + 2 * x.reported.toNat + 4 * x.isCheck.toNat) ++ leBytes 4 x.nextNode ++ leBytes 4 x.nextFrom ++ zeros 4

/-- THEODOLITE_STATE (07 Table 7.7). -/
def theoBytes (x : TheoState) : List U8 :=
  ((List.range 6).map (fun k => leBytes 2 (tabGet x.votes k 0))).flatten ++ leBytes 1 x.phase ++ leBytes 1 x.source ++ leBytes 1 x.voltPhase ++
    leBytes 1 x.agree ++ leBytes 4 x.candidate ++ leInt 2 x.rBest ++ leInt 2 x.rSecond ++ leBytes 8 x.proposal ++ leBytes 4 x.lastPass ++ zeros 28

/-- CAMPAIGN_STATE (12 Table 12.10). -/
def campaignBytes (x : CampaignState) : List U8 :=
  leBytes 2 x.campaign ++ leBytes 1 x.ep ++ leBytes 1 x.attempts ++ leBytes 4 x.nextBlock ++ leBytes 8 x.stateTime ++ leBytes 2 x.lastCode ++
    zeros 2 ++ beBytes 12 x.lastActivated ++ leBytes 8 x.snapshotThrough ++ zeros 24

/-- ARCHIVE_STATE (08 Table 8.2). -/
def archStateBytes (x : ArchState) : List U8 :=
  leBytes 2 ((List.range 16).map (fun k => if (tabGet x.slots k {}).isOpen then 2 ^ k else 0)).sum ++ leBytes 1 x.verbatim.length ++ zeros 1 ++
    leBytes 4 x.chunks.toNat ++ leBytes 4 x.notArchived ++ leBytes 4 x.sweepEpoch.toNat ++ zeros 48

/-- DOWNLINK_STATE at elapsed time `now` (10 Table 10.4). -/
def downlinkBytes (now : Nat) (l : List (Nat × Nat × Nat × Nat)) : List U8 :=
  let l := l.take 4
  leBytes 1 l.length ++ leBytes 1 ((l.head?.map (·.1)).getD 0) ++ zeros 2 ++
    ((List.range 4).map (fun k => match l[k]? with
      | some d => leBytes 4 d.2.1 ++ leBytes 2 d.2.2.1 ++ leBytes 2 (satTo 65535 ((now - d.2.2.2) / 1000000000))
      | none => zeros 8)).flatten ++ zeros 4

/-- STATE codes (03 Table 3.3). -/
def parcelStateCode : ParcelState → Nat
  | .free => 0
  | .active => 1
  | .retiring => 2
  | .restoring => 3

/-- FLAGS of a parcel head (03 Table 3.3). -/
def parcelFlags (p : Parcel) : Nat := p.sleepy.toNat + 2 * p.downlinkPending.toNat + 4 * p.inCampaign.toNat + 8 * p.keyInvalid.toNat

/-- The head of parcel `i` (03 Table 3.3), 256 bytes. -/
def parcelHead (now i : Nat) (p : Parcel) : List U8 :=
  leBytes 8 p.identity.toNat ++ leBytes 3 i ++ leBytes 1 (parcelStateCode p.state) ++ leBytes 2 p.generation ++ leBytes 1 p.protocol ++
    leBytes 1 p.medium ++ leBytes 1 p.path ++ leBytes 1 p.port ++ leBytes 2 p.cell ++ leBytes 2 p.shortAddr ++ leBytes 1 p.calendar ++
    leBytes 1 (parcelFlags p) ++ leBytes 8 p.fcHigh ++ leBytes 8 p.fcWindow.toNat ++ leBytes 8 p.lastAccept ++ leBytes 8 p.lastSource ++
    leInt 8 p.lastEpoch ++ keySlotsBytes p.keys 0 2 ++ leBytes 4 p.balanceNode ++ leBytes 2 p.veeProfile ++ leBytes 1 p.channelCount ++ zeros 1 ++
    fixed 16 p.linkState ++ downlinkBytes now p.downlink ++ zeros 32

/-- The record of parcel `i` (03 Table 3.2), 2,048 bytes at 2,048 i of the parcel store. -/
def parcelBytes (now i : Nat) (p : Parcel) : List U8 :=
  parcelHead now i p ++ keySlotsBytes p.keys 2 4 ++ confirmBytes p.lastConfirm ++ registersBytes p.registers ++ demandBytes p.demand ++
    channelsBytes p.channels ++ veeBytes p.channels ++ steelBytes p.steel ++ theoBytes p.theo ++ campaignBytes p.campaign ++
    archStateBytes p.archive ++ zeros 160 ++
    (leBytes 8 p.enrolTime ++ beBytes 16 p.enrolDigest ++ leBytes 8 p.retireTime ++ leBytes 8 p.lastKeyload ++ zeros 24)

/-! ### Reading records and journal entries -/

/-- A reading record (05 Table 5.1), 64 bytes. -/
def recBytes (r : Rec) : List U8 :=
  leInt 8 r.value ++ leBytes 8 r.sourceTime ++ leBytes 8 r.arrival ++ leInt 8 r.delta ++ fixed 6 r.code ++ leBytes 1 r.codeKind ++ leBytes 1 r.channel ++
    leBytes 1 r.nunit ++ leBytes 1 r.kind ++ leInt 1 r.exponent ++ leBytes 1 r.tq ++ leBytes 2 r.quality ++ leBytes 1 r.epStatus ++
    leBytes 1 r.editReason ++ leBytes 8 r.identity.toNat ++ leBytes 3 r.parcel ++ leBytes 1 r.seq ++ leBytes 2 r.generation ++ leBytes 2 r.veeProfile

/-- A slot of the archive staging ring (08 Table 8.1): its samples are (i64 VALUE, u16 QUALITY, u8 EDIT_REASON, u8 TQ). -/
def archSlotBytes (x : ArchSlot) : List U8 :=
  leInt 8 (x.anchor.getD 0) ++ leBytes 8 x.base ++ leBytes 4 x.grain ++
    leBytes 2 ((List.range 16).map (fun j => if (tabFind x.samples j).isSome then 2 ^ j else 0)).sum ++ leBytes 1 x.count ++
    leBytes 1 (x.anchor.isSome.toNat + 2 * x.reset.toNat + 4 * x.rollover.toNat + 8 * x.isOpen.toNat) ++
    ((List.range 16).map (fun j => let a := tabGet x.samples j {}
      leInt 8 a.value ++ leBytes 2 a.quality ++ leBytes 1 a.edit ++ leBytes 1 a.tq)).flatten

/-- The archive staging ring of a parcel (08 Table 8.1), 4,096 bytes. -/
def archRingBytes (x : ArchState) : List U8 :=
  ((List.range 16).map (fun k => archSlotBytes (tabGet x.slots k {}))).flatten ++
    ((List.range 10).map (fun k => match x.verbatim[k]? with
      | some r => recBytes r
      | none => zeros 64)).flatten

/-- The tail of a READING entry (04 Table 4.6), 128 bytes. -/
def tailBytesOf (t : ReadTail) : List U8 :=
  fixed 16 t.linkState ++ leBytes 1 t.path ++ leBytes 1 t.port ++ leBytes 2 t.cell ++ leBytes 2 t.shortAddr ++ zeros 10 ++ confirmBytes t.confirm

/-- Bytes of the BODY of a device-made ORDER entry. 12 gives no table for CAMPAIGN_STEP and SNAPSHOT_MARK: log 114. -/
def deviceBody (kind : Nat) (ns : List Int) : List U8 :=
  let n (k : Nat) : Nat := (ns.getD k 0).toNat
  if kind = 0x80 then leBytes 2 (n 0) ++ leBytes 1 (n 1) ++ leBytes 1 (n 2) ++ leBytes 4 (n 3) ++ leBytes 8 (n 4) ++ leBytes 8 (n 5) ++ leBytes 8 (n 6)
  else if kind = 0x81 then
    campaignBytes { campaign := n 0, ep := n 1, attempts := n 2, nextBlock := n 3, stateTime := n 4, lastCode := n 5, lastActivated := n 6 }
  else if kind = 0x82 then
    leBytes 8 (n 0) ++ leBytes 8 (n 1) ++ leBytes 1 (n 2) ++ leBytes 1 (n 3) ++ zeros 6 ++ ((ns.drop 4).map (fun i => leBytes 8 i.toNat)).flatten
  else if kind = 0x83 then leBytes 8 (n 0) ++ leInt 2 (ns.getD 1 0) ++ zeros 6
  else if kind = 0x84 then leBytes 3 (n 0) ++ leBytes 2 (n 1) ++ leBytes 1 (n 2) ++ zeros 1
  else if kind = 0x85 then leBytes 4 (n 0) ++ leBytes 4 (n 1)
  else cborMap (ns.map cborInt)

/-- Is an ORDER body one that the device makes itself (12 Table 12.2, R286, 07 R176)? -/
def deviceMade (source kind : Nat) : Bool := source == 1 && kind != 7

/-- BODY of an ORDER entry: as received, or as the device makes it (12 R287). -/
def orderBody (kind source : Nat) (received : List U8) (ns : List Int) : List U8 :=
  if deviceMade source kind then deviceBody kind ns else received

/-- Round up to a whole number of 64-byte units (04 R94). -/
def units64 (n : Nat) : Nat := (n + 63) / 64 * 64

/-- Bytes 64 to LENGTH - 1 of an entry (04 R95, R96, 03 R457, 06 Tables 6.6 and 6.11, 12 Table 12.2, 14 Table 14.10). -/
def bodyBytes (e : JEntry) : List U8 := match e.body with
  | .reading rs t => (rs.map recBytes).flatten ++ tailBytesOf t
  | .enrol b =>
    leBytes 8 b.orderId ++ leBytes 8 b.headend ++ beBytes 32 b.digest ++ beBytes 16 b.enrolDigest ++ leBytes 8 b.identity.toNat ++ leBytes 1 b.protocol ++
      leBytes 1 b.medium ++ leBytes 1 b.calendar ++ leBytes 1 (b.producer.toNat + 2 * b.energy.isSome.toNat) ++ leBytes 2 b.veeProfile ++ zeros 2 ++
      leBytes 4 b.balanceNode ++ zeros 4 ++ keySlotsBytes b.keys 0 6 ++ u64s (b.energy.getD []) 0 32 ++ zeros 8
  | .retire o h d i => leBytes 8 o ++ leBytes 8 h ++ beBytes 32 d ++ leBytes 8 i.toNat ++ zeros 8
  | .release i j e => leBytes 8 i.toNat ++ leBytes 8 j ++ leInt 8 e ++ zeros 40
  | .keyload o h d src sl k =>
    leBytes 8 o ++ leBytes 8 h ++ beBytes 32 d ++ leBytes 1 src ++ leBytes 1 sl ++ zeros 2 ++ leBytes 4 k.version ++ zeros 8 ++ keySlotBytes k ++ zeros 16
  | .boundary k ns =>
    let n (j : Nat) : Nat := (ns.getD j 0).toNat
    leBytes 1 k ++ leBytes 1 (n 0) ++ leBytes 1 (n 1) ++ zeros 5 ++ leBytes 8 (n 2) ++ leBytes 8 (n 3) ++ leBytes 8 (n 4) ++ leBytes 8 (n 5) ++
      leBytes 8 (n 6) ++ zeros 16
  | .calendarActivate ns =>
    let n (j : Nat) : Nat := (ns.getD j 0).toNat
    leBytes 1 (n 0) ++ zeros 1 ++ leBytes 2 (n 1) ++ zeros 4 ++ leBytes 8 (n 2) ++ leBytes 8 (n 3) ++ leBytes 8 (n 4) ++ beBytes 32 (n 5)
  | .epochSeal n root ms off => leInt 8 n ++ beBytes 32 root ++ leBytes 8 e.jsn ++ leBytes 4 ms ++ zeros 4 ++ leInt 8 off
  | .lmsReserve ns =>
    let n (j : Nat) : Nat := (ns.getD j 0).toNat
    beBytes 16 (n 0) ++ leBytes 8 (n 1) ++ leBytes 8 (n 2) ++ leBytes 1 (n 3) ++ zeros 31
  | .order k src o h d ns =>
    let b := orderBody k src e.received ns
    leBytes 2 k ++ leBytes 1 src ++ zeros 1 ++ leBytes 4 b.length ++ leBytes 8 o ++ leBytes 8 h ++ beBytes 32 d ++ zeros 8 ++ b ++
      zeros (units64 b.length - b.length)

/-- LENGTH of an entry (04 R94, R96, 03 R457, 12 Table 12.2). -/
def entryLength (e : JEntry) : Nat := match e.body with
  | .reading rs _ => 192 + 64 * rs.length
  | .enrol _ => 704
  | .retire .. => 128
  | .release .. => 128
  | .keyload .. => 192
  | .boundary .. => 128
  | .calendarActivate _ => 128
  | .epochSeal .. => 128
  | .lmsReserve _ => 128
  | .order k src _ _ _ ns => units64 (128 + (orderBody k src e.received ns).length)

/-- ENTRY_TYPE (04 Table 4.5). -/
def entryType : JBody → Nat
  | .reading .. => 0x0001
  | .enrol _ => 0x0002
  | .retire .. => 0x0003
  | .release .. => 0x0004
  | .keyload .. => 0x0005
  | .boundary .. => 0x0010
  | .calendarActivate _ => 0x0011
  | .epochSeal .. => 0x0020
  | .lmsReserve _ => 0x0021
  | .order .. => 0x0030

/-- The ordering domain of a parcel index (04 R86). -/
def domainOf (i : Nat) : Nat := ((i * 2654435761) % 4294967296) / 1048576

/-- Bytes 0 to 55 of an entry's header (04 Table 4.4). -/
def entryHead (e : JEntry) : List U8 :=
  leBytes 2 (entryType e.body) ++ leBytes 2 1 ++ leBytes 4 (entryLength e) ++ leBytes 8 e.jsn ++ leBytes 8 e.asn ++ leBytes 8 e.arrival ++
    leBytes 8 e.admitAt ++ leBytes 8 e.counter ++ leBytes 3 (e.parcel.getD 0xFFFFFF) ++
    leBytes 1 (match e.body with
      | .reading rs _ => rs.length
      | _ => 0) ++
    leBytes 2 e.generation ++ leBytes 2 ((e.parcel.map domainOf).getD 0xFFFF)

/-- The PAD entry that fills `n` bytes of a page, none where nothing is left; 04 Table 4.4 states no ADMIT_TIME of it, and it is 0 (log 129). -/
def padEntry (n : Nat) : List U8 :=
  if n = 0 then []
  else
    let b := zeros (n - 64)
    let h := leBytes 2 0xFFFF ++ leBytes 2 1 ++ leBytes 4 n ++ zeros 40 ++ leBytes 3 0xFFFFFF ++ zeros 1 ++ zeros 2 ++ leBytes 2 0xFFFF ++
      leBytes 4 (if b = [] then 0 else (crc32c b).toNat)
    h ++ leBytes 4 (crc32c h).toNat ++ b

/-- An entry as it stands in the journal, with both CRCs (04 Table 4.4, R97). -/
def entryBytes (e : JEntry) : List U8 :=
  let b := bodyBytes e
  let h := entryHead e ++ leBytes 4 (crc32c b).toNat
  h ++ leBytes 4 (crc32c h).toNat ++ b

/-- An entry as built, with JSN and CRCs 0, which ENTRY carries (15 Table 15.2). -/
def entryBuilt (e : JEntry) : List U8 :=
  let e := { e with jsn := 0 }
  entryHead e ++ zeros 8 ++ bodyBytes e

end Sys2Proof.Machine
end

