-- ==== Sys2Proof/Machine/TFlash.lean ====
section
/-! DEFINITION. State of the archive and of flash management (chapter 08). -/

namespace Sys2Proof.Machine

/-- A chunk (08 Tables 8.3, 8.4): header, body header, bitstream bytes, QMASK tuples and verbatim records. -/
structure Chunk where
  /-- 1 SERIES_EXACT, 2 SERIES_GRAIN, 3 RECORDS -/
  kind : Nat := 1
  channel : Nat := 0xFF
  length : Nat := 24
  parcel : Nat := 0
  count : Nat := 1
  generation : Nat := 0
  present : Nat := 0
  interval : Nat := 0
  base : Nat := 0
  riceK : Nat := 0
  /-- FLAGS bit 0 -/
  anchorPresent : Bool := false
  qmask : Nat := 0
  grain : Nat := 0
  first : Int := 0
  checkpoint : Int := 0
  bits : List U8 := []
  tuples : List (Nat × Nat × Nat) := []
  records : List Rec := []
deriving DecidableEq, Repr, Inhabited

/-- A page tag (08 Table 8.6); VERSION is 1. -/
structure PageTag where
  /-- AREA -/
  area : Nat := 1
  /-- TEMP, whole degrees -/
  temp : Int := 0
  /-- SEGMENT: serial of the segment or ring lap -/
  segment : Nat := 0
  /-- WRITE_TIME -/
  time : Nat := 0
  /-- SEQ -/
  seq : Nat := 0
  /-- LOGICAL -/
  logical : Nat := 0
  /-- DATA_CRC32C -/
  crc : U32 := 0
deriving DecidableEq, Repr, Inhabited

/-- A programmed page of a segment: its chunks, its tag, and whether it is valid (08 R190, Table 8.6). -/
structure SegPage where
  page : Nat := 0
  chunks : List Chunk := []
  valid : Bool := true
  tag : PageTag := {}
deriving DecidableEq, Repr, Inhabited

/-- An entry of a segment's summary (08 R190): the identity of a chunk, its page, its offset in the page, and its LENGTH. -/
structure SummaryEntry where
  parcel : Nat := 0
  generation : Nat := 0
  channel : Nat := 0
  base : Nat := 0
  present : Nat := 0
  page : Nat := 0
  offset : Nat := 0
  length : Nat := 0
deriving DecidableEq, Repr, Inhabited

/-- A segment: one erase block of the archive area, and its entry of the segment table (08 R190). -/
structure Segment where
  serial : Nat := 0
  block : Nat := 0
  pages : List SegPage := []
  /-- elapsed time at which it opened -/
  openedAt : Nat := 0
  /-- device time of its seal -/
  sealedAt : Option Nat := none
  firstBase : Nat := 0
  lastBase : Nat := 0
  /-- highest epoch of its writes -/
  epoch : Int := 0
  /-- summary written at its seal, sorted, and the tag of its first page -/
  summary : List SummaryEntry := []
  summaryTag : PageTag := {}
deriving DecidableEq, Repr, Inhabited

/-- A reclamation copy under way (08 R195, R197): victim, target block, and the pages copied and verified so far. -/
structure GcJob where
  victim : Nat := 0
  target : Nat := 0
  copied : List SegPage := []
deriving DecidableEq, Repr, Inhabited

/-- The reserve control record written last (08 Table 8.7), beside the ring geometry, the retired blocks and the LMS reservation, which State holds
as they stand: format serial, low mark, its number, the control block it went to (the two of each channel in turn) and its tag. -/
structure ControlRec where
  format : Nat := 0
  lowMark : Nat := 0
  number : Nat := 0
  block : Nat := 0
  tag : PageTag := {}
deriving DecidableEq, Repr, Inhabited

/-- Archive and flash (08). -/
structure FlashSt where
  /-- NAND population fitted, as the numbers of NAND_PROFILE | list | 08 R191 (no reset value: fitted hardware, log 11) -/
  fitted : List Int := [255, 4, 1, 3, 1152, 1872, 29128, 1200, 3000, 30000]
  /-- the areas are laid out | 1 | 08 R201 -/
  formatted : Bool := false
  /-- pages of the journal ring in the reserve | 32 | 08 R201 -/
  ringPages : Nat := 1048576
  /-- spare blocks of the ring | 32 | 08 Table 8.7 -/
  ringSpares : Nat := 0
  /-- good blocks of the archive area | 32 | 08 R195 -/
  archGood : Nat := 0
  /-- free archive blocks, as ranges | list | 08 R195 -/
  free : List (Nat × Nat) := []
  /-- spare pool, as ranges | list | 08 R198 -/
  spare : List (Nat × Nat) := []
  /-- archive blocks being erased | list | 08 R195 -/
  erasing : List Nat := []
  /-- retired blocks of every area | list | 08 R198 -/
  retired : List Nat := []
  /-- P/E counts by block | table | 08 R190 -/
  pe : Tab Nat := []
  /-- segment table: segments in serial order | list | 08 R190 -/
  segments : List Segment := []
  /-- serial of the next segment | 32 | 08 Table 8.6 -/
  nextSerial : Nat := 0
  /-- chunks closed and not yet programmed, oldest first | list | 08 R183, R190 -/
  waiting : List Chunk := []
  /-- reclamation copy under way | record | 08 R195 -/
  job : Option GcJob := none
  /-- segments queued for relocation | list | 08 R194 -/
  relocate : List Nat := []
  /-- SQUEEZE | 1 | 08 Table 8.9 -/
  squeeze : Bool := false
  /-- FG_GC | 1 | 08 Table 8.9 -/
  fg : Bool := false
  /-- BG_GC | 1 | 08 Table 8.9 -/
  bg : Bool := false
  /-- SCORED | 1 | 08 Table 8.9 -/
  scored : Bool := false
  /-- program slots given to reclamation per channel since ARCHIVE_WRITE's last one | 4 | 08 R195 -/
  gcSlots : Nat := 0
  /-- CHANNELS_UP | 8 | 08 Table 8.9 -/
  chUp : U8 := 0
  /-- failed C3 resets of channels in the running epoch: epoch and count | table | 08 R198 -/
  resets : Tab (Int × Nat) := []
  /-- outcome of the last archive write: OC_OK or OC_ARCH_FULL | 16 | 08 R199 -/
  writeCode : U16 := 0
  /-- the load test of the last boundary passed | 1 | 08 R195 -/
  calm : Bool := false
  /-- no HEALTHY since step 12 of the start | 1 | 08 R196 -/
  untilHealthy : Bool := false
  /-- SEQ of the next page of each area | table | 08 Table 8.6 -/
  seqs : Tab Nat := []
  /-- LUN and tag of the first NAND page of each journal page in the reserve ring, oldest first | list | 08 R201, Table 8.6 -/
  ringTags : List (Nat × PageTag) := []
  /-- tag of the page that holds a parcel's image record | table | 08 R202, Table 8.6 -/
  imageTags : Tab PageTag := []
  /-- laps of the ring since the format | 32 | 08 Table 8.6 -/
  laps : Nat := 0
  /-- reserve control record | record | 08 Table 8.7 -/
  control : ControlRec := {}
  /-- next parcel index of the image writer | 24 | 08 R202 -/
  imageNext : Nat := 0
  /-- elapsed time at which the image pass began | 64 | 08 R202 -/
  imageSince : Nat := 0
  /-- cell key section: KEY_VERSION, key (none: erased) and JSN of the entry, by cell | table | 08 R202, 14 R329 -/
  imagePsk : Tab (Nat × Option Nat × Nat) := []
  /-- balance-node section of the image area | table | 08 R202 -/
  imageSteel : SteelSt := {}
  /-- engine watermarks section of the image area | 4 x 64 | 08 R202 -/
  imageMarks : Tab Nat := []
  /-- IMAGE_PASS_S | 32 | 08 Table 8.8 -/
  imagePassS : U32 := 0
  /-- pages of the reserve ring written in its lap | 32 | 08 R201 -/
  ringPos : Nat := 0
  /-- CHUNKS_WRITTEN | 32 | 08 Table 8.8 -/
  chunksWritten : U32 := 0
  /-- GC_PAGES_COPIED | 32 | 08 Table 8.8 -/
  gcCopied : U32 := 0
  /-- READ_RETRIES | 32 | 08 Table 8.8 -/
  readRetries : U32 := 0
  /-- READ_UNCORRECTABLE | 32 | 08 Table 8.8 -/
  uncorrectable : U32 := 0
  /-- PROGRAM_FAILS | 32 | 08 Table 8.8 -/
  programFails : U32 := 0
  /-- ERASE_FAILS | 32 | 08 Table 8.8 -/
  eraseFails : U32 := 0
  /-- COPY_TARGET_FAILS | 32 | 08 Table 8.8 -/
  targetFails : U32 := 0
  /-- NOT_ARCHIVED | 32 | 08 Table 8.8 -/
  notArchived : U32 := 0
  /-- SEGMENTS_RELEASED | 32 | 08 Table 8.8 -/
  released : U32 := 0
  /-- RESERVE_PASSES | 32 | 08 Table 8.8 -/
  reservePasses : U32 := 0
deriving DecidableEq, Repr, Inhabited

end Sys2Proof.Machine
end

