-- ==== Sys2Proof/Machine/FlashLayout.lean ====
section
/-! DEFINITION. The byte layouts of the flash: chunks, archive pages, summaries and page tags (08 R188, R190, Tables 8.3, 8.4, 8.6). -/

namespace Sys2Proof.Machine

/-- The chunk header (08 Table 8.3). -/
def chunkHead (c : Chunk) : List U8 :=
  leBytes 1 c.kind ++ leBytes 1 c.channel ++ leBytes 2 c.length ++ leBytes 3 c.parcel ++ leBytes 1 c.count ++ leBytes 2 c.generation ++
    leBytes 2 c.present ++ leBytes 4 c.interval ++ leBytes 8 c.base

/-- The body of a series chunk (08 Table 8.4, R188). -/
def seriesBody (c : Chunk) : List U8 :=
  leBytes 1 c.riceK ++ leBytes 1 c.anchorPresent.toNat ++ leBytes 2 c.qmask ++ leBytes 4 c.grain ++ leInt 8 c.first ++ leInt 8 c.checkpoint ++
    c.bits ++ c.tuples.flatMap (fun t => leBytes 2 t.1 ++ leBytes 1 t.2.1 ++ leBytes 1 t.2.2)

/-- The bytes of a chunk (08 R188). -/
def chunkBytes (c : Chunk) : List U8 := chunkHead c ++ (if c.kind = 3 then c.records.flatMap recBytes else seriesBody c)

/-- Bytes filled with zeros to those of a NAND page. -/
def pageFilled (l : List U8) : List U8 := l ++ zeros (16384 - l.length)

/-- The data bytes of an archive page: its chunks, and zeros after the last (08 R188). -/
def archivePage (cs : List Chunk) : List U8 := pageFilled (cs.flatMap chunkBytes)

/-- The entry of a chunk at an offset of a page (08 R190). -/
def summaryOf (page offset : Nat) (c : Chunk) : SummaryEntry :=
  { parcel := c.parcel, generation := c.generation, channel := c.channel, base := c.base, present := if c.kind = 3 then c.present else 0,
    page := page, offset := offset, length := c.length }

/-- The entries of a page's chunks, one after the other. -/
def pageSummary (page : Nat) : Nat → List Chunk → List SummaryEntry
  | _, [] => []
  | o, c :: cs => summaryOf page o c :: pageSummary page (o + c.length) cs

/-- Does an entry sort before another: by PARCEL_INDEX, then CHANNEL, then SPAN_BASE (08 R190)? -/
def summaryBefore (a b : SummaryEntry) : Bool :=
  decide (a.parcel < b.parcel ∨ (a.parcel = b.parcel ∧ (a.channel < b.channel ∨ (a.channel = b.channel ∧ a.base < b.base))))

/-- Put an entry in its place of a sorted summary, after its equals. -/
def summaryInsert (x : SummaryEntry) : List SummaryEntry → List SummaryEntry
  | [] => [x]
  | y :: l => if summaryBefore x y then x :: y :: l else y :: summaryInsert x l

/-- The sorted summary of a segment's pages (08 R190). -/
def segSummary (ps : List SegPage) : List SummaryEntry :=
  (ps.flatMap (fun p => pageSummary p.page 0 p.chunks)).foldl (fun l x => summaryInsert x l) []

/-- A summary entry in 24 bytes, in the order in which 08 R190 names its fields, with 2 reserved bytes (log 125). -/
def summaryBytes (x : SummaryEntry) : List U8 :=
  leBytes 3 x.parcel ++ leBytes 1 x.channel ++ leBytes 2 x.generation ++ leBytes 2 x.present ++ leBytes 8 x.base ++ leBytes 2 x.page ++
    leBytes 2 x.offset ++ leBytes 2 x.length ++ zeros 2

/-- A page tag in 32 bytes (08 Table 8.6). -/
def tagBytes (t : PageTag) : List U8 :=
  leBytes 1 t.area ++ [1] ++ leInt 1 t.temp ++ [0] ++ leBytes 4 t.segment ++ leBytes 8 t.time ++ leBytes 8 t.seq ++ leBytes 4 t.logical ++
    leBytes 4 t.crc.toNat

end Sys2Proof.Machine
end

