-- ==== Sys2Proof/Machine/Codes.lean ====
section
/-! DEFINITION. The outcome codes of Table 0.8 and of every chapter's outcome-code table (00 R11, R13). -/

namespace Sys2Proof.Machine

/-- performed (00_scope.md). -/
def OC_OK : U16 := 0x0000
/-- frame already accepted; prior confirmation re-sent, no register changed (00_scope.md). -/
def OC_DUPLICATE : U16 := 0x1101
/-- a value outside its permitted range (00_scope.md). -/
def OC_RANGE : U16 := 0x2001
/-- a reserved bit or field set (00_scope.md). -/
def OC_RESERVED_SET : U16 := 0x2002
/-- a TLV or CBOR key not defined for this schema or version (00_scope.md). -/
def OC_UNKNOWN_TAG : U16 := 0x2003
/-- an unsupported format or protocol version (00_scope.md). -/
def OC_VERSION : U16 := 0x2010
/-- target engaged in work that this request would disturb (00_scope.md). -/
def OC_BUSY : U16 := 0x3001
/-- restart-class change attempted outside MAINTENANCE (00_scope.md). -/
def OC_NOT_IN_MAINT : U16 := 0x3002
/-- a region or endpoint already in a running campaign (00_scope.md). -/
def OC_CAMPAIGN_ACTIVE : U16 := 0x3701
/-- archive full with all spares worn (00_scope.md). -/
def OC_ARCH_FULL : U16 := 0x4401
/-- duty-cycle budget exhausted for the sub-band (00_scope.md). -/
def OC_BUDGET : U16 := 0x4501
/-- authentication failed (00_scope.md). -/
def OC_AUTH : U16 := 0x5001
/-- signature invalid or signer not authorised (00_scope.md). -/
def OC_SIG : U16 := 0x5002
/-- not permitted in the current lifecycle state (00_scope.md). -/
def OC_LIFECYCLE : U16 := 0x5003
/-- receiver reset with the message unread; message discarded (00_scope.md). -/
def OC_RECEIVER_RESET : U16 := 0x6901
/-- sender reset after posting; message still deliverable (00_scope.md). -/
def OC_SENDER_RESET : U16 := 0x6902
/-- device fault; see the device field book (00_scope.md). -/
def OC_FAULT : U16 := 0x8001
/-- amendment identical to the last applied one; nothing changed (02_cadastre_and_startup.md). -/
def OC_ALREADY_APPLIED : U16 := 0x1001
/-- boundary work of an epoch still incomplete at the next boundary (R25) (02_cadastre_and_startup.md). -/
def OC_EPOCH_OVERRUN : U16 := 0x1002
/-- optional tag unknown to this release skipped (R43) (02_cadastre_and_startup.md). -/
def OC_CDST_TAG_SKIPPED : U16 := 0x1003
/-- logged amendments after a gap in SEQUENCE ignored at start (R53) (02_cadastre_and_startup.md). -/
def OC_AMEND_GAP : U16 := 0x1004
/-- malformed header, length or TLV structure (02_cadastre_and_startup.md). -/
def OC_CDST_FORMAT : U16 := 0x2020
/-- CRC-32C mismatch (02_cadastre_and_startup.md). -/
def OC_CDST_CRC : U16 := 0x2021
/-- image built for another device class (02_cadastre_and_startup.md). -/
def OC_CDST_CLASS : U16 := 0x2022
/-- fields valid alone but in conflict together (02_cadastre_and_startup.md). -/
def OC_CDST_CONFLICT : U16 := 0x2023
/-- amendment BASE_SERIAL or SEQUENCE does not follow the running state (02_cadastre_and_startup.md). -/
def OC_AMEND_BASE : U16 := 0x3020
/-- no room in the amendment log (02_cadastre_and_startup.md). -/
def OC_AMEND_LOG_FULL : U16 := 0x4001
/-- SERIAL lower than the highest accepted (02_cadastre_and_startup.md). -/
def OC_CDST_ROLLBACK : U16 := 0x5020
/-- no acceptable cadastre in any source; device HALTED (02_cadastre_and_startup.md). -/
def OC_NO_CADASTRE : U16 := 0x8020
/-- DRAM population breaks R18; device HALTED (02_cadastre_and_startup.md). -/
def OC_MEM_CONFIG : U16 := 0x8021
/-- ENROL identical to the one that created the parcel; nothing changed (03_parcels.md). -/
def OC_ALREADY_ENROLLED : U16 := 0x1110
/-- identity not enrolled (03_parcels.md). -/
def OC_PARCEL_UNKNOWN : U16 := 0x2110
/-- parcel retiring; frame refused, or order has no effect (03_parcels.md). -/
def OC_PARCEL_RETIRING : U16 := 0x3110
/-- identity already enrolled with a different ENROL body (03_parcels.md). -/
def OC_PARCEL_ENROLLED : U16 := 0x3111
/-- enrolled parcels at the capacity of Table 1.5 (03_parcels.md). -/
def OC_PARCEL_CAPACITY : U16 := 0x4110
/-- directory at its 85 % load limit (03_parcels.md). -/
def OC_DIR_LOAD : U16 := 0x4111
/-- both candidate buckets and the stash full (03_parcels.md). -/
def OC_DIR_STASH : U16 := 0x4112
/-- wrapped endpoint key failed its integrity check or names no held PKEK (03_parcels.md). -/
def OC_PARCEL_KEY : U16 := 0x5110
/-- head read from DRAM disagrees with its directory entry (03_parcels.md). -/
def OC_HEAD_MISMATCH : U16 := 0x8110
/-- an enrolled parcel index lies beyond the capacity of the installed DRAM; start-up halted (R74) (03_parcels.md). -/
def OC_PARCEL_DRAM_SHRUNK : U16 := 0x8115
/-- work item promoted under R108 (04_traverse.md). -/
def OC_PROMOTED : U16 := 0x1111
/-- journal entry skipped on generation mismatch (04_traverse.md). -/
def OC_GEN_SKIPPED : U16 := 0x1112
/-- frame over 2,048 bytes, or identity not extractable (04_traverse.md). -/
def OC_FRAME_FORMAT : U16 := 0x2111
/-- frame from a cell node beyond its granted credit discarded (04_traverse.md). -/
def OC_STAGING_FULL : U16 := 0x4113
/-- frame counter below the acceptance window (04_traverse.md). -/
def OC_REPLAY_STALE : U16 := 0x5111
/-- journal entry or page unreadable during replay (04_traverse.md). -/
def OC_JOURNAL_CORRUPT : U16 := 0x8111
/-- reserved entry type met during replay; device HALTED (04_traverse.md). -/
def OC_JOURNAL_TYPE : U16 := 0x8112
/-- committed entries not flushed before a C4 restart (04_traverse.md). -/
def OC_JOURNAL_LOST : U16 := 0x8113
/-- error escalated to C4 under R111 (04_traverse.md). -/
def OC_CONTAIN_ESCALATED : U16 := 0x8114
/-- payload structure malformed or not as the profile declares (05_readings_and_validation.md). -/
def OC_APDU_FORMAT : U16 := 0x2201
/-- APDU, ciphering option or service outside R117 or R118 (05_readings_and_validation.md). -/
def OC_APDU_UNSUPPORTED : U16 := 0x2202
/-- more than 16 mapped items in one frame (05_readings_and_validation.md). -/
def OC_ITEM_LIMIT : U16 := 0x2203
/-- amendment removes a profile named by a parcel (05_readings_and_validation.md). -/
def OC_PROFILE_IN_USE : U16 := 0x3201
/-- cancellation found no pending passive version; nothing changed (06_billing_registers.md). -/
def OC_CAL_NO_PASSIVE : U16 := 0x1210
/-- calendar image breaks R138 or R139, or names another calendar (06_billing_registers.md). -/
def OC_CAL_FORMAT : U16 := 0x2210
/-- activation instant not a demand boundary of both versions (06_billing_registers.md). -/
def OC_CAL_ALIGN : U16 := 0x2211
/-- activation, or the pending one, less than two epochs ahead of billing time (06_billing_registers.md). -/
def OC_CAL_TOO_LATE : U16 := 0x3210
/-- 32 calendars already defined (06_billing_registers.md). -/
def OC_CAL_COUNT : U16 := 0x4210
/-- proposal already applied; nothing changed (07_steelyard_and_theodolite.md). -/
def OC_TOPO_ALREADY : U16 := 0x1301
/-- a node's check meter names a BALANCE_NODE other than the node's parent (R162) (07_steelyard_and_theodolite.md). -/
def OC_CHECK_PARENT_MISMATCH : U16 := 0x1302
/-- proposal withdrawn, superseded or no longer matching the parcel or node (07_steelyard_and_theodolite.md). -/
def OC_TOPO_STALE : U16 := 0x3301
/-- node deletion refused: node is a parent or is named by a parcel (07_steelyard_and_theodolite.md). -/
def OC_NODE_IN_USE : U16 := 0x3302
/-- archive segment released for the reserve or image area under R200 (08_archive.md). -/
def OC_ARCH_FORCED : U16 := 0x1401
/-- codeword lost after all retries (08_archive.md). -/
def OC_NAND_UNCORRECTABLE : U16 := 0x8401
/-- program failed; page rewritten, block retired (08_archive.md). -/
def OC_NAND_PROGRAM_FAIL : U16 := 0x8402
/-- erase failed; block retired (08_archive.md). -/
def OC_NAND_ERASE_FAIL : U16 := 0x8403
/-- journal reserve below 1 GiB; C4 (08_archive.md). -/
def OC_RESERVE_SHORT : U16 := 0x8404
/-- NAND population does not match NAND_PROFILE; start-up halted (08_archive.md). -/
def OC_NAND_CONFIG : U16 := 0x8405
/-- join declined: 2,000 endpoints on the port (09_plc_ports.md). -/
def OC_PLC_ASSOC_FULL : U16 := 0x4510
/-- first fragment refused: all reassembly buffers in use (09_plc_ports.md). -/
def OC_PLC_REASM_FULL : U16 := 0x4511
/-- EAP-PSK failed, or no PLC access master key loaded (09_plc_ports.md). -/
def OC_PLC_JOIN_AUTH : U16 := 0x5510
/-- route discovery failed; the downlink may be repeated (09_plc_ports.md). -/
def OC_PLC_NO_ROUTE : U16 := 0x6510
/-- repeated driver faults; port retired (09_plc_ports.md). -/
def OC_PLC_DRIVER_FAULT : U16 := 0x8510
/-- downlink to an endpoint heard only in S1, T1 or C1 (10_radio_ports.md). -/
def OC_RADIO_ONEWAY : U16 := 0x3520
/-- endpoint not in the port's table (10_radio_ports.md). -/
def OC_RADIO_UNKNOWN_EP : U16 := 0x3521
/-- 10,000 endpoints on the port (10_radio_ports.md). -/
def OC_RADIO_ASSOC_FULL : U16 := 0x4520
/-- four frames already pending for the endpoint (10_radio_ports.md). -/
def OC_RADIO_PENDING_FULL : U16 := 0x4521
/-- transmit queue full (10_radio_ports.md). -/
def OC_RADIO_TXQ_FULL : U16 := 0x4522
/-- pending frame not collected; may be repeated (10_radio_ports.md). -/
def OC_RADIO_PENDING_EXPIRED : U16 := 0x6520
/-- retries exhausted; may be repeated (10_radio_ports.md). -/
def OC_RADIO_NO_ACK : U16 := 0x6521
/-- repeated script failures; port retired (10_radio_ports.md). -/
def OC_RADIO_SCRIPT : U16 := 0x8520
/-- a new session of the cell replaced the current one (11_cell_transport.md). -/
def OC_ACT_SESSION_REPLACED : U16 := 0x1601
/-- capsule or item malformed (11_cell_transport.md). -/
def OC_ACT_FORMAT : U16 := 0x2601
/-- cell disabled or never connected (11_cell_transport.md). -/
def OC_ACT_CELL_UNKNOWN : U16 := 0x3601
/-- 8,192 endpoints already on the cell (11_cell_transport.md). -/
def OC_ACT_CELL_FULL : U16 := 0x4601
/-- downlink queue of the cell full (11_cell_transport.md). -/
def OC_ACT_DL_QUEUE_FULL : U16 := 0x4602
/-- capsule sequence number repeated or below the window (11_cell_transport.md). -/
def OC_ACT_REPLAY : U16 := 0x5601
/-- cell node could not deliver; may be repeated (11_cell_transport.md). -/
def OC_ACT_DL_FAILED : U16 := 0x6601
/-- no report in time, or expired at the cell node; may be repeated (11_cell_transport.md). -/
def OC_ACT_DL_TIMEOUT : U16 := 0x6602
/-- identical snapshot mark already pending; nothing changed (12_head_end_exchange.md). -/
def OC_HX_SNAPSHOT_SET : U16 := 0x1701
/-- message or envelope malformed (12_head_end_exchange.md). -/
def OC_HX_FORMAT : U16 := 0x2701
/-- order addressed to another unit or group (12_head_end_exchange.md). -/
def OC_HX_TARGET : U16 := 0x2702
/-- ORDER_ID below the repeat table, or GENERATION superseded (12_head_end_exchange.md). -/
def OC_HX_ORDER_STALE : U16 := 0x3702
/-- ISSUED before this run, NOT_AFTER passed, or lifetime too long (12_head_end_exchange.md). -/
def OC_HX_ORDER_EXPIRED : U16 := 0x3703
/-- unit is a twin standby (12_head_end_exchange.md). -/
def OC_HX_NOT_ACTIVE : U16 := 0x3704
/-- cancel of a campaign not running (12_head_end_exchange.md). -/
def OC_HX_CAMPAIGN_UNKNOWN : U16 := 0x3705
/-- ORDER_ID held with a different digest (12_head_end_exchange.md). -/
def OC_HX_ID_REUSED : U16 := 0x3706
/-- 8 sessions already open (12_head_end_exchange.md). -/
def OC_HX_SESSIONS : U16 := 0x4701
/-- 64 campaigns running (12_head_end_exchange.md). -/
def OC_HX_CAMPAIGN_COUNT : U16 := 0x4702
/-- epoch's journal pages overwritten; sheet cannot be sent (12_head_end_exchange.md). -/
def OC_HX_SHEET_GONE : U16 := 0x4703
/-- epoch's leaves no longer available (12_head_end_exchange.md). -/
def OC_HX_EXTRACT_GONE : U16 := 0x4704
/-- 8 snapshot marks already pending (12_head_end_exchange.md). -/
def OC_HX_SNAPSHOT_COUNT : U16 := 0x4705
/-- BEGIN, DATA or SCHEDULE identical to what stands; nothing changed (13_device_update.md). -/
def OC_UPD_ALREADY : U16 := 0x1710
/-- activation deferred for state or time quality (13_device_update.md). -/
def OC_UPD_DEFERRED : U16 := 0x1711
/-- activation under way; warm reset follows (13_device_update.md). -/
def OC_UPD_ACTIVATING : U16 := 0x1712
/-- manifest header malformed (13_device_update.md). -/
def OC_UPD_HEADER : U16 := 0x2710
/-- device class or stepping not served (13_device_update.md). -/
def OC_UPD_CLASS : U16 := 0x2711
/-- part table hash, count, type or placement wrong (13_device_update.md). -/
def OC_UPD_PART_TABLE : U16 := 0x2712
/-- DATA offset or UPDATE_ID does not follow the staging (13_device_update.md). -/
def OC_UPD_SEQUENCE : U16 := 0x2713
/-- SCHEDULE for a slot not STAGED in every unit (13_device_update.md). -/
def OC_UPD_NOT_STAGED : U16 := 0x3710
/-- BEGIN while a schedule is pending (13_device_update.md). -/
def OC_UPD_SCHEDULED : U16 := 0x3711
/-- ACTIVATE_AT less than 60 s ahead of billing time (13_device_update.md). -/
def OC_UPD_TOO_LATE : U16 := 0x3712
/-- twin partner absent, not resynchronised or fallen back (13_device_update.md). -/
def OC_UPD_PARTNER : U16 := 0x3713
/-- schedule abandoned; slot stays STAGED (13_device_update.md). -/
def OC_UPD_ABANDONED : U16 := 0x3714
/-- TOTAL_LENGTH exceeds the slot (13_device_update.md). -/
def OC_UPD_TOO_BIG : U16 := 0x4710
/-- SECURITY_VERSION below the floor (13_device_update.md). -/
def OC_UPD_ROLLBACK : U16 := 0x5710
/-- JOURNAL_LEVEL below JOURNAL_FLOOR (13_device_update.md). -/
def OC_UPD_JOURNAL_LEVEL : U16 := 0x5711
/-- trial slot failed; the device runs the old slot (13_device_update.md). -/
def OC_UPD_FALLBACK : U16 := 0x8710
/-- a part does not match its HASH; slot FAILED (13_device_update.md). -/
def OC_UPD_PART_HASH : U16 := 0x8711
/-- a cadastre part failed its checks (R298); slot FAILED; DETAIL carries the check's code (13_device_update.md). -/
def OC_UPD_PART_REFUSED : U16 := 0x8712
/-- REPORT note carrying a quote (14_security_and_lifecycle.md). -/
def OC_ATTEST_QUOTE : U16 := 0x1801
/-- same key and version already installed, or an ERASE found no key; nothing changed (14_security_and_lifecycle.md). -/
def OC_KEY_ALREADY : U16 := 0x1802
/-- one QSPI warden record write failed; reservation stands (14_security_and_lifecycle.md). -/
def OC_LMS_COPY : U16 := 0x1803
/-- more than 12 PUF errors corrected in a codeword (14_security_and_lifecycle.md). -/
def OC_PUF_MARGIN : U16 := 0x1804
/-- role, scope or index not permitted, or not valid for the protocol (14_security_and_lifecycle.md). -/
def OC_KEY_ROLE : U16 := 0x2801
/-- transition precondition of Table 14.3 not met (14_security_and_lifecycle.md). -/
def OC_LC_PRECONDITION : U16 := 0x3801
/-- the wrapping key is not loaded (14_security_and_lifecycle.md). -/
def OC_KEY_ABSENT : U16 := 0x3802
/-- KEY_VERSION not above the installed version (14_security_and_lifecycle.md). -/
def OC_KEY_VERSION : U16 := 0x3803
/-- RFC 3394 integrity check of a transported key failed (14_security_and_lifecycle.md). -/
def OC_KEY_UNWRAP : U16 := 0x5801
/-- PUF regeneration or fuse read failed; HALTED (14_security_and_lifecycle.md). -/
def OC_ROOT_FAIL : U16 := 0x8801
/-- leaf reservation could not be made durable (14_security_and_lifecycle.md). -/
def OC_LMS_RESERVE : U16 := 0x8802
/-- fewer than 4,096 identity leaves remain (14_security_and_lifecycle.md). -/
def OC_LMS_EXHAUSTED : U16 := 0x8803
/-- divergence without a single faulty unit; the active stays (15_twin_operation.md). -/
def OC_TWIN_UNRESOLVED : U16 := 0x1810
/-- the standby took over (15_twin_operation.md). -/
def OC_TWIN_TAKEOVER : U16 := 0x1811
/-- both units strapped with the same SP[2] (15_twin_operation.md). -/
def OC_TWIN_STRAP : U16 := 0x1812
/-- mirroring stopped; the active serves alone (15_twin_operation.md). -/
def OC_TWIN_DETACHED : U16 := 0x1813
/-- uid not in TWIN_PARAMS; unit runs single (15_twin_operation.md). -/
def OC_TWIN_NOT_LISTED : U16 := 0x1814
/-- reserved frame type or malformed body (15_twin_operation.md). -/
def OC_TWIN_LINK_FORMAT : U16 := 0x2810
/-- no partner paired (15_twin_operation.md). -/
def OC_TWIN_NO_PARTNER : U16 := 0x3810
/-- standby not resynchronised (15_twin_operation.md). -/
def OC_TWIN_NOT_READY : U16 := 0x3811
/-- Baseline HELLO failed authentication (15_twin_operation.md). -/
def OC_TWIN_LINK_AUTH : U16 := 0x5810
/-- link lost, peer still alive (15_twin_operation.md). -/
def OC_TWIN_LINK_DOWN : U16 := 0x6810
/-- side-band lost, link still up (15_twin_operation.md). -/
def OC_TWIN_SIDEBAND : U16 := 0x6811
/-- output digests differ for an epoch (15_twin_operation.md). -/
def OC_TWIN_DIVERGED : U16 := 0x8810
/-- fast domains running from FIO after an XA trip (16_time_and_clocks.md). -/
def OC_CLK_FALLBACK : U16 := 0x1910
/-- UTC offset table full; oldest entry dropped (16_time_and_clocks.md). -/
def OC_TIME_OFFSET_FULL : U16 := 0x1911
/-- access to a block whose clock is gated (16_time_and_clocks.md). -/
def OC_CLK_GATED : U16 := 0x3910
/-- XA monitor tripped (16_time_and_clocks.md). -/
def OC_CLK_XA_TRIP : U16 := 0x8910
/-- FIO failed its judgement or tripped (16_time_and_clocks.md). -/
def OC_CLK_FIO_FAIL : U16 := 0x8911
/-- XB failed; always-on time counter on SIO (16_time_and_clocks.md). -/
def OC_CLK_XB_FAIL : U16 := 0x8912
/-- REFCLK failed; SerDes ports down (16_time_and_clocks.md). -/
def OC_CLK_REFCLK : U16 := 0x8913
/-- PLL lost lock with a good reference; C4 (16_time_and_clocks.md). -/
def OC_PLL_UNLOCK : U16 := 0x8914
/-- DMA stored one or more poisoned queue words in the companion area (17_companion_port.md). -/
def OC_CMP_POISON : U16 := 0x1920
/-- mailbox write by a requester that does not own the channel or is not its receiver (17_companion_port.md). -/
def OC_CMP_NOT_OWNER : U16 := 0x2920
/-- channel or queue used against its direction (17_companion_port.md). -/
def OC_CMP_DIRECTION : U16 := 0x2921
/-- mailbox SERVICE not defined (17_companion_port.md). -/
def OC_CMP_SERVICE : U16 := 0x2922
/-- DMA descriptor malformed (17_companion_port.md). -/
def OC_CMP_DMA_DESC : U16 := 0x2923
/-- mailbox action not permitted in the channel's state (17_companion_port.md). -/
def OC_CMP_STATE : U16 := 0x3920
/-- push to a full control queue (17_companion_port.md). -/
def OC_CMP_QUEUE_FULL : U16 := 0x4920
/-- host completion error or poisoned completion during DMA (17_companion_port.md). -/
def OC_CMP_DMA_PCIE : U16 := 0x8920
/-- records dropped while the book was frozen or the start-up buffer was full (18_memory_and_field_books.md). -/
def OC_FB_OVERRUN : U16 := 0x1930
/-- SRAM word corrected repeatedly at one address (18_memory_and_field_books.md). -/
def OC_SRAM_HARD_CE : U16 := 0x1931
/-- patrol pass exceeded twice SCRUB_HOURS (18_memory_and_field_books.md). -/
def OC_SCRUB_LATE : U16 := 0x1932
/-- saved operating hours and power-cycle count unreadable (18_memory_and_field_books.md). -/
def OC_FB_TIME_RESET : U16 := 0x1933
/-- freeze owned by another requester (18_memory_and_field_books.md). -/
def OC_FB_FROZEN : U16 := 0x3930
/-- DRAM line beyond correction; line poisoned (18_memory_and_field_books.md). -/
def OC_DRAM_UNCORRECTABLE : U16 := 0x8930
/-- SRAM word beyond correction (18_memory_and_field_books.md). -/
def OC_SRAM_UNCORRECTABLE : U16 := 0x8931
/-- x4 device marked; its symbols decoded as erasures (18_memory_and_field_books.md). -/
def OC_DRAM_DEVICE_MARKED : U16 := 0x8932
/-- second device of a marked rank at the threshold (18_memory_and_field_books.md). -/
def OC_DRAM_SECOND_DEVICE : U16 := 0x8933
/-- panel updates deferred below −15 °C (19_panel_and_holdup.md). -/
def OC_PANEL_COLD : U16 := 0x1940
/-- the last gasp before this start wrote its marker (19_panel_and_holdup.md). -/
def OC_LG_COMPLETE : U16 := 0x1941
/-- a panel rail did not come up (19_panel_and_holdup.md). -/
def OC_PANEL_RAIL : U16 := 0x8940
/-- power-fail trip; last gasp started (19_panel_and_holdup.md). -/
def OC_POWER_FAIL : U16 := 0x8941
/-- no last-gasp marker found after a trip (19_panel_and_holdup.md). -/
def OC_LG_NO_MARKER : U16 := 0x8942
/-- main-die temperature at or above 110 °C for 1 s (20_pins_and_electrical.md). -/
def OC_TEMP_HIGH : U16 := 0x1950
/-- main-die temperature at or above 120 °C; C4 (20_pins_and_electrical.md). -/
def OC_TEMP_TRIP : U16 := 0x8950
/-- a main-die rail below its minimum outside LAST_GASP; C4 (20_pins_and_electrical.md). -/
def OC_RAIL_LOW : U16 := 0x8951

/-- The class nibble of an outcome code (00 R11). -/
def ocClass (c : U16) : Nat := c.toNat / 4096

/-- Is the code of class 0x5, security (00 Table 0.6)? -/
def ocIsSecurity (c : U16) : Bool := ocClass c == 5

/-- Is the code of class 0x8, fault (00 Table 0.6)? -/
def ocIsFault (c : U16) : Bool := ocClass c == 8 || ocClass c == 7 || decide (9 ≤ ocClass c)

end Sys2Proof.Machine
end

