-- ==== Sys2Proof/Machine/Output.lean ====
section
/-! DEFINITION. What a command makes the device send or answer: read data, bus errors, interrupts, posted memory writes and
messages. State holds the outputs of the last command. -/

namespace Sys2Proof.Machine

/-- Where a message goes. -/
inductive Dest
  | hx (sid : Nat) | act (cell : Nat) | plc (port : Nat) | radio (port : Nat)
  | eth (port : Nat) | recovery | jtag
deriving DecidableEq, Repr, Inhabited

/-- Something the device sends or answers. -/
inductive Output
  /-- read data of a register access -/
  | rdata (v : U32)
  /-- outcome code that a read is answered with, beside its data: no read sets LAST_OUTCOME (00 R10, 17 R383) -/
  | outcome (code : U16)
  /-- bus error: the companion receives a completer abort, an internal requester the code (01 R29, R30, 16 R375) -/
  | busError (code : U16)
  /-- MSI-X vector of a companion function (17 Table 17.2) -/
  | msix (fn vector : Nat)
  /-- a posted write of bytes to the companion area (17 R378) -/
  | cmpWrite (addr : Nat) (bytes : List U8)
  /-- a posted write of bytes to the secure staging buffer (17 R378) -/
  | stageWrite (addr : Nat) (bytes : List U8)
  /-- the companion area and the staging buffer are cleared (17 R379) -/
  | memClear
  /-- a DMA write to companion host memory, in a poisoned TLP or not (17 R396) -/
  | hostWrite (addr : Nat) (bytes : List U8) (poisoned : Bool)
  /-- an SPI transaction of radio port `port`, framed by its CS_N: mode, clock in kHz, the bits of the bytes sent in the order on the wire, the
  bytes of the frame sent after them, and those read after them (10 R228) -/
  | spi (port mode khz : Nat) (bits : List Bool) (frame read : Nat)
  /-- the read-level offsets that the FTL gives the NAND before it reads a page of a block (08 R193) -/
  | nandOffsets (block page : Nat) (levels : List Int)
  /-- a frame of the Baseline link on a lane, before it is sealed: header and body (15 R343), and the state that a STATE_COPY carries after its
  first bytes -/
  | baseline (lane : Nat) (frame : List U8) (copy : Option StateCopy)
  /-- a protocol message: its name and its fields -/
  | send (dest : Dest) (name : String) (fields : List Int)
  /-- an application confirmation on a frame's path (04 R98): path kind, port, cell, short address, length, counter, resend -/
  | confirm (path port cell shortAddr length counter : Nat) (resend : Bool)
deriving DecidableEq, Repr, Inhabited

end Sys2Proof.Machine
end

