-- ==== Sys2Proof/Machine/TAct.lean ====
section
/-! DEFINITION. State of Askong Cell Transport (chapter 11). -/

namespace Sys2Proof.Machine

/-- A downlink item of a cell (11 R260, R261). -/
structure ActDl where
  down : Down := {}
  /-- SESSION it went in, and its DL_ID there, once sent -/
  session : Nat := 0
  id : Nat := 0
  /-- elapsed time of its sending -/
  sentAt : Nat := 0
deriving DecidableEq, Repr, Inhabited

/-- A session of a cell (11 R251 to R257). -/
structure ActSession where
  /-- SESSION | 32 | 11 Table 11.4 -/
  number : Nat := 0
  /-- negotiated version | 8 | 11 R255 -/
  version : Nat := 0x12
  /-- k_up and k_down | 256 each | 11 R251 -/
  up : Nat := 0
  down : Nat := 0
  /-- RX_MAX and DL_SLOTS of the HELLO | 16 each | 11 Table 11.3 -/
  rxMax : Nat := 9000
  dlSlots : Nat := 1
  /-- source address and port of the last capsule that passed authentication | number | 11 R248 -/
  peer : Nat := 0
  /-- highest SEQ accepted, 0 none, and the window below it | 64, 64 | 11 R252 -/
  high : Nat := 0
  window : U64 := 0
  /-- last SEQ sent | 64 | 11 R251 -/
  txSeq : Nat := 0
  /-- CREDIT_LIMIT and h | 64, 64 | 11 R257 -/
  limit : Nat := 0
  h : Nat := 0
  /-- elapsed time of the last CREDIT | 64 | 11 R257 -/
  creditAt : Option Nat := none
  /-- elapsed time at which it was answered | 64 | 11 R253 -/
  since : Nat := 0
  /-- next DL_ID | 32 | 11 Table 11.8 -/
  nextDl : Nat := 1
deriving DecidableEq, Repr, Inhabited

/-- A cell (11 R253 to R267). -/
structure ActCell where
  /-- 0 never connected, 2 UP, 3 DARK | 3 | 11 Table 11.15 -/
  link : Nat := 0
  current : Option ActSession := none
  pending : Option ActSession := none
  /-- elapsed time of the last HELLO | 64 | 11 R253 -/
  helloAt : Option Nat := none
  /-- elapsed and device time of the last capsule that passed authentication | 64, 64 | 11 R263 -/
  heardAt : Option Nat := none
  heard : Nat := 0
  /-- elapsed time of the transition to DARK | 64 | 11 R265 -/
  darkAt : Nat := 0
  /-- waits for a handshake in the takeover grace | 1 | 11 R267 -/
  grace : Bool := false
  /-- LOCAL_ADDR values and the elapsed time they were last heard, at most 8,192 | table | 11 R258 -/
  endpoints : Tab Nat := []
  /-- queued downlink, at most DL_QUEUE | list | 11 R260 -/
  queue : List ActDl := []
  /-- items sent and not reported, oldest first | list | 11 R261 -/
  sent : List ActDl := []
deriving DecidableEq, Repr, Inhabited

/-- Askong Cell Transport (11). -/
structure ActSt where
  /-- LISTENING | 1 | 11 Table 11.14 -/
  listening : Bool := false
  /-- cells, by number | table, 4,096 | 11 R253 -/
  cells : Tab ActCell := []
  /-- PSKs of KEYLOAD entries, over the records of ACT_CELLS: KEY_VERSION, key (none: erased) and JSN of the entry, by cell | table | 14 R329 -/
  psk : Tab (Nat × Option Nat × Nat) := []
  /-- JSN of the last committed amendment that carries ACT_CELLS | 64 | 14 R329 -/
  cellsJsn : Nat := 0
  /-- cell last served by a raise | 12 | 11 R257 -/
  served : Nat := 0
  /-- BEACON_S before the last change, and the elapsed time of the change | 8, 64 | 11 R262 -/
  beaconOld : Option (Nat × Nat) := none
  /-- takeover grace: elapsed time at which it ends, and the takeover instant | 64, 64 | 11 R267 -/
  grace : Option (Nat × Nat) := none
  /-- ACT_HELLO_DROP | 32 | 11 Table 11.13 -/
  helloDrop : U32 := 0
  /-- ACT_HANDSHAKES | 32 | 11 Table 11.13 -/
  handshakes : U32 := 0
  /-- ACT_REPLACED | 32 | 11 Table 11.13 -/
  replaced : U32 := 0
  /-- ACT_AUTH_FAIL | 32 | 11 Table 11.13 -/
  authFail : U32 := 0
  /-- ACT_REPLAY | 32 | 11 Table 11.13 -/
  replays : U32 := 0
  /-- ACT_FORMAT | 32 | 11 Table 11.13 -/
  format : U32 := 0
  /-- ACT_FRAMES | 32 | 11 Table 11.13 -/
  frames : U32 := 0
  /-- ACT_FRAME_GAPS | 32 | 11 Table 11.13 -/
  gaps : U32 := 0
  /-- ACT_OVER_CREDIT | 32 | 11 Table 11.13 -/
  overCredit : U32 := 0
  /-- ACT_CELL_FULL | 32 | 11 Table 11.13 -/
  cellFull : U32 := 0
  /-- ACT_DL_SENT | 32 | 11 Table 11.13 -/
  dlSent : U32 := 0
  /-- ACT_DL_FAILED | 32 | 11 Table 11.13 -/
  dlFailed : U32 := 0
  /-- ACT_DARK_EVENTS | 32 | 11 Table 11.13 -/
  darkEvents : U32 := 0
deriving DecidableEq, Repr, Inhabited

end Sys2Proof.Machine
end

