-- ==== Sys2Proof/Machine/TCfg.lean ====
section
/-! DEFINITION. State of the cadastre (chapter 02) and of the twin (chapter 15). -/

namespace Sys2Proof.Machine

/-- Values of cadastre fields by tag: rows of numbers; an absent tag stands for the field's default (02 R43). -/
abbrev CadValues := Tab (List (List Int))

/-- The cadastre (02 R41 to R53). -/
structure CadSt where
  /-- a cadastre has been accepted by this start | 1 | 02 R41 -/
  accepted : Bool := false
  /-- SHA-256 of the accepted image, and whether it is signed under INTEGRATOR_KEY | 256, 1 | 14 Tables 14.3, 14.12 -/
  imageHash : Nat := 0
  signed : Bool := false
  /-- SERIAL of the running cadastre | 64 | 02 R52 -/
  serial : Nat := 0
  /-- running values | table | 02 R49 -/
  running : CadValues := []
  /-- values in force at the next start | table | 02 R49 -/
  stored : CadValues := []
  /-- live values waiting for the next epoch boundary | table | 02 R49 -/
  live : CadValues := []
  /-- READING_PROFILES sets of committed amendments that have not yet taken effect | list | 05 R120 -/
  profilesDue : List (List (List Int)) := []
  /-- boundary at which the READING_PROFILES in force took effect, and the set before it (the model's own) | record | 05 R119 -/
  profilesWas : Option (Nat × List (List Int)) := none
  /-- elapsed time at which the PLC_BLANKING in force was installed, and the values before it (the model's own) | record | 02 R50 -/
  blankWas : Option (Nat × List (List Int)) := none
  /-- staged quiescent values | table | 02 R50 -/
  staged : CadValues := []
  /-- tags of staged values whose block is draining | list | 02 R50 -/
  draining : List Nat := []
  /-- SEQUENCE of the last applied amendment | 32 | 02 R52 -/
  lastSeq : Nat := 0
  /-- last applied amendment | record | 02 R52 -/
  last : Option Amendment := none
  /-- amendment log of both QSPI devices | list, 2 MiB | 02 R52, R53 -/
  log : List Amendment := []
  /-- bytes of the amendment log in use | 32 | 02 R53 -/
  logBytes : Nat := 0
  /-- highest accepted SERIAL recorded in QSPI A | 64 | 02 R47 -/
  highA : Nat := 0
  /-- highest accepted SERIAL recorded in QSPI B | 64 | 02 R47 -/
  highB : Nat := 0
  /-- provisioned integrator key | key | 02 R44 -/
  integratorKey : Option Nat := none
  /-- cadastre region of QSPI A | 4 MiB | 02 R41 -/
  regionA : Option CadImage := none
  /-- cadastre region of QSPI B | 4 MiB | 02 R41 -/
  regionB : Option CadImage := none
  /-- image posted by the companion | 4 MiB | 02 R41 -/
  posted : Option CadImage := none
deriving DecidableEq, Repr, Inhabited

/-- One item of the Baseline stream held by a standby until COMMIT covers it (15 R345, R346). -/
inductive StreamItem
  /-- a shadowed frame, by ASN -/
  | shadow (asn : Nat)
  /-- a device-made entry, by its place in `entries` -/
  | entry (item : Nat)
deriving DecidableEq, Repr, Inhabited

/-- A recheck of a diverged epoch (15 R349). -/
structure Recheck where
  epoch : Int := 0
  /-- elapsed time of the mismatch -/
  since : Nat := 0
  /-- own verdict once the recheck ended -/
  own : Option Bool := none
  /-- the peer's verdict once received -/
  peer : Option Bool := none
deriving DecidableEq, Repr, Inhabited

/-- A takeover in progress (15 Table 15.5). -/
structure Takeover where
  /-- device time D of the trigger -/
  trigger : Nat := 0
  /-- takeover instant E, device time -/
  instant : Nat := 0
  cause : Nat := 0
  /-- this unit is the one that yields -/
  yielding : Bool := false
deriving DecidableEq, Repr, Inhabited

/-- Arbitration for the active role (15 R340). -/
inductive Arbitration
  | none
  /-- TWIN_ROLE driven high since this elapsed time -/
  | waiting (since : Nat)
  /-- backed off until this elapsed time -/
  | backoff (until_ : Nat)
deriving DecidableEq, Repr, Inhabited

/-- A frame sent and not yet acknowledged (15 R344): LINK_SEQ, lane, the ITEM it covers (0 none), its header and body, and the state that a
STATE_COPY carries. -/
structure BlSent where
  seq : Nat := 0
  lane : Nat := 0
  item : Nat := 0
  bytes : List U8 := []
  copy : Option StateCopy := none
deriving DecidableEq, Repr, Inhabited

/-- The Baseline link (15 R342 to R344). -/
structure LinkSt where
  /-- PAIRED, session authenticated | 1 | 15 Table 15.7 -/
  paired : Bool := false
  /-- SESSION, 0 until unit a's choice is known | 32 | 15 Table 15.1 -/
  session : Nat := 0
  /-- N of the unit's own HELLO | 256 | 15 R343 -/
  nonce : Nat := 0
  /-- key of the frames this unit sends in the session | 256 | 15 R343 -/
  keyTx : Nat := 0
  /-- key of the frames it receives | 256 | 15 R343 -/
  keyRx : Nat := 0
  /-- last LINK_SEQ sent | 64 | 15 R344 -/
  txSeq : Nat := 0
  /-- highest LINK_SEQ received with none missing below | 64 | 15 R344 -/
  rxSeq : Nat := 0
  /-- ACK_SEQ last received | 64 | 15 R344 -/
  ackSeq : Nat := 0
  /-- unacknowledged frames | list, 64 MiB | 15 R344 -/
  unacked : List BlSent := []
  /-- elapsed time of the last frame sent | 64 | 15 R344 -/
  lastTx : Nat := 0
  /-- elapsed time of the last authenticated frame | 64 | 15 R344 -/
  lastRx : Nat := 0
  /-- elapsed time at which ACK_SEQ last advanced | 64 | 15 R344 -/
  lastAck : Nat := 0
  /-- LANES in use: bit 0 BL0, bit 1 BL1 | 2 | 15 R342 -/
  lanes : BitVec 2 := 0
  /-- LINK_FRAMES_TX | 32 | 15 Table 15.6 -/
  framesTx : U32 := 0
  /-- LINK_FRAMES_RX | 32 | 15 Table 15.6 -/
  framesRx : U32 := 0
  /-- LINK_AUTH_FAIL | 32 | 15 Table 15.6 -/
  authFail : U32 := 0
  /-- LINK_RESENDS | 32 | 15 Table 15.6 -/
  resends : U32 := 0
  /-- elapsed time of the last OC_TWIN_LINK_AUTH record | 64 | 15 R343 -/
  authRecAt : Option Nat := none
  /-- own HELLO sent in this pairing | 1 | 15 R343 -/
  helloSent : Bool := false
deriving DecidableEq, Repr, Inhabited

/-- Twin operation (15). -/
structure TwinSt where
  /-- DEVICE_STATUS.TWIN_ROLE: 0 single, 1 active, 2 standby, 3 resynchronising | 2 | 15 R338 -/
  role : Nat := 0
  /-- level of TWIN_ALIVE | 1 | 15 R339 -/
  alive : Bool := false
  /-- is TWIN_ALIVE toggling | 1 | 15 R339 -/
  toggling : Bool := false
  /-- elapsed time of the last toggle | 64 | 15 R339 -/
  toggledAt : Nat := 0
  /-- level of TWIN_ROLE | 1 | 15 R339 -/
  roleOut : Bool := false
  /-- PEER_ROLE, level of TWIN_ROLE_PEER | 1 | 15 Table 15.7 -/
  peerRole : Bool := false
  /-- PEER_ALIVE | 1 | 15 Table 15.7 -/
  peerAlive : Bool := false
  /-- elapsed time of the last edge on TWIN_ALIVE_PEER | 64 | 15 R339 -/
  peerEdge : Nat := 0
  /-- arbitration under way | record | 15 R340 -/
  arb : Arbitration := .none
  /-- link | record | 15 R342 to R344 -/
  link : LinkSt := {}
  /-- peer's HELLO: uid, SP2, LAST_SEALED, ROLE | record | 15 Table 15.2 -/
  peer : Option (Nat × Nat × Int × Nat) := none
  /-- peer UNIT | 128 | 15 R353 -/
  peerUnit : Nat := 0
  /-- last ITEM sent or received | 64 | 15 R345 -/
  item : Nat := 0
  /-- standby: stream items not yet covered by COMMIT | list | 15 R346 -/
  stream : List (Nat × StreamItem) := []
  /-- standby: entries received and not yet committed, by ITEM | table | 15 R346 -/
  entries : Tab JEntry := []
  /-- standby: amendments of the AMEND entries among them, by ITEM | table | 15 R346 -/
  amends : Tab Amendment := []
  /-- standby: COMMITs received before the bulk copy was complete: ITEM, JSN, OUTCOME | list | 15 R352 -/
  commits : List (Nat × Nat × U16) := []
  /-- active: last JSN of the pages sent as DELTA_PAGE | 64 | 15 R348 -/
  sentJsn : Nat := 0
  /-- REGISTERS and DEMAND_STATE of the parcels at the last digest | table | 15 Table 15.4 -/
  regs : Tab (Registers × DemandState) := []
  /-- this unit's four digests by epoch, newest last, while a recheck may need them | list | 15 R349 -/
  digests : List (Int × List Nat) := []
  /-- the standby is resynchronised (active: as known from EPOCH_RESULT) | 1 | 15 R352 -/
  resynced : Bool := false
  /-- DETACHED | 1 | 15 R346 -/
  detached : Bool := false
  /-- detached by a DETACH order until a RESYNC | 1 | 15 R353 -/
  detachOrder : Bool := false
  /-- elapsed time at which the oldest uncovered commit began to wait | 64 | 15 R346 -/
  holdAt : Option Nat := none
  /-- rechecks, oldest first | list | 15 R349 -/
  rechecks : List Recheck := []
  /-- COMPARE_SUSPENDED | 1 | 15 R348 -/
  suspended : Bool := false
  /-- TAKEOVER_CAUSE | 3 | 15 Table 15.7 -/
  cause : Nat := 0
  /-- takeover in progress | record | 15 R351 -/
  takeover : Option Takeover := none
  /-- elapsed time at which a former active must rejoin | 64 | 15 R339 -/
  rejoinAt : Option Nat := none
  /-- this unit yielded and waits to rejoin | 1 | 15 R351 -/
  yielded : Bool := false
  /-- bulk copy: records received | 32 | 15 R352 -/
  bulk : Nat := 0
  /-- RESYNC_PCT | 7 | 15 Table 15.7 -/
  resyncPct : Nat := 0
  /-- bulk copy complete, catching up | 1 | 15 R352 -/
  caughtUp : Bool := false
  /-- last epoch compared | i64 | 15 Table 15.6 -/
  compared : Int := 0
  /-- COMPARED_HI latch | 32 | 15 R354 -/
  comparedHi : U32 := 0
  /-- EPOCHS_COMPARED | 32 | 15 Table 15.6 -/
  epochsCompared : U32 := 0
  /-- DIVERGENCES | 32 | 15 Table 15.6 -/
  divergences : U32 := 0
  /-- TAKEOVERS | 32 | 15 Table 15.6 -/
  takeovers : U32 := 0
  /-- RESYNCS | 32 | 15 Table 15.6 -/
  resyncs : U32 := 0
  /-- relayed TWIN_CMDs waiting for their answers, oldest first: head end and ORDER_ID | list | 15 R353 -/
  relayed : List (Nat × Nat) := []
  /-- LMS_RESERVE requested of the active: reserved end asked for | 64 | 15 R346, 14 R334 -/
  reserveAsked : Option Nat := none
  /-- DELTA_PAGEs received and not yet written: epoch and last JSN | list | 15 R348 -/
  deltaPages : List (Int × Nat) := []
  /-- OC_TWIN_STRAP, OC_TWIN_NOT_LISTED recorded since the start | 2 | 15 R338, R340 -/
  noted : Nat := 0
deriving DecidableEq, Repr, Inhabited

end Sys2Proof.Machine
end

