-- ==== Sys2Proof/Machine/State.lean ====
section
/-! DEFINITION. The state of the AKX-8000 as plain data, the reasons a step can stop, and the state after reset. -/

namespace Sys2Proof.Machine

/-- The device as a block: every register group, buffer, table, counter and pin the specification names. -/
structure State where
  /-- elapsed time since power-on, ns, in TPLL ticks of 4 ns (the model's own field, log 2) | 64 | 16 R355 -/
  mono : Nat := 0
  /-- global block and start-up -/
  glob : GlobalSt := {}
  /-- the epoch -/
  epoch : EpochSt := {}
  /-- Benchmark -/
  bench : BenchSt := {}
  /-- PTP and time quality -/
  ptp : PtpSt := {}
  /-- clock sources and gating -/
  clk : ClockSt := {}
  /-- field books -/
  fb : FbSt := {}
  /-- memory controllers and ECC -/
  ecc : MemSt := {}
  /-- mailboxes -/
  mbox : MboxSt := {}
  /-- word queues 0 to 21 | table | 17 R391 -/
  queues : Tab WordQueue := []
  /-- DMA channels 0 to 3 | table | 17 R395 -/
  dma : Tab DmaChan := []
  /-- power block -/
  power : PowerSt := {}
  /-- panel -/
  panel : PanelSt := {}
  /-- cadastre -/
  cad : CadSt := {}
  /-- twin -/
  twin : TwinSt := {}
  /-- LAST_OUTCOME by block number | 16 each | 00 R9, R10 -/
  outcomes : Tab U16 := []
  /-- companion area behind BAR2, 256 MiB | bytes | 17 R378 -/
  cmp : Memory := []
  /-- secure staging buffer behind BAR4, 64 KiB | bytes | 17 R378 -/
  stage : Memory := []
  /-- parcels, directory, head cache -/
  store : StoreSt := {}
  /-- Traverse -/
  trav : TravSt := {}
  /-- journal -/
  jrn : JournalSt := {}
  /-- billing time and calendars -/
  billing : BillingSt := {}
  /-- Head-end Exchange, sheets and campaigns -/
  hx : HxSt := {}
  /-- Steelyard and Theodolite -/
  steel : SteelSt := {}
  /-- keys, roots and lifecycle -/
  keys : KeySt := {}
  /-- device update and recovery -/
  upd : UpdSt := {}
  /-- downlinks the running command hands to its paths, empty between commands (the model's own) | list | 04 R98 -/
  downs : List Down := []
  /-- archive and flash -/
  flash : FlashSt := {}
  /-- power-line ports -/
  plc : PlcSt := {}
  /-- radio ports -/
  radio : RadioSt := {}
  /-- cell transport -/
  act : ActSt := {}
  /-- notes for the next HX REPORT: code and fields | list | 12 R274 -/
  notes : List (U16 × List Int) := []
  /-- outputs of the last command (the model's own field, log 1) -/
  out : List Output := []
  /-- number of free values drawn (the model's own field, log 3) | 64 | DESIGN CHOICE -/
  freeCtr : Nat := 0
  /-- commands waiting, first in, first out -/
  pending : List Instr := []
deriving DecidableEq, Repr

/-- Faults. No meaning raises one: every row of the table has an effect in the specification. -/
inductive Fault
  /-- never raised (safe) -/
  | none
deriving DecidableEq, Repr

/-- Refusals. -/
inductive Refusal
  /-- raised by an arm of `exec` whose command has no meaning yet (safe) -/
  | notModelled (mnemonic : String)
deriving DecidableEq, Repr

/-- The device with every register at its reset value and nothing waiting (00 R7). -/
def State.reset : State := {}

end Sys2Proof.Machine
end

