-- ==== Sys2Proof/Machine/Ops.lean ====
section
/-! DEFINITION. The operations every family shares: outputs, free values, elapsed and device time, field book records,
outcomes and interrupts. -/

namespace Sys2Proof.Machine

/-- An output appended to those of the running command. -/
def emit (o : Output) (s : State) : State := { s with out := s.out ++ [o] }

/-- A protocol message sent. -/
def send (dest : Dest) (name : String) (fields : List Int) (s : State) : State := emit (.send dest name fields) s

/-- Memory after the posted writes of a command (17 R378, R379). -/
def commitCmp : Memory → List Output → Memory
  | m, [] => m
  | m, .cmpWrite a bs :: os => commitCmp (memWriteBytes m a bs) os
  | _, .memClear :: os => commitCmp [] os
  | m, _ :: os => commitCmp m os

/-- The staging buffer after the posted writes of a command (17 R378, R379). -/
def commitStage : Memory → List Output → Memory
  | m, [] => m
  | m, .stageWrite a bs :: os => commitStage (memWriteBytes m a bs) os
  | _, .memClear :: os => commitStage [] os
  | m, _ :: os => commitStage m os

/-- A command's effect `f` on the whole state: the outputs start empty, and the posted writes it made are committed to
the addressed RAM at its end. The queue is not the command's to change. -/
def runCmd (f : State → State) (s : State) : State :=
  let t := f { s with out := [] }
  { t with cmp := commitCmp s.cmp t.out, stage := commitStage s.stage t.out, pending := s.pending }

/-- The outcome of a command that has effect `f`. -/
def done (f : State → State) (s : State) : Host.Outcome State Fault Refusal := .next (runCmd f s)

/-- The state changed by `f` where `b` holds. -/
def applyIf (b : Bool) (f : State → State) (s : State) : State := if b then f s else s

/-- Apply a state change for each element of a list, in order. -/
def forEach {α : Type} (l : List α) (f : α → State → State) (s : State) : State := l.foldl (fun t a => f a t) s

/-- Draw a free value: a number nothing constrains (log 3). -/
def draw (s : State) : Nat × State := (Config.free s.freeCtr, { s with freeCtr := s.freeCtr + 1 })

/-- A drawn value of at least 1 and below `2^w` (14 and 11 draw non-zero numbers). -/
def drawNonzero (w : Nat) (s : State) : Nat × State :=
  let (v, t) := draw s
  (v % (2 ^ w - 1) + 1, t)

/-- A NOTE for the next HX REPORT (12 R274). -/
def addNote (c : U16) (fields : List Int) (s : State) : State := { s with notes := s.notes ++ [(c, fields)] }

/-! ### Registers' outcomes -/

/-- Set LAST_OUTCOME of a block (00 R10). -/
def setOutcome (block : Nat) (c : U16) (s : State) : State := { s with outcomes := tabPut s.outcomes block c }

/-- LAST_OUTCOME of a block (00 Table 0.5). -/
def outcomeOf (s : State) (block : Nat) : U16 := tabGet s.outcomes block 0

/-- The mailbox stamp of a requester (17 R382; firmware and keeper are not secure-tagged, log 20). -/
def stampOf : Requester → U32
  | .fn0 id => id.setWidth 32
  | .fn1 id => id.setWidth 32 ||| 0x20000#32
  | .firmware => 0x10001#32
  | .warden => 0x30002#32
  | .keeper => 0x10003#32

/-- Is a request secure-tagged (01 R30)? -/
def secureReq : Requester → Bool
  | .fn1 _ => true
  | .warden => true
  | _ => false

/-- Is the requester a companion function? -/
def companionReq : Requester → Bool
  | .fn0 _ => true
  | .fn1 _ => true
  | _ => false

/-- Raise an MSI-X vector of one function (17 Table 17.2) while the link is up. -/
def msix (fn vec : Nat) (s : State) : State := if s.mbox.linkUp then emit (.msix fn vec) s else s

/-- Raise an MSI-X vector of both functions. -/
def msixBoth (vec : Nat) (s : State) : State := msix 1 vec (msix 0 vec s)

/-! ### Device time (16 R355 to R361) -/

/-- The integer part of the counter: what a hardware stamp holds (16 R356). -/
def bmInt (s : State) : U32 := (s.bench.bm >>> 32).setWidth 32

/-- Extend stamp `st` of generation `g` to device time (16 R358). -/
def extendStamp (s : State) (g : BitVec 4) (st : U32) : Nat :=
  let a := tabGet s.bench.anchors g.toNat (0, 0)
  let d := (st - a.2).toNat
  if d ≥ 2147483648 then a.1 + d - 4294967296 else a.1 + d

/-- Device time, from the current anchor (16 Table 16.11). -/
def devTime (s : State) : Nat := extendStamp s s.bench.stepGen (bmInt s)

/-- Set the anchor of the current generation to (device time, integer part now) (16 R358). -/
def setAnchor (t : Nat) (s : State) : State :=
  { s with bench := { s.bench with anchors := tabPut s.bench.anchors s.bench.stepGen.toNat (t, bmInt s) } }

/-- Billing time follows device time only in TQ0 and TQ1 and never decreases (06 R136). -/
def noteTime (s : State) : State :=
  let t := devTime s
  let s := { s with epoch := { s.epoch with clock := max s.epoch.clock t } }
  if s.glob.tq ≤ 1 then { s with billing := { s.billing with time := max s.billing.time t } } else s

/-- `n` TPLL ticks pass: the counter advances by BM_INCR at each, a new BM_INCR taking effect at the first
(16 R355), and the keeper's refresh of the anchor is included where a second or more passes (16 R358, log 2). -/
def elapseTicks (n : Nat) (s : State) : State :=
  if n = 0 then s
  else
    let s := { s with mono := s.mono + 4 * n,
                      bench := { s.bench with aonTime := if s.bench.aonValid then s.bench.aonTime + 4 * n else 0 } }
    if s.bench.running then
      let inc := s.bench.incrNext.getD s.bench.incr
      let t := devTime s
      let v := s.bench.bm.toNat + n * inc.toNat
      let adv := v / 4294967296 - s.bench.bm.toNat / 4294967296
      let s := { s with bench := { s.bench with bm := BitVec.ofNat 64 v, incr := inc, incrNext := none } }
      let a := tabGet s.bench.anchors s.bench.stepGen.toNat (0, 0)
      noteTime (if t + adv ≥ a.1 + 1000000000 then setAnchor (t + adv) s else s)
    else s

/-- At least `ns` nanoseconds pass, in whole ticks of 4 ns. -/
def elapse (ns : Nat) (s : State) : State := elapseTicks ((ns + 3) / 4) s

/-- Time passes until elapsed time `t` is reached (a timer's instant comes; log 2). -/
def elapseTo (t : Nat) (s : State) : State := elapse (t - s.mono) s

/-- Time passes until device time is at least `t`. -/
def elapseDev (t : Nat) (s : State) : State :=
  let now := devTime s
  if t ≤ now ∨ !s.bench.running then s
  else
    let inc := (s.bench.incrNext.getD s.bench.incr).toNat
    let frac := s.bench.bm.toNat % 4294967296
    elapseTicks (((t - now) * 4294967296 - frac + inc - 1) / (max inc 1)) s

/-! ### Field books (18 R411 to R417) -/

/-- Bytes of a block record (18 R411). -/
def fbLength (r : FbRec) : Nat := 16 + 8 * r.links.length + 4 * r.payload.length

/-- A record cut to 240 bytes, with TRUNCATED set where it was longer (18 R411). -/
def fbTruncate (r : FbRec) : FbRec :=
  if fbLength r ≤ 240 then r
  else { r with payload := r.payload.take (56 - 2 * r.links.length), truncated := true }

/-- The words of a block record (18 Table 18.4). -/
def fbWords (r : FbRec) : List U32 :=
  [u32 (fbLength r + 65536 * r.code.toNat), u32 r.hours,
   u32 (r.cycles + 16777216 * (r.links.length + (if r.truncated then 4 else 0) + (if r.repeatSat then 8 else 0))),
   u32 (r.repeats + 65536 * r.source.toNat)]
    ++ r.links.flatMap (fun q => [lo32 q, hi32 q]) ++ r.payload

/-- The words of a device record: SEQ, then the block record (18 R414). -/
def fbDevWords (q : Nat) (r : FbRec) : List U32 := [lo32 q, hi32 q] ++ fbWords r

/-- Bytes of device records. -/
def fbBytes (l : List (Nat × FbRec)) : Nat := (l.map (fun e => 8 + fbLength e.2)).sum

/-- The newest records of a list that fit a ring of `cap` bytes (18 R415). -/
def fbTrim (cap : Nat) (l : List (Nat × FbRec)) : List (Nat × FbRec) :=
  (l.foldr (fun e (acc : List (Nat × FbRec) × Nat × Bool) =>
    let n := acc.2.1 + 8 + fbLength e.2
    if acc.2.2 && decide (n ≤ cap) then (e :: acc.1, n, true) else (acc.1, acc.2.1, false)) ([], 0, true)).1

/-- Write the records not yet saved to the field book section of the image area (18 R412, R415). -/
def fbSave (s : State) : State :=
  let all := if s.fb.ringUp then s.fb.ring else s.fb.buffer
  let new := all.filter (fun e => decide (s.fb.savedSeq < e.1))
  { s with fb := { s.fb with saved := fbTrim 16777216 (s.fb.saved ++ new), savedSeq := s.fb.nextSeq - 1,
                             savedTime := some (s.fb.hours, s.fb.cycles) } }

/-- Push one word to a queue without its threshold interrupt. -/
def queueAppend (q : Nat) (ws : List (U32 × Bool)) (s : State) : State :=
  { s with queues := tabMod s.queues q {} (fun w => { w with words := w.words ++ ws }) }

/-- Depth of a queue in words (17 Table 17.7). -/
def queueDepth (q : Nat) : Nat := if q < 8 then 1024 else 16384

/-- The interrupt of a queue whose level reached its threshold (17 Table 17.2, Table 17.8). -/
def queueIrq (q before : Nat) (s : State) : State :=
  let w := tabGet s.queues q {}
  if w.threshold ≠ 0 ∧ before < w.threshold ∧ w.threshold ≤ w.words.length ∧ 4 ≤ q then
    msix 0 (if q < 8 then 3 else 4) s
  else s

/-- EVENT_FEED: a device record copied to control queue 4 as its words, or the whole record dropped and counted
(17 R393, Table 17.6). -/
def fbFeed (q : Nat) (r : FbRec) (s : State) : State :=
  if s.fb.feed then
    let w := tabGet s.queues 4 {}
    let ws := fbDevWords q r
    if w.words.length + ws.length ≤ queueDepth 4 then
      queueIrq 4 w.words.length (queueAppend 4 (ws.map (fun x => (x, false))) s)
    else { s with queues := tabPut s.queues 4 { w with overflow := w.overflow + 1 } }
  else s

/-- The device field book: the ring, or the keeper's buffer while there is no ring (18 R415). -/
def ringBook (b : FbSt) : List (Nat × FbRec) := if b.ringUp then b.ring else b.buffer

/-- Oldest SEQ of the device field book (18 Table 18.5). -/
def ringOldest (b : FbSt) : Nat := ((ringBook b).head?.map (·.1)).getD 0

/-- Newest SEQ of the device field book (18 Table 18.5). -/
def ringNewest (b : FbSt) : Nat := ((ringBook b).getLast?.map (·.1)).getD 0

/-- A device cursor on a record that the ring has overwritten moves to the oldest, and CURSOR_LOST is set (18 R416). -/
def cursorKept (b : FbSt) : FbSt :=
  if b.select = 0xFFFF ∧ b.cursor ≠ 0 ∧ b.cursor < ringOldest b then { b with cursor := ringOldest b, cursorLost := true } else b

/-- A record placed in the ring, or in the keeper's buffer while there is no ring (18 R415); the cursor moves where the
ring overwrites its record (18 R416). -/
def fbPlace (q : Nat) (r : FbRec) (s : State) : State :=
  if s.fb.ringUp then
    let s := fbFeed q r { s with fb := cursorKept { s.fb with ring := fbTrim 16777216 (s.fb.ring ++ [(q, r)]) } }
    let un := s.fb.ring.filter (fun e => decide (s.fb.savedSeq < e.1))
    if 65536 ≤ fbBytes un then fbSave s else s
  else if fbBytes s.fb.buffer + 8 + fbLength r ≤ 16384 then
    fbFeed q r { s with fb := { s.fb with buffer := s.fb.buffer ++ [(q, r)] } }
  else
    let c := ocClass r.code
    let l := match s.fb.lost with
      | none => (1, q, q, c, s.fb.hours, s.fb.hours)
      | some (n, a, _, k, h, _) => (n + 1, a, q, max k c, h, s.fb.hours)
    { s with fb := { s.fb with lost := some l, dropped := s.fb.dropped + 1 } }

/-- The OVERRUN record (18 R417). -/
def fbOverrun (n lo hi cls first last : Nat) (s : State) : State :=
  let r : FbRec := { code := OC_FB_OVERRUN, hours := s.fb.hours, cycles := s.fb.cycles, source := 3,
                     payload := [u32 n, lo32 lo, hi32 lo, lo32 hi, hi32 hi, u32 cls, u32 first, u32 last] }
  let q := s.fb.nextSeq
  fbPlace q r { s with fb := { s.fb with nextSeq := q + 1 } }

/-- The freeze ends: held records enter the ring in SEQ order, and an OVERRUN record follows where records were dropped
(18 R417). -/
def fbThaw (s : State) : State :=
  match s.fb.freeze with
  | none => s
  | some z =>
    let s := { s with fb := { s.fb with freeze := none } }
    let s := forEach z.held (fun e t => fbPlace e.1 e.2 t) s
    if z.dropped = 0 then s else fbOverrun z.dropped z.dropLo z.dropHi z.dropClass z.dropFirst z.dropLast s

/-- The keeper takes a closed record into the device field book (18 R414, R415, R417). `kept` marks records of
containment handlings C2 to C4, which a freeze holds. -/
def fbGather (kept : Bool) (r : FbRec) (s : State) : State :=
  let q := s.fb.nextSeq
  let fault := if ocIsFault r.code then some r.code else s.fb.lastFault
  let s := { s with fb := { s.fb with nextSeq := q + 1, lastFault := fault } }
  match s.fb.freeze with
  | none => fbPlace q r s
  | some z =>
    if kept || ocIsFault r.code then
      let s := { s with fb := { s.fb with freeze := some { z with held := z.held ++ [(q, r)] } } }
      if 64 ≤ z.held.length + 1 then fbThaw s else s
    else
      let z := { z with dropped := z.dropped + 1, dropLo := if z.dropped = 0 then q else z.dropLo, dropHi := q,
                        dropClass := max z.dropClass (ocClass r.code),
                        dropFirst := if z.dropped = 0 then s.fb.hours else z.dropFirst, dropLast := s.fb.hours }
      { s with fb := { s.fb with freeze := some z, dropped := s.fb.dropped + 1 } }

/-- Keep a closed record in its block field book, at most 32 (18 R411). -/
def fbKeep (r : FbRec) (b : BlockBook) : BlockBook :=
  { b with closed := (b.closed ++ [r]).drop ((b.closed.length + 1) - 32) }

/-- Close the open record of a block and pass it to the keeper (18 R413). -/
def fbClose (block : Nat) (s : State) : State :=
  let b := tabGet s.fb.blocks block {}
  match b.opened with
  | none => s
  | some (r, _) =>
    fbGather false r { s with fb := { s.fb with blocks := tabPut s.fb.blocks block (fbKeep r { b with opened := none }) } }

/-- A record of a block: folded into the equal open record within 1 s, or opened after closing another; a record with
links or of a containment handling is closed at once (18 R413). -/
def recordFull (block : Nat) (code : U16) (payload : List U32) (links : List Nat) (kept : Bool) (s : State) : State :=
  let r := fbTruncate { code := code, hours := s.fb.hours, cycles := s.fb.cycles, links := links,
                        source := BitVec.ofNat 16 block, payload := payload }
  let b := tabGet s.fb.blocks block {}
  let fold : Option (FbRec × Nat) := match b.opened with
    | some (o, t) =>
      if o.code = r.code ∧ o.payload = r.payload ∧ s.mono < t + 1000000000 ∧ !kept ∧ links = [] then some (o, t) else none
    | none => none
  match fold with
  | some (o, t) =>
    let o := { o with repeats := o.repeats + 1, repeatSat := decide (65535 ≤ o.repeats + 1) }
    let s := { s with fb := { s.fb with blocks := tabPut s.fb.blocks block { b with opened := some (o, t) } } }
    if 65535 ≤ o.repeats then fbClose block s else s
  | none =>
    let s := fbClose block s
    let b := tabGet s.fb.blocks block {}
    if kept || !links.isEmpty then
      fbGather kept r { s with fb := { s.fb with blocks := tabPut s.fb.blocks block (fbKeep r b) } }
    else { s with fb := { s.fb with blocks := tabPut s.fb.blocks block { b with opened := some (r, s.mono) } } }

/-- An ordinary field book record of a block. -/
def record (block : Nat) (code : U16) (payload : List U32) (s : State) : State := recordFull block code payload [] false s

/-- Table 0.6 has every outcome of the classes 0x5 and 0x8 recorded: the record of a request that ended so (00 R11). -/
def recordRefusal (block : Nat) (code : U16) (payload : List U32) (s : State) : State :=
  if ocIsSecurity code || ocIsFault code then record block code payload s else s

/-- SEQ the next device record will take. -/
def nextSeq (s : State) : Nat := s.fb.nextSeq

/-! ### Device states (01 R26, R27) -/

/-- State codes (01 Table 1.10). -/
def stateCode : DevState → Nat
  | .reset => 0
  | .boot => 1
  | .starting => 2
  | .healthy => 3
  | .degraded => 4
  | .slowHold => 5
  | .lastGasp => 6
  | .recovery => 7
  | .halted => 8

/-- The states in which TWIN_ALIVE is driven low (15 R339, 02 Table 2.2). -/
def aliveHeld (d : DevState) : Bool := d == .halted || d == .slowHold || d == .lastGasp

/-- Level of a seasonal pin of function LED with indicator `k` (19 Table 19.3). -/
def ledLevel (s : State) (k : Nat) : Bool := match k with
  | 0 => s.glob.state == .healthy
  | 1 => s.glob.state == .degraded
  | 2 => decide (s.glob.tq ≤ 1)
  | 3 => s.twin.role == 1
  | 4 => s.hx.sessions.any (fun x => x.version != 0)
  | 5 => s.glob.ingest
  | 6 => s.glob.led6
  | _ => s.panel.led7

/-- The levels of the LED indicators 0 to 7. -/
def ledLevels (s : State) : U8 := BitVec.ofNat 8 ((List.range 8).foldl (fun a k => a + (if ledLevel s k then 2 ^ k else 0)) 0)

/-- Enter a device state; a change raises vector 6 (17 Table 17.2). Ingest runs only in HEALTHY and DEGRADED (01 R26). -/
def setDevState (d : DevState) (s : State) : State :=
  let changed := s.glob.state ≠ d
  let enters := aliveHeld d && !aliveHeld s.glob.state
  let held := if enters then ledLevels s else s.glob.ledHeld
  let pins := if enters then s.glob.gpioOut else s.glob.gpioHeld
  let s := { s with glob := { s.glob with state := d, ingest := s.glob.ingest && (d == .healthy || d == .degraded), ledHeld := held, gpioHeld := pins },
                    twin := { s.twin with alive := s.twin.alive && !aliveHeld d } }
  if changed then msixBoth 6 s else s

/-- Is the device serving (01 R26)? -/
def serving (s : State) : Bool := s.glob.state == .healthy || s.glob.state == .degraded

/-- Enter DEGRADED from HEALTHY; every other state stays (01 R26, Table 1.10). -/
def degrade (s : State) : State := if s.glob.state = .healthy then setDevState .degraded s else s

/-- A resource is retired until the next start (01 R26). -/
def retireResource (r : Nat) (s : State) : State :=
  degrade { s with glob := { s.glob with retired := if s.glob.retired.contains r then s.glob.retired else s.glob.retired ++ [r] } }

/-- Start-up stops on a fault: HALTED, with the keeper's reset 10 s later unless the unit is in SCRAP (02 R40). -/
def halt (code : U16) (payload : List U32) (s : State) : State :=
  let s := record 0 code payload s
  setDevState .halted { s with glob := { s.glob with haltCode := code, haltedAt := some s.mono }, bench := { s.bench with running := false } }

end Sys2Proof.Machine
end

