-- ==== Sys2Proof/Machine/Journal.lean ====
section
/-! DEFINITION. The journal: committing an entry, its pages, the reserve, the boundary entries and time quality
(04 R94 to R101, 06 R137, R151, 16 R368). -/

namespace Sys2Proof.Machine

/-- Bytes of the journal tail: committed data not yet in the reserve (04 R99). -/
def tailBytes (s : State) : Nat := 65536 * s.jrn.pages.length + s.jrn.pageFill

/-- The parcel image's lowest IMAGE_JSN and the watermarks of the engines and the sheet builder: the low mark (04 R100). A parcel never changed
since its image counts at the last JSN; the sheet builder's is the last entry whose sheet is built (log 115). -/
def lowMark (s : State) : Nat :=
  let marks := tabGet s.jrn.marks 3 0 :: [0, 1, 2].map (fun k => tabGet s.jrn.marks k s.jrn.lastJsn)
  let imgs := s.store.parcels.map (fun e => match tabFind s.store.image e.1 with
    | some (p, j) => if p = e.2 then s.jrn.lastJsn else j
    | none => if e.2 = ({} : Parcel) then s.jrn.lastJsn else 0)
  (marks ++ imgs).foldl min s.jrn.lastJsn

/-- Pages of the journal ring of the reserve (08 R201). -/
def ringPages (s : State) : Nat := s.flash.ringPages

/-- Would writing one more page overwrite a page at or above the low mark (04 R100)? -/
def reserveFull (s : State) : Bool :=
  decide (ringPages s ≤ s.jrn.reserve.length + s.jrn.pages.length) &&
    (match s.jrn.reserve.head? with
     | some j => decide (lowMark s ≤ j)
     | none => false)

/-- Do commits wait (04 R99, R100)? -/
def commitWait (s : State) : Bool := decide (8388608 ≤ tailBytes s) || reserveFull s

/-- Is a block in C3 containment now, so that work for it waits (04 R105, Table 4.9)? -/
def blockHeld (s : State) (b : Nat) : Bool := s.trav.handlings.any (fun h => h.cls == 3 && h.started && h.scope == .block b)

/-- Does the journal tail stay within 8 MiB with an entry of `n` bytes (04 R99)? A page that the entry does not fit is closed first. -/
def tailRoom (n : Nat) (s : State) : Bool :=
  decide ((if 65536 < s.jrn.pageFill + n then 65536 * (s.jrn.pages.length + 1) else tailBytes s) + n ≤ 8388608)

/-- Has the journal staging ring room for an entry of `n` bytes (04 R97)? An empty ring has. -/
def ringRoom (n : Nat) (s : State) : Bool := s.jrn.ring == 0 || decide (s.jrn.ring + n ≤ Config.ringBytes)

/-- May an entry of `n` bytes commit as far as the journal goes (04 R97, R99, R100)? -/
def commitRoom (n : Nat) (s : State) : Bool := !commitWait s && tailRoom n s && ringRoom n s

/-- Does this unit make entries itself: a single or active unit, not a standby (15 R346)? -/
def makesEntries (s : State) : Bool := s.twin.role ≤ 1

/-- Is the active shadowing to a standby (15 R345, R346, R352 step 4)? -/
def shadowing (s : State) : Bool := s.twin.role == 1 && s.twin.link.paired && !s.twin.detached && !s.twin.detachOrder

/-- The header of a Baseline frame with `n` bytes of body; LENGTH counts the 16-byte tag (15 Table 15.1). -/
def blHead (type n seq ack session : Nat) : List U8 :=
  beBytes 2 0x424C ++ [1] ++ beBytes 1 type ++ beBytes 4 (48 + n) ++ beBytes 8 seq ++ beBytes 8 ack ++ beBytes 4 session ++ zeros 4

/-- Send one Baseline frame of the session on the lane whose turn it is (15 R342 to R344); `item` is the ITEM it carries, 0 none. -/
def blSendCopy (type item : Nat) (body : List U8) (copy : Option StateCopy) (s : State) : State :=
  let k := s.twin.link
  if k.lanes = 0 then s
  else
    let q := k.txSeq + 1
    let lane := if k.lanes = 3 then q % 2 else if k.lanes = 1 then 0 else 1
    let frame := blHead type body.length q k.rxSeq k.session ++ body
    let k := { k with txSeq := q, framesTx := k.framesTx + 1, lastTx := s.mono,
                      lastAck := if k.unacked.isEmpty then s.mono else k.lastAck,
                      unacked := k.unacked ++ [{ seq := q, lane := lane, item := item, bytes := frame, copy := copy }] }
    emit (.baseline lane frame copy) { s with twin := { s.twin with link := k } }

/-- Send a frame whose body is bytes alone. -/
def blSend (type item : Nat) (body : List U8) (s : State) : State := blSendCopy type item body none s

/-- Send a STATE_COPY: its KIND, 7 reserved bytes and the payload (15 Table 15.2). -/
def blSendState (kind : Nat) (c : StateCopy) (s : State) : State := blSendCopy 0x20 0 (beBytes 1 kind ++ zeros 7) (some c) s

/-- Number an item of the stream and send it (15 R345). -/
def shadowItem (type : Nat) (body : List U8) (s : State) : State :=
  if shadowing s then
    let i := s.twin.item + 1
    blSend type i (beBytes 8 i ++ body) { s with twin := { s.twin with item := i } }
  else s

/-- Send a COMMIT of one item: its JSN, or JSN 0 and the outcome that ended it (15 R345, Table 15.2). -/
def blCommitSend (item jsn : Nat) (c : U16) (s : State) : State :=
  blSend 0x12 0 (beBytes 8 item ++ beBytes 8 jsn ++ beBytes 2 c.toNat ++ zeros 6) s

/-- Place an entry of `len` bytes in the open page: a page it does not fit is closed with PAD (04 R94). -/
def pagePlace (len : Nat) (s : State) : State :=
  let j := s.jrn
  let j := if 65536 < j.pageFill + len then { j with pages := j.pages ++ [j.lastJsn], pageFill := 0 } else j
  { s with jrn := { j with pageFill := j.pageFill + len } }

/-- A page that has become full goes to the pages waiting for the reserve (04 R99). -/
def pageFull (s : State) : State :=
  if s.jrn.pageFill = 65536 then
    { s with jrn := { s.jrn with pages := s.jrn.pages ++ [s.jrn.lastJsn], pageFill := 0 } }
  else s

/-- Close the partial page with PAD and queue it for the reserve (04 R99). A PAD takes no JSN (04 R94). -/
def closePage (s : State) : State :=
  if s.jrn.pageFill = 0 then s
  else { s with jrn := { s.jrn with pages := s.jrn.pages ++ [s.jrn.lastJsn], pageFill := 0 } }

/-- Commit an entry: it takes the next JSN and its place in the page (04 R94, R97). It stays in the staging ring while the memory controllers are
under C3 containment, and is collected into the page at once otherwise. -/
def appendEntry (e : JEntry) (s : State) : State :=
  let n := entryLength e
  let s := pagePlace n s
  let q := s.jrn.lastJsn + 1
  pageFull { s with jrn := { s.jrn with ring := if blockHeld s 14 then s.jrn.ring + n else 0, lastJsn := q, entries := s.jrn.entries ++ [{ e with jsn := q, length := n }] } }

/-- Commit an entry the device makes other than from a frame, at device time now; a paired active sends it as ENTRY
first, and its JSN in COMMIT (15 R345). `received` is an order's BODY as the entry carries it. -/
def commitSized (received : List U8) (parcel : Option Nat) (generation : Nat) (b : JBody) (s : State) : State :=
  let e : JEntry := { parcel := parcel, generation := generation, body := b, admitAt := devTime s, received := received }
  let s := shadowItem 0x11 (entryBuilt e) s
  let s := appendEntry e s
  if shadowing s then blCommitSend s.twin.item s.jrn.lastJsn 0 s else s

/-- Commit an entry whose body the device forms itself. -/
def commitMade (parcel : Option Nat) (generation : Nat) (b : JBody) (s : State) : State := commitSized [] parcel generation b s

/-- NEXT_ASN: the ASN of the first frame admitted after a commit made now (06 R151). -/
def nextAsn (s : State) : Nat := match s.trav.staged with
  | t :: _ => t.asn
  | [] => s.trav.nextAsn

/-- Commit a BOUNDARY entry and keep it for R151 (06 R150, Table 6.11). -/
def commitBoundary (b : BoundaryEntry) (s : State) : State :=
  let b := { b with nextAsn := nextAsn s, billingTime := s.billing.time }
  let fl := (if b.period then 1 else 0) + (if b.catchUp then 2 else 0)
  let s := commitMade none 0 (.boundary b.kind [b.calendar, fl, b.through, b.prevThrough, b.nextAsn, b.billingTime, b.periodEnd]) s
  { s with billing := { s.billing with bounds := { b with jsn := s.jrn.lastJsn } :: s.billing.bounds,
                                       boundaryCommits := s.billing.boundaryCommits + 1 } }

/-- Commit the TQ entry for the time quality in force; THROUGH is the instant at which it changed (06 R137, Table 6.11, log 97). -/
def commitTq (s : State) : State :=
  if makesEntries s && commitRoom 128 s then
    commitBoundary { kind := if s.glob.tq ≤ 1 then 3 else 2, through := s.billing.tqAt } { s with billing := { s.billing with tqDue := false } }
  else { s with billing := { s.billing with tqDue := true } }

/-- Time quality changes to `q`: recorded, vector 6, and the TQ entry where it passes between good and bad
(16 R368, 06 R137, 17 Table 17.2). In TQ0 and TQ1 the keeper sets the always-on time counter (16 R361, log 26). -/
def setTq (q : Nat) (s : State) : State :=
  let old := s.glob.tq
  if q = old then s
  else
    let s := { s with glob := { s.glob with tq := q } }
    let s := { s with ptp := { s.ptp with holdAt := if q = 1 then s.mono else s.ptp.holdAt,
                                          suspectAt := if q = 2 then s.mono else s.ptp.suspectAt } }
    let s := msixBoth 6 (record 8 OC_OK [u32 old, u32 q] s)
    let s := noteTime (if q ≤ 1 then { s with bench := { s.bench with aonTime := devTime s, aonValid := true } } else s)
    let s := if q ≤ 1 ∧ 2 ≤ old then { s with billing := { s.billing with resumed := devTime s } } else s
    if (decide (q ≤ 1)) = (decide (old ≤ 1)) then s
    else
    let s := { s with billing := { s.billing with tqAt := devTime s } }
    if s.glob.ingest && !s.trav.stopped then commitTq s
    else { s with billing := { s.billing with tqDue := true } }

end Sys2Proof.Machine
end

