-- ==== Sys2Proof/Machine/Contain.lean ====
section
/-! DEFINITION. Error containment: the classes C1 to C4, their nesting and their records (04 R110 to R112, R458). -/

namespace Sys2Proof.Machine

/-- The containment descriptor that begins a record's payload (04 R458): STATUS 0 started, 1 queued, 2 absorbed,
3 continued as C3, 4 continued as C4. -/
def descriptor (cls status : Nat) : U32 := u32 (cls + 256 * status)

/-- The block that a scope belongs to. -/
def scopeBlock : Scope → Nat
  | .op b _ => b
  | .block b => b
  | .parcel _ => 16

/-- Does the first scope contain the second's operation or block (04 R111)? -/
def scopeContains : Scope → Scope → Bool
  | .block b, .op c _ => b == c
  | .block b, .block c => b == c
  | .parcel p, .parcel q => p == q
  | .op b t, .op c u => b == c && t == u
  | _, _ => false

/-- A record of a containment handling: closed at once, never folded (04 R458, 18 R413). -/
def containRecord (block : Nat) (code : U16) (cls status : Nat) (payload : List U32) (links : List Nat) (s : State) : State :=
  recordFull block code (descriptor cls status :: payload) links true s

/-- A C1 event: counted, no record (04 Table 4.9). -/
def containC1 (s : State) : State := { s with trav := { s.trav with c1 := s.trav.c1 + 1 } }

/-- Drive TWIN_ALIVE low (15 R339). -/
def aliveLow (s : State) : State := { s with twin := { s.twin with alive := false, toggling := false } }

/-- A C4 fault begins: admissions stop, TWIN_ALIVE goes low, and a paired unit reports FAULT (04 R112, 15 R339, R347). -/
def c4Begin (code : U16) (s : State) : State :=
  let s := { s with trav := { s.trav with stopped := true, c4 := some (s.trav.c4.getD code) } }
  let s := if s.twin.role = 0 then s else aliveLow s
  if s.twin.link.paired then blSend 0x42 0 (beBytes 2 code.toNat) s else s

/-- A C4 fault recorded under its own code, linked to every open handling (04 R111, R112, R458). -/
def c4Fault (block : Nat) (code : U16) (payload : List U32) (s : State) : State :=
  c4Begin code (containRecord block code 4 0 payload (s.trav.handlings.map (·.seq)) s)

/-- Does a parcel count as retiring: its RETIRE accepted or committed, also while its memory is restored (03 R75, R79)? -/
def goesAway (p : Parcel) : Bool := p.state == .retiring || p.retireAccepted || (p.state == .restoring && p.retireJsn != 0)

/-- Is a C3 reload running: of a parcel, or of the Steelyard's working set (03 R79, 18 Table 18.1)? -/
def reloading (s : State) : Bool := s.trav.handlings.any (fun h => h.cls == 3 && h.started && (match h.scope with
  | .parcel _ => true
  | .block b => b == 17
  | .op .. => false))

/-- A parcel whose memory is damaged is RESTORING while its C3 runs (03 R79). -/
def restoring (i : Nat) (s : State) : State :=
  match tabFind s.store.parcels i with
  | some p => if p.state = .active ∨ p.state = .retiring then
      { s with store := { s.store with parcels := tabPut s.store.parcels i { p with state := .restoring } } } else s
  | none => s

/-- A handling starts: it is counted, and a C3 puts the device in DEGRADED (04 Table 4.9, Table 4.10). -/
def handlingStart (cls : Nat) (scope : Scope) (s : State) : State :=
  let s := { s with trav := { s.trav with c2 := if cls = 2 then s.trav.c2 + 1 else s.trav.c2,
                                          c3 := if cls = 3 then s.trav.c3 + 1 else s.trav.c3 } }
  if cls = 3 then
    degrade (match scope with
      | .parcel i => restoring i s
      | _ => s)
  else s

/-- An error of class C2 or C3 is detected (04 R111). -/
def containError (cls : Nat) (scope : Scope) (code : U16) (payload : List U32) (s : State) : State :=
  let blk := scopeBlock scope
  let open_ := s.trav.handlings
  let mk (seq : Nat) (started : Bool) (behind : Option Nat) : Handling :=
    { id := s.trav.nextHandling, cls := cls, scope := scope, code := code, seq := seq, started := started,
      behind := behind, since := s.mono, payload := payload }
  let push (h : Handling) (t : State) : State :=
    { t with trav := { t.trav with handlings := t.trav.handlings ++ [h], nextHandling := t.trav.nextHandling + 1 } }
  if 4 ≤ cls then c4Fault blk code payload s
  else match open_ with
    | [] =>
      let q := nextSeq s
      handlingStart cls scope (push (mk q true none) (containRecord blk code cls 0 payload [] s))
    | h :: [] =>
      let q := nextSeq s
      if cls ≤ h.cls then push (mk q false (some h.id)) (containRecord blk code cls 1 payload [h.seq] s)
      else
        let s := handlingStart cls scope (push (mk q true none) (containRecord blk code cls 0 payload [] s))
        if scopeContains scope h.scope then
          let s := containRecord (scopeBlock h.scope) h.code h.cls 2 h.payload [h.seq] s
          { s with trav := { s.trav with handlings := s.trav.handlings.filter (fun x => x.id != h.id) } }
        else s
    | _ :: _ :: _ =>
      c4Begin OC_CONTAIN_ESCALATED
        (containRecord blk OC_CONTAIN_ESCALATED 4 0 [u32 code.toNat] (open_.map (·.seq)) s)

/-- A handling ends; the handling queued behind it starts (04 R111). -/
def handlingEnd (id : Nat) (s : State) : State :=
  let rest := s.trav.handlings.filter (fun h => h.id != id)
  let wake := rest.filter (fun h => h.behind == some id)
  let rest := rest.map (fun h => if h.behind == some id then { h with behind := none, started := true, since := s.mono } else h)
  forEach wake (fun h t => handlingStart h.cls h.scope t) { s with trav := { s.trav with handlings := rest } }

/-- The handling of number `id`. -/
def handlingOf (s : State) (id : Nat) : Option Handling := s.trav.handlings.find? (fun h => h.id == id)

/-- A C2 handling continues as C3 on the owning block, under a further record (04 Table 4.9, R458). -/
def handlingToC3 (h : Handling) (s : State) : State :=
  let s := containRecord (scopeBlock h.scope) h.code 3 3 h.payload [h.seq] s
  let sc : Scope := .block (scopeBlock h.scope)
  let hs := s.trav.handlings.map (fun x => if x.id = h.id then { x with cls := 3, scope := sc, since := s.mono } else x)
  handlingStart 3 sc { s with trav := { s.trav with handlings := hs } }

/-- A C3 handling that does not end continues as C4 (04 Table 4.9, R458). -/
def handlingToC4 (h : Handling) (s : State) : State :=
  let s := containRecord (scopeBlock h.scope) h.code 4 4 h.payload [h.seq] s
  let s := { s with trav := { s.trav with handlings := s.trav.handlings.filter (fun x => x.id != h.id) } }
  c4Begin h.code s

end Sys2Proof.Machine
end

