-- ==== Sys2Proof/Machine/Cadastre.lean ====
section
/-! DEFINITION. The cadastre's fields: their classes, sizes, ranges and defaults (the cadastre-field tables of every chapter),
the checks of 02 R43 to R46 and R455, and the running values. -/

namespace Sys2Proof.Machine

/-- Field classes (02 R49). -/
inductive FieldClass
  | live | quiescent | restart
deriving DecidableEq, Repr, Inhabited

/-- A cadastre field: its tag, class, bytes per value or per element, whether it is a list and of how many elements at
most, how many rows it has where it is none, the range of every sub-field (reserved bytes as 0 to 0), and its default. -/
structure FieldSpec where
  tag : Nat
  cls : FieldClass
  size : Nat
  isList : Bool := false
  rows : Nat := 1
  ranges : List (Int × Int) := []
  dflt : List (List Int) := []
deriving DecidableEq, Repr, Inhabited

/-- Largest unsigned value of `n` bytes. -/
def umax (n : Nat) : Int := 256 ^ n - 1

/-- Fields of chapters 01 and 02. -/
def fieldsBase : List FieldSpec := [
  ⟨0x0010, .restart, 1, false, 1, [(1, 16)], [[4]]⟩,
  ⟨0x0011, .live, 1, false, 1, [(1, 4)], [[1]]⟩,
  ⟨0x0012, .live, 1, false, 1, [(10, 60)], [[35]]⟩,
  ⟨0x0020, .restart, 32, false, 16, [(0, 10), (0, 255)], List.replicate 16 [0, 0]⟩,
  ⟨0x0021, .restart, 1, false, 1, [(0, 2)], [[0]]⟩,
  ⟨0x0022, .restart, 2, false, 1, [(100, 10000)], [[2000]]⟩,
  ⟨0x0101, .live, 24, false, 1, List.replicate 6 (100, 600000), [[2000, 30000, 10000, 60000, 500, 5000]]⟩]

/-- Fields of chapters 15 to 19. -/
def fieldsPlatform : List FieldSpec := [
  ⟨0x0810, .restart, 24, false, 1, [(0, 1), (0, 0), (10, 200), (1, 20), (0, 0), (0, umax 8), (0, umax 8)], [[0, 0, 20, 2, 0, 0, 0]]⟩,
  ⟨0x0901, .restart, 4, false, 1, [(0, 1), (0, 0)], [[1, 0]]⟩,
  ⟨0x0910, .restart, 12, false, 1, [(0, 2), (0, 127), (0, 15), (0, 2), (2, 600), (0, 0), (0, 500000)], [[1, 0, 1, 0, 10, 0, 10000]]⟩,
  ⟨0x0911, .restart, 2, false, 1, [(0, 15), (0, 127)], [[0, 0]]⟩,
  ⟨0x0912, .live, 8, false, 1, [(100, 1000000), (100, 60000)], [[10000, 2000]]⟩,
  ⟨0x0913, .live, 12, false, 1, [(10, 100000), (1, 8760), (1, 1000), (0, 1), (0, 0)], [[500, 24, 50, 0, 0]]⟩,
  ⟨0x0914, .restart, 16, true, 32, [(0, umax 8), (0, 100), (0, 0)], [[0, 37, 0]]⟩,
  ⟨0x0915, .restart, 4, false, 1, [(100, 10000), (0, 0)], [[1000, 0]]⟩,
  ⟨0x0920, .live, 4, false, 1, [(1, 168), (0, 0), (8, 4096)], [[24, 0, 64]]⟩,
  ⟨0x0930, .live, 8, false, 1, [(0, 1), (-40, 40), (1, 255), (0, 0), (3000, 1000000)], [[1, -15, 10, 0, 40000]]⟩,
  ⟨0x0931, .live, 1224, false, 18, List.replicate 66 (0, 255) ++ [(0, 0)], []⟩,
  ⟨0x0932, .live, 8, false, 1, [(600, 1700), (1, 1000), (50, 2000), (0, 0)], [[1200, 20, 500, 0]]⟩]

/-- Largest value of an unsigned 32-bit sub-field. -/
def m32 : Int := 4294967295

/-- Fields of chapters 05 to 08 (05, 06, 07 Table 7.10, 08 Table 8.10). -/
def fieldsEngines : List FieldSpec := [
  ⟨0x0201, .live, 0, true, 1024, [], []⟩,
  ⟨0x0202, .live, 2, false, 1, [(1, 2880)], [[96]]⟩,
  ⟨0x0210, .restart, 0, true, 32, [], []⟩,
  ⟨0x0301, .live, 24, true, 4194304, [(0, 262143), (0, m32), (0, umax 8), (0, 2), (0, 3), (0, 63), (0, 1), (0, 0)], []⟩,
  ⟨0x0302, .live, 32, true, 64,
    [(0, 63), (1, 32), (1, 32), (0, 0), (0, m32), (0, m32), (0, 200000), (1, 1000000), (0, m32), (0, 50000), (0, 0)], []⟩,
  ⟨0x0303, .restart, 1, false, 1, [(5, 60)], [[15]]⟩,
  ⟨0x0304, .restart, 2, false, 1, [(60, 3600)], [[600]]⟩,
  ⟨0x0305, .live, 1, false, 1, [(0, 1)], [[0]]⟩,
  ⟨0x0306, .live, 24, false, 1,
    List.replicate 5 (0, 1000) ++ [(0, 256), (1, 96), (1, 99), (0, 0), (100, 1000), (0, m32), (0, m32)],
    [[200, 300, 150, 250, 150, 240, 8, 30, 0, 500, 180000, 50000]]⟩,
  ⟨0x0307, .live, 8, true, 32, (1, 2) :: (0, 0) :: List.replicate 6 (0, 255), []⟩,
  ⟨0x0308, .live, 8, true, 32, (1, 2) :: (1, 2) :: List.replicate 6 (0, 255), []⟩,
  ⟨0x0309, .live, 12, false, 1, [(10, 600), (0, 0), (1, 1000000), (1, 1000000)], [[60, 0, 300000, 500000]]⟩,
  ⟨0x0310, .live, 16, false, 1,
    [(60, 3600), (64, 1024), (32, 1024), (1, 168), (1, 16), (500, 999), (10, 500), (500, 999), (0, 1), (0, 0)],
    [[300, 256, 192, 24, 3, 850, 100, 950, 0, 0]]⟩,
  ⟨0x0311, .live, 14, true, 4110, [(0, 4109), (0, m32), (0, m32), (0, m32)], []⟩,
  ⟨0x0312, .live, 28, false, 1, (List.replicate 6 [(0, 35999), (0, 1), (0, 0)]).flatten ++ [(100, 3000), (4, 1000)],
    [[0, 0, 0, 0, 0, 0, 0, 0, 0, 0, 0, 0, 0, 0, 0, 0, 0, 0, 1500, 16]]⟩,
  ⟨0x0401, .restart, 20, false, 1,
    [(1, 255), (1, 4), (1, 4), (1, 255), (1, 65535), (1472, 65535), (1, m32), (400, 1200), (1, 65535), (1, m32)], []⟩,
  ⟨0x0402, .live, 8, true, 64, List.replicate 8 (-128, 127), []⟩,
  ⟨0x0403, .live, 150, false, 1, List.replicate 150 (0, 63), []⟩,
  ⟨0x0404, .live, 8, true, 4096, [(0, 1023), (0, 15), (0, 0), (2, 2147483648)], []⟩,
  ⟨0x0405, .live, 4, false, 1, [(0, 1), (0, 0), (0, 36500)], [[1, 0, 0]]⟩,
  ⟨0x0406, .quiescent, 6, false, 1, [(0, 300), (10, 100), (1, 8), (0, 0)], [[120, 40, 2, 0]]⟩,
  ⟨0x0407, .live, 3, false, 1, List.replicate 3 (0, 15), [[6, 3, 1]]⟩,
  ⟨0x0408, .live, 4, false, 1, [(600, 86400)], [[3600]]⟩,
  ⟨0x0409, .restart, 2, false, 1, [(10, 100)], [[30]]⟩,
  ⟨0x040A, .live, 4, false, 1, [(60, 172800)], [[3600]]⟩,
  ⟨0x040B, .live, 1, false, 1, [(1, 15)], [[7]]⟩,
  ⟨0x040C, .live, 1, false, 1, [(0, 96)], [[24]]⟩]

/-- Fields of chapters 09 to 14. -/
def fieldsPorts : List FieldSpec := [
  ⟨0x0501, .restart, 48, false, 6, [(0, 1), (0, 1), (0, 5), (0, 21), (0, 65534), (0, 0)], List.replicate 6 [0, 0, 0, 0, 0, 0]⟩,
  ⟨0x0502, .quiescent, 2, false, 1, [(6, 30), (5, 100)], [[12, 25]]⟩,
  ⟨0x0503, .live, 4, false, 1, [(60, 7200), (100, 5000)], [[600, 1000]]⟩,
  ⟨0x0504, .live, 6, false, 1, [(1, 14), (0, 3), (1000, 60000), (10, 1440)], [[8, 2, 20000, 360]]⟩,
  ⟨0x0505, .live, 2, false, 1, [(1, 8760)], [[168]]⟩,
  ⟨0x0506, .live, 2, false, 1, [(0, 7), (10, 120)], [[5, 60]]⟩,
  ⟨0x0510, .restart, 64, false, 8, [(0, 1), (0, 1), (0, 5), (0, 7), (0, 15), (0, 15), (0, 65534)], List.replicate 8 [0, 0, 0, 0, 0, 0, 0]⟩,
  ⟨0x0511, .restart, 0, true, 8, [], []⟩,
  ⟨0x0512, .live, 12, true, 16, [(0, m32), (0, m32), (0, 3600000000)], []⟩,
  ⟨0x0513, .quiescent, 32, false, 8, [(0, 10000), (1, 3600)], List.replicate 8 [0, 300]⟩,
  ⟨0x0514, .live, 4, false, 1, [(60, 86400), (5, 500)], [[3600, 50]]⟩,
  ⟨0x0515, .live, 2, false, 1, [(1, 8760)], [[168]]⟩,
  ⟨0x0601, .restart, 4, false, 1, [(1024, 65535), (1, 15), (1, 3)], [[47460, 15, 3]]⟩,
  ⟨0x0602, .live, 56, true, 4096, [(0, 4095), (0, 1), (0, 0), (0, m32), (0, umax 8), (0, umax 40)], []⟩,
  ⟨0x0603, .live, 12, false, 1, [(1, 60), (0, 0), (100, 5000), (10, 3600), (15, 600), (60, 86400)], [[5, 0, 500, 120, 60, 3600]]⟩,
  ⟨0x0604, .live, 8, false, 1, [(8, 4096), (16, 1024), (1, 8760), (0, 0)], [[60, 256, 168, 0]]⟩,
  ⟨0x0701, .restart, 4, false, 1, [(1024, 65535), (1, 31), (1, 3)], [[47470, 31, 3]]⟩,
  ⟨0x0702, .live, 136, true, 8,
    [(1, umax 8), (0, 4095), (0, 15), (0, 0), (0, 65535), (0, umax 16), (0, umax 60), (0, umax 40), (0, 0)], []⟩,
  ⟨0x0703, .live, 12, false, 1, [(1, 64), (0, 0), (30, 600), (10, 3600), (0, 0), (60, 604800)], [[8, 0, 90, 300, 0, 86400]]⟩,
  ⟨0x0704, .live, 4, true, 16, [(1, m32)], []⟩,
  ⟨0x0710, .live, 4, false, 1, [(120, 3600), (1, 168), (0, 0)], [[600, 24, 0]]⟩,
  ⟨0x0801, .restart, 60, false, 1, [(0, umax 60)], []⟩,
  ⟨0x0802, .restart, 32, false, 1, [(0, umax 32)], []⟩,
  ⟨0x0803, .restart, 1, false, 1, [(0, 1)], [[0]]⟩,
  ⟨0x0804, .restart, 1, false, 1, [(0, 1)], [[0]]⟩]

/-- Every field of this release, in ascending tag order within each chapter (02 R48). -/
def fieldSpecs : List FieldSpec := fieldsBase ++ fieldsEngines ++ fieldsPorts ++ fieldsPlatform

/-- The field of a tag. -/
def fieldSpec (tag : Nat) : Option FieldSpec := fieldSpecs.find? (fun f => f.tag == tag)

/-- The default value of a field (02 R43). -/
def fieldDefault (tag : Nat) : List (List Int) := match fieldSpec tag with
  | some f => f.dflt
  | none => []

/-- A field's value in a set of values. -/
def valRows (v : CadValues) (tag : Nat) : List (List Int) := (tabFind v tag).getD (fieldDefault tag)

/-- The running value of a field, as rows. -/
def cadRows (s : State) (tag : Nat) : List (List Int) := valRows s.cad.running tag

/-- Sub-field `i` of row `r` of a field's running value, as a signed number. -/
def cadInt (s : State) (tag r i : Nat) : Int := ((cadRows s tag).getD r []).getD i 0

/-- Sub-field `i` of the first row of a field's running value. -/
def cadNum (s : State) (tag i : Nat) : Nat := (cadInt s tag 0 i).toNat

/-- Is some SP pin assigned this run-season function (02 Table 2.3)? -/
def spHas (s : State) (code : Int) : Bool := (cadRows s 0x0020).any (fun r => r.getD 0 0 == code)

/-- Epoch length L in ns (01 R22). -/
def epochLen (s : State) : Nat := max 1 (cadNum s 0x0010 0) * 250000000

/-- Device time of the end of epoch `n` (01 R22). -/
def epochEnd (s : State) (n : Int) : Nat := ((n + 1 - s.epoch.offset) * epochLen s).toNat

/-- The number of the epoch that spans a device time (01 R22). -/
def epochAt (s : State) (t : Nat) : Int := ((t / epochLen s : Nat) : Int) + s.epoch.offset

end Sys2Proof.Machine
end

