-- ==== Sys2Proof/Machine/Clocks.lean ====
section
/-! DEFINITION. Benchmark, PTP, time quality and the clock system (chapter 16). -/

namespace Sys2Proof.Machine

/-! ### The counter, steps and anchors -/

/-- BM_INCR of an integer and a fraction part. -/
def incrOf (i : U8) (f : U32) : BitVec 40 := i ++ f

/-- Is BM_INCR from 3.900 to 4.100 ns (16 R355)? -/
def incrOk (v : BitVec 40) : Bool := decide (16750372455 ≤ v.toNat ∧ v.toNat ≤ 17609365913)

/-- A write of BM_INCR_INT (16 R355, Table 16.11): the new BM_INCR takes effect at the next tick. -/
def bmIncrWrite (v : U32) (s : State) : State × U16 :=
  if v.toNat ≥ 256 then (s, OC_RESERVED_SET)
  else
    let i := v.setWidth 8
    let n := incrOf i s.bench.incrFrac
    if incrOk n then ({ s with bench := { s.bench with incrInt := i, incrNext := some n } }, OC_OK) else (s, OC_RANGE)

/-- The step written in BM_STEP_LO and BM_STEP_HI, i64 (16 Table 16.11). -/
def stepDelta (s : State) : Int := (s.bench.stepHi ++ s.bench.stepLo : BitVec 64).toInt

/-- BM_STEP_CMD.GO (16 R357): the step is requested; a step requested while one waits replaces it (log 21). -/
def bmStepGo (s : State) : State := { s with bench := { s.bench with stepReq := some (stepDelta s) } }

/-- Apply a step of device time by `d` ns now (16 R357, R358): the integer part moves, STEP_GEN advances, and the new
generation's anchor holds the stepped device time. -/
def applyStep (d : Int) (s : State) : State :=
  let t := ((devTime s : Int) + d).toNat
  let b := s.bench
  let bm := b.bm + (BitVec.ofInt 32 d ++ (0 : U32))
  setAnchor t { s with bench := { b with bm := bm, aonTime := if b.aonValid then t else b.aonTime, stepGen := b.stepGen + 1, steps := b.steps + 1, lastStep := some s.mono,
                                         stepReq := none } }

/-- The waiting step is applied at the next tick once 2 s have passed since the last (16 R357, R359). -/
def bmStepApply (s : State) : State :=
  match s.bench.stepReq with
  | none => s
  | some d =>
    let due := match s.bench.lastStep with
      | some t => t + 2000000000
      | none => s.mono
    let s := applyStep d (elapseTicks 1 (elapseTo due s))
    let lim : Int := cadNum s 0x0912 1
    let s := if d < 0 ∧ lim * 1000000 < -d ∧ s.glob.tq ≤ 1 then
      setTq 2 { s with ptp := { s.ptp with locked := false, good := 0 } } else s
    noteTime s

/-- The keeper refreshes the anchor of the current generation (16 R358). -/
def anchorRefresh (s : State) : State := setAnchor (devTime s) s

/-! ### The error estimate and lock (16 R366, R368) -/

/-- The error estimate in ns now (16 R366, R368): fixed while locked, growing in holdover. -/
def epsNow (s : State) : Nat :=
  if s.glob.tq = 1 then
    let ppb := if s.bench.ppsValid ∧ cadNum s 0x0913 3 = 1 then cadNum s 0x0913 2 else cadNum s 0x0913 0
    s.ptp.eps0 + ppb * (s.mono - s.ptp.holdAt) / 1000000000
  else s.ptp.eps0

/-- Lock is lost: holdover begins (16 R366, R368). -/
def loseLock (s : State) : State :=
  if s.ptp.locked then
    let s := { s with ptp := { s.ptp with locked := false, good := 0 } }
    if s.glob.tq = 0 then setTq 1 s else s
  else { s with ptp := { s.ptp with good := 0 } }

/-- Port of the servo: the one in SLAVE state. -/
def slavePort (s : State) : Option Nat := (s.ptp.port.find? (fun e => e.2 == 1)).map (·.1)

/-- Does the grandmaster announce clockClass 6 with timeTraceable true (16 R366)? -/
def masterGood (s : State) : Bool := match slavePort s with
  | some p => match tabFind s.ptp.masters p with
    | some m => m.clockClass == 6 && m.traceable
    | none => false
  | none => false

/-- The largest slew of BM_INCR from its frequency-corrected value, 500 ppm of 4 ns, in units of 2^-32 ns (16 R359). -/
def slewMax : Int := 8589934

/-- BM_INCR for TPLL on FIO / 4, from the last FIO/XA ratio measured (16 Table 16.7 step 4). -/
def incrOnFio (s : State) : BitVec 40 :=
  if s.clk.fioRatio = 0 then s.bench.incr else BitVec.ofNat 40 (17179869184 * 100000 / s.clk.fioRatio.toNat)

/-- The frequency-corrected BM_INCR: as written, or on FIO from the ratio (16 R359, Table 16.7). -/
def incrBase (s : State) : BitVec 40 := if s.clk.onFio then incrOnFio s else incrOf s.bench.incrInt s.bench.incrFrac

/-- Correct an offset (16 R359): slew BM_INCR within 500 ppm, or step. -/
def correctOffset (offset slew : Int) (s : State) : State :=
  let thr : Int := cadNum s 0x0912 0
  if offset.natAbs ≤ (thr * 1000).toNat then
    let sl := max (-slewMax) (min slewMax slew)
    let n := BitVec.ofInt 40 ((incrBase s).toNat + sl)
    { s with bench := { s.bench with incrNext := some n } }
  else { s with bench := { s.bench with stepReq := some (-offset) } }

/-- The bound in ns that a clockAccuracy code states, 1 ns for those below; a code that states none is taken as 1,000 s (16 R366, IEEE 1588 table of
clockAccuracy, log 130). -/
def accuracyBound (c : Nat) : Nat :=
  if 0x17 ≤ c ∧ c ≤ 0x1D then 1
  else [3, 10, 25, 100, 250, 1000, 2500, 10000, 25000, 100000, 250000, 1000000, 2500000, 10000000, 25000000, 100000000, 250000000,
        1000000000, 10000000000].getD (c - 0x1E) 1000000000000

/-- clockAccuracy code of the master of the client port. -/
def masterAccuracy (s : State) : Nat := match slavePort s with
  | some p => (tabGet s.ptp.masters p {}).accuracy
  | none => 0xFE

/-- The offset from the master that a Sync exchange measures, in ns: the time of flight is the mean path delay (16 R363). -/
def measuredOffset (x : PtpExchange) (s : State) : Int := (x.t2 : Int) - (x.t1.getD 0 : Nat) - x.corr / 65536 - s.ptp.delay

/-- The servo uses an accepted Sync (16 R366, R359): the estimate, lock or its loss, and the correction. In holdover the estimate goes on from
the one at the loss of lock (16 Table 16.4). -/
def servoUse (offset : Int) (r : ServoResult) (s : State) : State :=
  let acc := accuracyBound (masterAccuracy s)
  let eps := offset.natAbs + cadNum s 0x0910 6 + acc
  let good := if eps < 1000000 then satTo 16 (s.ptp.good + 1) else 0
  let locks := decide (eps < 1000000) && good == 16 && masterGood s
  let s := { s with ptp := { s.ptp with offset := offset, eps0 := if s.glob.tq = 1 && !locks then s.ptp.eps0 else eps, epsKnown := true, good := good,
                                        accepted := s.ptp.accepted + 1, lastSync := s.mono } }
  let s := correctOffset offset r.slew s
  if 1000000 ≤ eps then loseLock s
  else if locks then setTq 0 { s with ptp := { s.ptp with locked := true } }
  else s

/-! ### PTP messages (16 R362 to R367) -/

/-- Does the message use only listed parts (16 R362)? -/
def ptpListed (s : State) (h : PtpHeader) : Bool :=
  h.version == 2 && decide (h.minorVersion ≤ 1) && h.multicast && h.transport == cadNum s 0x0910 3

/-- Is the message for the unit's own clock: PTP on, its domain, a port of PORT_MASK (16 R363)? -/
def ptpOurs (s : State) (h : PtpHeader) : Bool :=
  decide (cadNum s 0x0910 0 ≠ 0) && h.domain == cadNum s 0x0910 1 && (cadNum s 0x0910 2).testBit h.port

/-- A discarded message, counted (16 R362). -/
def ptpDiscard (s : State) : State := { s with ptp := { s.ptp with discarded := s.ptp.discarded + 1 } }

/-- Write an entry to the time-stamp queue, or drop and count it (16 R365). The flag tells whether it found room. -/
def tsqPut (port : Nat) (tx : Bool) (ty : BitVec 4) (q : U16) (s : State) : State × Bool :=
  if s.ptp.tsq.length < 64 then
    let e : TsEntry := { port := BitVec.ofNat 2 port, transmit := tx, msgType := ty, gen := s.bench.stepGen, seqId := q, stamp := bmInt s }
    ({ s with ptp := { s.ptp with tsq := s.ptp.tsq ++ [e] } }, true)
  else ({ s with ptp := { s.ptp with tsqOverflow := s.ptp.tsqOverflow + 1 } }, false)

/-- A complete Sync exchange: the servo uses it and the client sends its Delay_Req, whose stamp goes to the time-stamp
queue (16 R363, R365). -/
def syncComplete (x : PtpExchange) (r : ServoResult) (s : State) : State :=
  let s := servoUse (measuredOffset x s + r.filter) r { s with ptp := { s.ptp with sync := none, exchange := some x } }
  let (s, ok) := tsqPut x.port true 1 x.seqId s
  let s := send (.eth x.port) "DELAY_REQ" [x.seqId.toNat] s
  { s with ptp := { s.ptp with delayReq := if ok then some (x.seqId, devTime s) else none } }

/-- PTP_SYNC: an accepted Sync; `origin` is its originTimestamp, and a two-step Sync waits for its Follow_Up. -/
def ptpSync (h : PtpHeader) (twoStep : Bool) (origin : Nat) (r : ServoResult) (s : State) : State :=
  let s := elapse h.dt s
  if !ptpListed s h then ptpDiscard s
  else if !ptpOurs s h then s
  else
    let (s, ok) := tsqPut h.port false 0 h.seqId s
    if !ok || slavePort s != some h.port then s
    else
      let x : PtpExchange := { seqId := h.seqId, port := h.port, t1 := if twoStep then none else some origin,
                               t2 := devTime s, corr := h.correction }
      if twoStep then { s with ptp := { s.ptp with sync := some x } } else syncComplete x r s

/-- PTP_FOLLOW_UP: completes a two-step Sync exchange of the same sequenceId (16 R363). -/
def ptpFollowUp (h : PtpHeader) (origin : Nat) (r : ServoResult) (s : State) : State :=
  let s := elapse h.dt s
  if !ptpListed s h then ptpDiscard s
  else match s.ptp.sync with
    | some x =>
      if ptpOurs s h && x.port == h.port && x.seqId == h.seqId then
        syncComplete { x with t1 := some origin, corr := x.corr + h.correction } r s
      else s
    | none => s

/-- Do master ports send (16 R363): boundary clock, time quality TQ0 or TQ1, and not a standby? -/
def masterSends (s : State) (p : Nat) : Bool :=
  tabGet s.ptp.port p 0 == 2 && decide (s.glob.tq ≤ 1) && decide (s.twin.role ≤ 1)

/-- PTP_DELAY_REQ: a master port answers (16 R363). -/
def ptpDelayReq (h : PtpHeader) (s : State) : State :=
  let s := elapse h.dt s
  if !ptpListed s h then ptpDiscard s
  else if !ptpOurs s h then s
  else
    let (s, _) := tsqPut h.port false 1 h.seqId s
    if masterSends s h.port then send (.eth h.port) "DELAY_RESP" [h.seqId.toNat, devTime s, h.source.toNat] s else s

/-- PTP_DELAY_RESP: completes the client's delay measurement (16 R363): half of the two-way sum. -/
def ptpDelayResp (h : PtpHeader) (received : Nat) (s : State) : State :=
  let s := elapse h.dt s
  if !ptpListed s h then ptpDiscard s
  else match s.ptp.delayReq, s.ptp.exchange with
    | some (q, t3), some x =>
      if ptpOurs s h && q == h.seqId && slavePort s == some h.port then
        let t1 : Int := (x.t1.getD 0 : Nat)
        let d := ((x.t2 : Int) - t1 + ((received : Int) - t3) - (x.corr + h.correction) / 65536) / 2
        { s with ptp := { s.ptp with delay := d, delayReq := none } }
      else s
    | _, _ => s

/-- Is master `a` better than `b` under the default BMCA (16 Table 16.2, IEEE 1588 clause 9.3)? -/
def masterBetter (a b : PtpMaster) : Bool :=
  let ka := [a.priority1, a.clockClass, a.accuracy, a.variance, a.priority2, a.identity.toNat, a.stepsRemoved]
  let kb := [b.priority1, b.clockClass, b.accuracy, b.variance, b.priority2, b.identity.toNat, b.stepsRemoved]
  decide (ka < kb)

/-- Port states after the masters known: the port of the best master is SLAVE; in a boundary clock the others of
PORT_MASK are MASTER (16 R363). -/
def bmca (s : State) : State :=
  let best := s.ptp.masters.foldl (fun (acc : Option (Nat × PtpMaster)) e => match acc with
    | none => some e
    | some b => if masterBetter e.2 b.2 then some e else some b) none
  let mode := cadNum s 0x0910 0
  let ports := [0, 1, 2, 3].filter (fun p => (cadNum s 0x0910 2).testBit p)
  let st := ports.map (fun p => (p, if (best.map (·.1)) = some p then 1 else if mode = 2 then 2 else 0))
  { s with ptp := { s.ptp with port := st } }

/-- The UTC offset in force at device time `t`, in s (16 R367). -/
def utcAt (l : List (Nat × Int)) (t : Nat) : Int :=
  l.foldl (fun acc e => if e.1 ≤ t then e.2 else acc) ((l.head?.map (·.2)).getD 0)

/-- Apply a UTC_OFFSET entry: the table keeps ascending instants and at most 32 entries (16 R367). -/
def utcApply (inst : Nat) (off : Int) (s : State) : State :=
  let l := s.ptp.utc.filter (fun e => decide (e.1 < inst)) ++ [(inst, off)] ++ s.ptp.utc.filter (fun e => decide (inst < e.1))
  if 32 < l.length then record 8 OC_TIME_OFFSET_FULL [] { s with ptp := { s.ptp with utc := l.drop 1 } }
  else { s with ptp := { s.ptp with utc := l } }

/-- Commit a device-made ORDER entry bound to no parcel, or let it wait until ingest starts or the journal has room (04 R456, R99). -/
def deviceOrder (kind : Nat) (nums : List Int) (s : State) : State :=
  if s.glob.ingest && commitRoom 192 s then commitMade none 0 (.order kind 1 0 0 0 nums) s
  else { s with jrn := { s.jrn with waiting := s.jrn.waiting ++ [(kind, nums)] } }

/-- Commit and apply a UTC_OFFSET entry (16 R367). -/
def commitUtc (inst : Nat) (off : Int) (s : State) : State :=
  if s.ptp.utc.contains (inst, off) ∨ s.jrn.waiting.any (fun w => w.1 == 0x83 && w.2.getD 1 0 == off) then s
  else if s.glob.ingest then utcApply inst off (deviceOrder 0x83 [inst, off] s)
  else deviceOrder 0x83 [inst, off] s

/-- What an accepted Announce does to the UTC offset (16 R367). -/
def announceUtc (a : AnnounceBody) (s : State) : State :=
  let now := devTime s
  let cur := utcAt s.ptp.utc now
  let off := a.utcOffset.getD cur
  let s1 := if off ≠ cur ∧ makesEntries s then commitUtc now off s else s
  if (a.leap61 || a.leap59) && makesEntries s then
    let utcNow := ((now : Int) - off * 1000000000).toNat
    let mid := (utcNow / 86400000000000 + 1) * 86400000000000
    commitUtc ((mid : Int) + off * 1000000000).toNat (if a.leap61 then off + 1 else off - 1) s1
  else s1

/-- PTP_ANNOUNCE: feeds the BMCA, may end lock, and may change the UTC offset (16 R366, R367). -/
def ptpAnnounce (h : PtpHeader) (a : AnnounceBody) (s : State) : State :=
  let s := elapse h.dt s
  if !ptpListed s h then ptpDiscard s
  else if !ptpOurs s h then s
  else
    let m : PtpMaster := { identity := a.identity, clockClass := a.clockClass, traceable := a.traceable, accuracy := a.accuracy,
                           priority1 := a.priority1, priority2 := a.priority2, stepsRemoved := a.stepsRemoved, variance := a.variance }
    let s := bmca { s with ptp := { s.ptp with masters := tabPut s.ptp.masters h.port m, heard := tabPut s.ptp.heard h.port s.mono } }
    let s := if s.ptp.locked && !masterGood s then loseLock s else s
    if slavePort s == some h.port then announceUtc a s else s

/-- TC_FORWARD: a frame of TC_DOMAIN goes to every other TC port, event messages with their residence time in ns added
(16 R364). -/
def tcForward (h : PtpHeader) (msgType : Nat) (residence : Nat) (s : State) : State :=
  let s := elapse h.dt s
  let mask := cadNum s 0x0911 0
  if mask.testBit h.port && h.domain == cadNum s 0x0911 1 && h.transport == 2 && decide (s.twin.role ≤ 1) then
    let corr := if msgType ≤ 1 then h.correction + residence * 65536 else h.correction
    let s := forEach ([0, 1, 2, 3].filter (fun p => mask.testBit p && p != h.port))
      (fun p t => send (.eth p) "TC" [msgType, h.seqId.toNat, corr] t) s
    { s with ptp := { s.ptp with forwarded := s.ptp.forwarded + 1 } }
  else s

/-- TSQ_POP (16 R365, Table 16.12): the word read, and the entry removed. -/
def tsqPop (s : State) : State × U32 :=
  match s.ptp.tsq with
  | [] => (s, 0)
  | e :: es =>
    ({ s with ptp := { s.ptp with tsq := es, tsqStamp := e.stamp } },
     fieldAt e.port.toNat 30 ||| bitAt e.transmit 29 ||| fieldAt e.msgType.toNat 24 ||| fieldAt e.gen.toNat 20 |||
       fieldAt e.seqId.toNat 0)

/-- SYNC_LOSS_TIMEOUT: no accepted Sync for SYNC_LOSS_S (16 R366). -/
def syncLoss (s : State) : State :=
  if s.ptp.locked then loseLock (elapseTo (s.ptp.lastSync + cadNum s 0x0910 4 * 1000000000) s) else s

/-- HOLDOVER_LIMIT: the holdover estimate reaches 100 ms (16 R368). -/
def holdoverLimit (s : State) : State :=
  if s.glob.tq = 1 then
    let ppb := if s.bench.ppsValid ∧ cadNum s 0x0913 3 = 1 then cadNum s 0x0913 2 else cadNum s 0x0913 0
    setTq 2 (elapseTo (s.ptp.holdAt + ((100000000 - s.ptp.eps0) * 1000000000 + ppb - 1) / max 1 ppb) s)
  else s

/-- SUSPECT_MAX_EXPIRY: SUSPECT_MAX_H passed in TQ2 (16 R368). -/
def suspectMax (s : State) : State :=
  if s.glob.tq = 2 then setTq 3 (elapseTo (s.ptp.suspectAt + cadNum s 0x0913 1 * 3600000000000) s) else s

/-! ### PPS (16 R369) -/

/-- PPS_IN_EDGE, `dt` ns after the previous command: stamped and judged. -/
def ppsInEdge (dt : Nat) (s : State) : State :=
  let s := elapse dt s
  if cadNum s 0x0913 3 = 1 && spHas s 8 then
    let t := devTime s
    let ok := match s.bench.ppsLast with
      | some l => decide (l + 999000000 ≤ t ∧ t ≤ l + 1001000000)
      | none => false
    { s with bench := { s.bench with ppsStamp := bmInt s, ppsLast := some t, ppsValid := ok } }
  else s

/-- PPS_IN_LOSS: no edge within 10^9 ns plus 1 ms of the last. -/
def ppsInLoss (s : State) : State :=
  match s.bench.ppsLast with
  | some l =>
    let s := elapseDev (l + 1001000000) s
    { s with bench := { s.bench with ppsValid := false } }
  | none => s

/-- PPS_OUT_PULSE: at the next multiple of 10^9 ns of device time PPS_OUT rises while time quality is TQ0 or TQ1. -/
def ppsOutPulse (s : State) : State :=
  if spHas s 9 then
    let s := elapseDev ((devTime s / 1000000000 + 1) * 1000000000) s
    if s.glob.tq ≤ 1 && s.glob.season == .run then { s with bench := { s.bench with ppsRise := some s.mono } }
    else { s with bench := { s.bench with ppsRise := none } }
  else s

/-- Level of PPS_OUT (16 R369). -/
def ppsLevel (s : State) : Bool := match s.bench.ppsRise with
  | some t => decide (s.mono < t + 100000000 ∧ s.glob.tq ≤ 1)
  | none => false

/-! ### Sources, trips and SLOW_HOLD (16 R370 to R374) -/

/-- A source's record. -/
def srcOf (s : State) : ClockSource → ClockSrc
  | .fio => s.clk.fio
  | .xa => s.clk.xa
  | .xb => s.clk.xb
  | .refclk => s.clk.refclk

/-- Set a source's record. -/
def setSrc (k : ClockSource) (c : ClockSrc) (s : State) : State := match k with
  | .fio => { s with clk := { s.clk with fio := c } }
  | .xa => { s with clk := { s.clk with xa := c } }
  | .xb => { s with clk := { s.clk with xb := c } }
  | .refclk => { s with clk := { s.clk with refclk := c } }

/-- Judging of a source (16 Table 16.5): window in ns, accept band, N, limit in ns. XA is judged against SIO while FIO is
failed. -/
def judging (s : State) : ClockSource → Nat × (Nat × Nat) × Nat × Nat
  | .fio => (244140, (22949, 25879), 4, 2000000)
  | .xa => if s.clk.fio.good then (10000, (240, 260), 64, if s.glob.startStep < 4 then 70000000 else 100000000)
           else (244140, (5860, 6348), 8, if s.glob.startStep < 4 then 70000000 else 100000000)
  | .xb => (7812500, (757812, 804688), 4, 1000000000)
  | .refclk => (1000000, (156172, 156328), 8, 100000000)

/-- Count a monitor trip and mark the source bad (16 R372). -/
def srcTrip (k : ClockSource) (s : State) : State :=
  let s := setSrc k { good := false, passes := 0, since := s.mono, failed := true } s
  { s with clk := { s.clk with trips := s.clk.trips + 1 } }

/-- The fast domains run again after a stop (16 Table 16.7 step 4, R374): the stop is added as a forward step; on FIO the PLLs relock from
FIO / 4. -/
def fastRestart (onFio : Bool) (s : State) : State :=
  let stop : Int := ((s.mono - s.clk.holdAt.getD s.mono : Nat) : Int)
  let inc := if onFio then incrOnFio s else s.bench.incr
  noteTime (applyStep stop
    { s with clk := { s.clk with onFio := onFio, pllLock := s.clk.pllLock ||| 0b1011#4, holdAt := none,
                                 keeperSio := if s.clk.fio.good then false else s.clk.keeperSio },
             bench := { s.bench with running := true, incr := inc },
             ecc := { s.ecc with scrubPaused := false } })

/-- The device resumes from SLOW_HOLD where it stopped (16 Table 16.7 step 4, R374): in service it is DEGRADED and admissions resume; a start
or RECOVERY that the trip interrupted goes on in its own state (log 101). -/
def resumeClocks (onFio : Bool) (s : State) : State :=
  let s := fastRestart onFio { s with trav := { s.trav with stopped := s.trav.c4.isSome } }
  let s := setDevState (match s.clk.heldState with
    | .healthy => .degraded
    | d => d) s
  let s := { s with glob := { s.glob with ingest := decide (17 ≤ s.glob.startStep) } }
  let s := if onFio then record 1 OC_CLK_FALLBACK [] s else s
  if s.billing.tqDue then commitTq s else s

/-- SLOW_HOLD is kept after FIO fails its judgement (16 Table 16.7 step 4): TQ3, OC_CLK_FIO_FAIL; TWIN_ALIVE stays low
(15 R339). -/
def slowHoldKept (s : State) : State := setTq 3 (record 1 OC_CLK_FIO_FAIL [] s)

/-- FIO_RATIO from a window of 1,000 FIO cycles that held `count` XA cycles within the band (16 Tables 16.5, 16.8): FIO cycles per 1,000 us of
XA. -/
def ratioTaken (count : Nat) (s : State) : State :=
  if s.clk.fio.good ∧ 240 ≤ count ∧ count ≤ 260 then { s with clk := { s.clk with fioRatio := u32 (25000000 / count) } } else s

/-- CLOCK_JUDGE_WINDOW: a judging window of a source ends with this count (16 R370, R373, Table 16.7). -/
def judgeWindow (k : ClockSource) (count : Nat) (s : State) : State :=
  let (win, band, n, limit) := judging s k
  let s := elapse win s
  let s := if k = .xa then ratioTaken count s else s
  let c := srcOf s k
  if c.good then s
  else if band.1 ≤ count ∧ count ≤ band.2 then
    if c.passes + 1 < n then setSrc k { c with passes := c.passes + 1 } s
    else
      let s := setSrc k { good := true, passes := n, since := c.since, failed := false } s
      match k with
      | .fio =>
        let s := { s with clk := { s.clk with keeperSio := false } }
        if s.glob.state = .slowHold then resumeClocks true s else s
      | .xa => if s.glob.state = .slowHold then resumeClocks false s else s
      | .xb => { s with clk := { s.clk with aonSio := false } }
      | .refclk =>
        let s := { s with clk := { s.clk with pllLock := s.clk.pllLock ||| 0b0100#4, refclkAt := none }, mbox := { s.mbox with linkUp := s.mbox.attached } }
        forEach (s.trav.handlings.filter (fun h => h.code == OC_CLK_REFCLK)) (fun h t => handlingEnd h.id t) s
  else
    let due := decide (c.since + limit ≤ s.mono)
    let s := setSrc k { c with passes := 0, failed := c.failed || due, since := if due && !c.failed then s.mono else c.since } s
    if k = .fio ∧ s.glob.state = .slowHold ∧ (c.failed || due) ∧ s.glob.tq ≠ 3 then slowHoldKept s else s

/-- CLOCK_SOURCE_RETRY: a source is retried 100 ms after it failed (16 R370). -/
def sourceRetry (k : ClockSource) (s : State) : State :=
  if (srcOf s k).failed then
    let s := elapseTo ((srcOf s k).since + 100000000) s
    setSrc k { good := false, passes := 0, since := s.mono, failed := false } s
  else s

/-- FIO_TRIP (16 R373). -/
def fioTrip (s : State) : State :=
  let s := srcTrip .fio s
  record 1 OC_CLK_FIO_FAIL [] { s with clk := { s.clk with keeperSio := true } }

/-- XB_TRIP (16 R373). -/
def xbTrip (s : State) : State :=
  let s := srcTrip .xb s
  record 1 OC_CLK_XB_FAIL [] { s with clk := { s.clk with aonSio := true } }

/-- REFCLK_TRIP on the clock side (16 R373): the SerDes ports go down and the C3 handling starts; the PCIe side is the
link-down of 17 R380. -/
def refclkTripClocks (s : State) : State :=
  let s := srcTrip .refclk s
  let s := { s with clk := { s.clk with pllLock := s.clk.pllLock &&& 0b1011#4, refclkAt := some s.mono },
                    panel := { s.panel with links := 0 },
                    twin := { s.twin with link := { s.twin.link with lanes := 0 } } }
  containError 3 (.block 1) OC_CLK_REFCLK [] s

/-- REFCLK_YIELD_TIMEOUT (16 R373): TWIN_ALIVE goes low so that a partner takes over. -/
def refclkYield (s : State) : State :=
  match s.clk.refclkAt with
  | some t => aliveLow (elapseTo (t + cadNum s 0x0915 0 * 1000000) s)
  | none => s

/-- The fast domains stop with their state retained: the clocks, DRAM in self-refresh, time quality TQ2 (16 Table 16.7 step 2). -/
def fastStop (s : State) : State :=
  let s := { s with trav := { s.trav with stopped := true },
                    bench := { s.bench with running := false },
                    ecc := { s.ecc with scrubPaused := s.ecc.scrubbing },
                    clk := { s.clk with pllLock := s.clk.pllLock &&& 0b0100#4, keeperSio := true, holdAt := some s.mono },
                    ptp := { s.ptp with locked := false, good := 0 } }
  if s.glob.tq ≤ 1 then setTq 2 s else s

/-- XA_TRIP (16 Table 16.7): SLOW_HOLD; with FIO judged the fast domains resume from FIO at once. LAST_GASP takes precedence: its sequence goes
on with the fast domains on FIO (01 R26, 16 R374). In RESET, HALTED and SLOW_HOLD no fast domain runs (01 Table 1.10). -/
def xaTrip (s : State) : State :=
  let s := record 1 OC_CLK_XA_TRIP [] (srcTrip .xa s)
  match s.glob.state with
  | .reset => s
  | .halted => s
  | .slowHold => s
  | .lastGasp => fastRestart true (fastStop s)
  | d =>
    let s := fastStop { s with clk := { s.clk with slowHolds := s.clk.slowHolds + 1, heldState := d } }
    let s := setDevState .slowHold s
    if s.clk.fio.good then resumeClocks true s
    else { s with clk := { s.clk with fio := { s.clk.fio with passes := 0, since := s.mono, failed := false } } }

/-- PLL_UNLOCK: a PLL loses lock while its reference is judged good, a C4 fault (16 R372). -/
def pllUnlock (p : Pll) (s : State) : State :=
  let n := match p with
    | .cpll => 0
    | .mpll => 1
    | .spll => 2
    | .tpll => 3
  let good := match p with
    | .spll => s.clk.refclk.good
    | _ => if s.clk.onFio then s.clk.fio.good else s.clk.xa.good
  let s := { s with clk := { s.clk with pllLock := s.clk.pllLock &&& ~~~(1#4 <<< n) } }
  if good then c4Fault 1 OC_PLL_UNLOCK [u32 n] s else s

/-- XA_RESTORE at an epoch boundary once XA is judged good again (16 Table 16.7 step 5). -/
def xaRestore (s : State) : State :=
  if s.clk.onFio && s.clk.xa.good && s.glob.state != .slowHold then
    { s with clk := { s.clk with onFio := false },
             bench := { s.bench with incr := incrOf s.bench.incrInt s.bench.incrFrac, incrNext := none } }
  else s

end Sys2Proof.Machine
end

