-- ==== Sys2Proof/Machine/Calendar.lean ====
section
/-! DEFINITION. Calendars as functions of time: image fields and checks, civil dates, tariffs, demand boundaries and period
closes (06 R138 to R144). -/

namespace Sys2Proof.Machine

/-! ### Civil dates -/

/-- Days since 1970-01-01 of a civil date. -/
def daysOf (y : Int) (m d : Nat) : Int :=
  let y := if m ≤ 2 then y - 1 else y
  let era := y / 400
  let yoe := y - era * 400
  let mp : Int := (m + 9) % 12
  let doy := (153 * mp + 2) / 5 + d - 1
  let doe := yoe * 365 + yoe / 4 - yoe / 100 + doy
  era * 146097 + doe - 719468

/-- The civil date of a day number: year, month, day. -/
def civilOf (z : Int) : Int × Nat × Nat :=
  let z := z + 719468
  let era := z / 146097
  let doe := z - era * 146097
  let yoe := (doe - doe / 1460 + doe / 36524 - doe / 146096) / 365
  let doy := doe - (365 * yoe + yoe / 4 - yoe / 100)
  let mp := (5 * doy + 2) / 153
  let d := (doy - (153 * mp + 2) / 5 + 1).toNat
  let m := (if mp < 10 then mp + 3 else mp - 9).toNat
  let y := yoe + era * 400
  (if m ≤ 2 then y + 1 else y, m, d)

/-- Weekday of a day number, 1 Monday to 7 Sunday (06 R138). -/
def weekdayOf (z : Int) : Nat := ((z + 3) % 7).toNat + 1

/-- Is a year a leap year? -/
def leapYear (y : Nat) : Bool := decide ((y % 4 = 0 ∧ y % 100 ≠ 0) ∨ y % 400 = 0)

/-- Days in a month; in a leap year or not. -/
def monthDays (leap : Bool) (m : Nat) : Nat := match m with
  | 2 => if leap then 29 else 28
  | 4 => 30
  | 6 => 30
  | 9 => 30
  | 11 => 30
  | _ => 31

/-! ### Image fields (06 Tables 6.1 to 6.5) -/

/-- Byte of a calendar image. -/
def calU8 (c : List Nat) (i : Nat) : Nat := c.getD i 0
/-- Little-endian u16 of a calendar image. -/
def calU16 (c : List Nat) (i : Nat) : Nat := c.getD i 0 + 256 * c.getD (i + 1) 0
/-- i16 of a calendar image. -/
def calI16 (c : List Nat) (i : Nat) : Int := if calU16 c i < 32768 then calU16 c i else calU16 c i - 65536
/-- CAL_ID -/
def calId (c : List Nat) : Nat := calU8 c 0
/-- DEFAULT_TARIFF -/
def calDefault (c : List Nat) : Nat := calU8 c 1
/-- DEMAND_MIN, D in minutes -/
def calD (c : List Nat) : Nat := calU8 c 2
/-- GRACE_S, G in seconds -/
def calG (c : List Nat) : Nat := calU8 c 3
/-- VERSION -/
def calVersion (c : List Nat) : Nat := calU16 c 4
/-- SEASONS -/
def calSeasons (c : List Nat) : Nat := calU8 c 6
/-- WEEKS -/
def calWeeks (c : List Nat) : Nat := calU8 c 7
/-- DAYS -/
def calDays (c : List Nat) : Nat := calU8 c 8
/-- SPECIALS -/
def calSpecials (c : List Nat) : Nat := calU8 c 9
/-- BILL_DAY -/
def calBillDay (c : List Nat) : Nat := calU8 c 10
/-- BILL_MINUTE -/
def calBillMin (c : List Nat) : Nat := calU16 c 12
/-- STD_OFFSET_MIN -/
def calStd (c : List Nat) : Int := calI16 c 16
/-- DST_DELTA_MIN -/
def calDelta (c : List Nat) : Nat := calU8 c 18
/-- Offset of season entry `k`. -/
def calSeasonAt (k : Nat) : Nat := 32 + 8 * k
/-- Offset of week entry `k`. -/
def calWeekAt (c : List Nat) (k : Nat) : Nat := 32 + 8 * calSeasons c + 8 * k
/-- Offset of day profile `k`. -/
def calDayAt (c : List Nat) (k : Nat) : Nat := 32 + 8 * calSeasons c + 8 * calWeeks c + 52 * k
/-- Offset of special-day entry `k`. -/
def calSpecialAt (c : List Nat) (k : Nat) : Nat := 32 + 8 * calSeasons c + 8 * calWeeks c + 52 * calDays c + 8 * k
/-- Length by 06 R138. -/
def calLength (c : List Nat) : Nat := calSpecialAt c (calSpecials c)

/-- Are bytes `i` to `i + n - 1` zero? -/
def calZero (c : List Nat) (i n : Nat) : Bool := (List.range n).all (fun k => calU8 c (i + k) == 0)

/-- Are the reserved bytes zero (06 R138)? -/
def calReservedOk (c : List Nat) : Bool :=
  calZero c 11 1 && calZero c 14 2 && calZero c 19 1 && calZero c 23 1 && calZero c 29 1 &&
  (List.range (calSeasons c)).all (fun k => calZero c (calSeasonAt k + 3) 5) &&
  (List.range (calWeeks c)).all (fun k => calZero c (calWeekAt c k + 7) 1) &&
  (List.range (calDays c)).all (fun k => calZero c (calDayAt c k + 1) 3 &&
    (List.range 12).all (fun j => calZero c (calDayAt c k + 7 + 4 * j) 1)) &&
  (List.range (calSpecials c)).all (fun k => calZero c (calSpecialAt c k + 5) 3)

/-- Every field in its range (06 R139, first rule). -/
def calRanges (c : List Nat) : Bool :=
  let rng (v lo hi : Nat) : Bool := decide (lo ≤ v ∧ v ≤ hi)
  let dst (i : Nat) : Bool := rng (calU8 c i) 1 12 && rng (calU8 c (i + 1)) 1 5 && rng (calU8 c (i + 2)) 1 7 && rng (calU16 c (i + 4)) 0 1439
  rng (calId c) 0 31 && rng (calDefault c) 1 8 && [5, 10, 15, 30, 60].contains (calD c) && rng (calG c) 0 240 &&
  rng (calSeasons c) 1 8 && rng (calWeeks c) 1 8 && rng (calDays c) 1 16 && rng (calSpecials c) 0 64 &&
  (rng (calBillDay c) 0 28 || calBillDay c == 255) && rng (calBillMin c) 0 1439 &&
  decide (-720 ≤ calStd c ∧ calStd c ≤ 840 ∧ calStd c % 15 = 0) && rng (calDelta c) 0 120 && rng (calU8 c 20) 0 12 &&
  (calU8 c 20 == 0 || (dst 20 && dst 26)) &&
  (List.range (calSeasons c)).all (fun k => rng (calU8 c (calSeasonAt k)) 1 12 && rng (calU8 c (calSeasonAt k + 1)) 1 31 &&
    decide (calU8 c (calSeasonAt k + 2) < calWeeks c)) &&
  (List.range (calWeeks c)).all (fun k => (List.range 7).all (fun j => decide (calU8 c (calWeekAt c k + j) < calDays c))) &&
  (List.range (calDays c)).all (fun k => rng (calU8 c (calDayAt c k)) 1 12 &&
    (List.range 12).all (fun j => if j < calU8 c (calDayAt c k) then rng (calU8 c (calDayAt c k + 6 + 4 * j)) 1 8
      else calZero c (calDayAt c k + 4 + 4 * j) 4)) &&
  (List.range (calSpecials c)).all (fun k =>
    let y := calU16 c (calSpecialAt c k)
    (y == 0 || rng y 2000 2199) && rng (calU8 c (calSpecialAt c k + 2)) 1 12 && rng (calU8 c (calSpecialAt c k + 3)) 1 31 &&
    decide (calU8 c (calSpecialAt c k + 4) < calDays c))

/-- Are numbers strictly ascending? -/
def ascending : List Nat → Bool
  | [] => true
  | [_] => true
  | a :: b :: l => decide (a < b) && ascending (b :: l)

/-- The cross-field rules of 06 R139, after the first. -/
def calCross (c : List Nat) : Bool :=
  let d := calD c
  let seasons := (List.range (calSeasons c)).map (fun k => (calU8 c (calSeasonAt k), calU8 c (calSeasonAt k + 1)))
  let specials := (List.range (calSpecials c)).map (fun k =>
    (calU16 c (calSpecialAt c k), calU8 c (calSpecialAt c k + 2), calU8 c (calSpecialAt c k + 3)))
  seasons.all (fun s => decide (s.2 ≤ monthDays false s.1)) && ascending (seasons.map (fun s => 32 * s.1 + s.2)) &&
  (List.range (calDays c)).all (fun k =>
    let mins := (List.range (calU8 c (calDayAt c k))).map (fun j => calU16 c (calDayAt c k + 4 + 4 * j))
    decide (mins.head? = some 0) && ascending mins && mins.all (fun m => decide (m < 1440 ∧ m % d = 0))) &&
  decide (calBillMin c % d = 0) &&
  (if calU8 c 20 = 0 then decide (calDelta c = 0) else decide (calDelta c ≠ 0 ∧ calDelta c % d = 0)) &&
  (calU8 c 20 != 0 || calZero c 21 11) &&
  distinctNats (specials.map (fun s => s.1 * 1024 + s.2.1 * 32 + s.2.2)) &&
  specials.all (fun s => decide (s.2.2 ≤ monthDays (if s.1 = 0 then true else leapYear s.1) s.2.1))

/-- What a calendar image breaks: 0 nothing, 1 its length or a range, 2 a reserved byte, 3 a cross-field rule (06 R139). -/
def calFault (c : List Nat) : Nat :=
  if c.length < 32 ∨ c.length ≠ calLength c then 1
  else if !calReservedOk c then 2
  else if !calRanges c then 1
  else if !calCross c then 3
  else 0

/-- Calendar 0 where CALENDARS is absent (06 R142). -/
def calZeroImage : List Nat :=
  [0, 1, 15, 120, 0, 0, 1, 1, 1, 0, 1, 0, 0, 0, 0, 0, 0, 0, 0, 0, 0, 0, 0, 0, 0, 0, 0, 0, 0, 0, 0, 0] ++
  [1, 1, 0, 0, 0, 0, 0, 0] ++ [0, 0, 0, 0, 0, 0, 0, 0] ++ [1, 0, 0, 0, 0, 0, 1] ++ List.replicate 45 0

/-! ### Local time (06 R140) -/

/-- The UTC offset table. -/
abbrev UtcTab := List (Nat × Int)

/-- UTC seconds of device time `t`. -/
def utcSec (u : UtcTab) (t : Nat) : Int := (t : Int) / 1000000000 - utcAt u t

/-- The latest device time at most `lim` whose UTC is the whole second `b`. -/
def devOfUtc (u : UtcTab) (b : Int) (lim : Nat) : Option Nat :=
  let c := u.filterMap (fun e =>
    let x := (b + e.2) * 1000000000
    if 0 ≤ x ∧ x.toNat ≤ lim ∧ utcAt u x.toNat = e.2 then some x.toNat else none)
  c.foldl (fun acc x => some (max x (acc.getD 0))) none

/-- The earliest device time above `lim` whose UTC is the whole second `b`. -/
def devOfUtcAfter (u : UtcTab) (b : Int) (lim : Nat) : Option Nat :=
  let c := u.filterMap (fun e =>
    let x := (b + e.2) * 1000000000
    if 0 ≤ x ∧ lim < x.toNat ∧ utcAt u x.toNat = e.2 then some x.toNat else none)
  c.foldl (fun acc x => some (match acc with
    | some y => min x y
    | none => x)) none

/-- The first device time after 0 at which UTC reaches the whole second `b`, if it ever does: the instant of that second, or the change of
offset that skips it (06 R141). -/
def firstReach (u : UtcTab) (b : Int) : Option Nat :=
  let c := (devOfUtcAfter u b 0).toList ++
    (u.filter (fun e => decide (0 < e.1 ∧ b ≤ utcSec u e.1 ∧ utcSec u (e.1 - 1) < b))).map (·.1)
  match c with
  | [] => none
  | x :: l => some (l.foldl min x)

/-- Local second (standard or daylight, as the rule says) at which a daylight rule's instant falls in a year; `i` is the offset
of the rule in the image. -/
def dstRule (c : List Nat) (i : Nat) (y : Int) : Int :=
  let m := calU8 c i
  let wk := calU8 c (i + 1)
  let wd := calU8 c (i + 2)
  let first := daysOf y m 1
  let last := daysOf (if m = 12 then y + 1 else y) (if m = 12 then 1 else m + 1) 1 - 1
  let day := if wk < 5 then first + (((wd : Int) - weekdayOf first) % 7) + 7 * ((wk : Int) - 1)
    else last - ((weekdayOf last : Int) - wd) % 7
  day * 86400 + 60 * (calU16 c (i + 4) : Int)

/-- UTC seconds at which daylight saving begins in a year. -/
def dstStart (c : List Nat) (y : Int) : Int := dstRule c 20 y - 60 * calStd c

/-- UTC seconds at which daylight saving ends in a year. -/
def dstEnd (c : List Nat) (y : Int) : Int := dstRule c 26 y - 60 * (calStd c + calDelta c)

/-- A number put into an ascending list without repeats. -/
def insNat (n : Nat) : List Nat → List Nat
  | [] => [n]
  | x :: xs => if n < x then n :: x :: xs else if n = x then x :: xs else x :: insNat n xs

/-- Numbers ascending, without repeats. -/
def sortNats (l : List Nat) : List Nat := l.foldl (fun acc n => insNat n acc) []

/-- Is daylight saving in force at UTC second `s` (06 R140)? -/
def dstAt (c : List Nat) (s : Int) : Bool :=
  if calU8 c 20 = 0 then false
  else
    let y := (civilOf ((s + 60 * calStd c) / 86400)).1
    [y - 1, y, y + 1].any (fun y =>
      let e := if calU8 c 26 < calU8 c 20 then dstEnd c (y + 1) else dstEnd c y
      decide (dstStart c y ≤ s ∧ s < e))

/-- Local civil seconds at UTC second `s` (06 R140). -/
def localSec (c : List Nat) (s : Int) : Int := s + 60 * (calStd c + (if dstAt c s then calDelta c else 0))

/-- Day profile of a local day number (06 R140). -/
def dayProfile (c : List Nat) (day : Int) : Nat :=
  let (y, m, d) := civilOf day
  let sp (yy : Nat) : Option Nat := (List.range (calSpecials c)).find? (fun k =>
    calU16 c (calSpecialAt c k) == yy && calU8 c (calSpecialAt c k + 2) == m && calU8 c (calSpecialAt c k + 3) == d)
  let hit := match (if 0 < y then sp y.toNat else none) with
    | some k => some k
    | none => sp 0
  match hit with
  | some k => calU8 c (calSpecialAt c k + 4)
  | none =>
    let n := calSeasons c
    let started := (List.range n).filter (fun k =>
      decide (32 * calU8 c (calSeasonAt k) + calU8 c (calSeasonAt k + 1) ≤ 32 * m + d))
    let k := started.getLastD (n - 1)
    calU8 c (calWeekAt c (calU8 c (calSeasonAt k + 2)) + weekdayOf day - 1)

/-- The tariff of device time `t` under an image (06 R140). -/
def tariffAt (u : UtcTab) (c : List Nat) (t : Nat) : Nat :=
  let l := localSec c (utcSec u t)
  let o := calDayAt c (dayProfile c (l / 86400))
  let minute := ((l % 86400) / 60).toNat
  let k := ((List.range (calU8 c o)).filter (fun k => decide (calU16 c (o + 4 + 4 * k) ≤ minute))).getLastD 0
  calU8 c (o + 6 + 4 * k)

/-! ### Demand boundaries and period closes (06 R141) -/

/-- Seconds past the last demand boundary of the grid at UTC second `s` (every shift is on the grid, 06 R139). -/
def gridOff (c : List Nat) (s : Int) : Int := localSec c s % (60 * max 1 (calD c) : Nat)

/-- The latest demand boundary at or before `t` (0 where there is none). -/
def boundaryAt (u : UtcTab) (c : List Nat) (t : Nat) : Nat :=
  let s := utcSec u t
  let step : Int := 60 * calD c
  let b := s - gridOff c s
  ([b + step, b, b - step, b - 2 * step].filterMap (fun x => devOfUtc u x t)).foldl max 0

/-- The first demand boundary after `t` (`t` itself where there is none). -/
def boundaryAfter (u : UtcTab) (c : List Nat) (t : Nat) : Nat :=
  let s := utcSec u t
  let step : Int := 60 * calD c
  let b := s - gridOff c s
  match [b, b + step, b + 2 * step].filterMap (fun x => devOfUtcAfter u x t) with
  | [] => t
  | x :: l => l.foldl min x

/-- Is `t` a demand boundary (06 R141)? -/
def isBoundary (u : UtcTab) (c : List Nat) (t : Nat) : Bool :=
  decide (t % 1000000000 = 0) && decide (gridOff c (utcSec u t) = 0)

/-- UTC second of the period close of a local day: the first at which local time reaches BILL_MINUTE on it; where a shift to daylight saving
skips that minute, the first after the gap, whose shift may belong to the year beside the day's (06 R141). -/
def closeSec (c : List Nat) (day : Int) : Int :=
  let l := day * 86400 + 60 * (calBillMin c : Int)
  let a := l - 60 * (calStd c + calDelta c)
  let b := l - 60 * calStd c
  if dstAt c a then a
  else if !dstAt c b then b
  else
    let y := (civilOf day).1
    (([y - 1, y, y + 1].map (dstStart c)).find? (fun g => decide (a < g ∧ g ≤ b))).getD b

/-- Does a local day close a billing period (06 R141)? -/
def closesOn (c : List Nat) (day : Int) : Bool :=
  if calBillDay c = 0 then true
  else if calBillDay c = 255 then false
  else (civilOf day).2.2 == calBillDay c

/-- Period-close instants in (lo, hi], ascending. -/
def closesIn (u : UtcTab) (c : List Nat) (lo hi : Nat) : List Nat :=
  if hi ≤ lo ∨ calBillDay c = 255 then []
  else
    let d0 := localSec c (utcSec u lo) / 86400 - 1
    let n := (localSec c (utcSec u hi) / 86400 - d0).toNat + 2
    ((List.range n).map (fun (k : Nat) => d0 + (k : Int))).filterMap (fun day =>
      if closesOn c day then
        match firstReach u (closeSec c day) with
        | some t => if lo < t ∧ t ≤ hi then some t else none
        | none => none
      else none)

/-! ### Versions (06 R144) -/

/-- The image a lookup for instant `t` uses (06 R144). -/
def imageAt (k : CalSlot) (t : Nat) : List Nat :=
  match k.current, k.previous with
  | some c, some p => if c.activation ≤ t then c.image else p.image
  | some c, none => c.image
  | none, _ => []

/-- The versions of a calendar. -/
def imagesOf (k : CalSlot) : List (List Nat) :=
  (match k.current with
    | some c => [c.image]
    | none => []) ++ (match k.previous with
    | some p => [p.image]
    | none => [])

/-- The version in force before an instant (06 R152). -/
def imageBefore (k : CalSlot) (e : Nat) : List Nat := imageAt k (e - 1)

/-- Period closes in (lo, hi] of a calendar through its versions. -/
def calCloses (u : UtcTab) (k : CalSlot) (lo hi : Nat) : List Nat :=
  let all := (imagesOf k).flatMap (fun c => (closesIn u c lo hi).filter (fun e => imageBefore k e == c))
  sortNats all

/-- The latest demand boundary e with e + G at or before billing time `bt`, G of the version in force before e (06 R150). -/
def dueBoundary (u : UtcTab) (k : CalSlot) (bt : Nat) : Nat :=
  match k.current, k.previous with
  | some c, some p =>
    let e := boundaryAt u c.image (bt - calG c.image * 1000000000)
    if c.activation < e then e else boundaryAt u p.image (min c.activation (bt - calG p.image * 1000000000))
  | some c, none => boundaryAt u c.image (bt - calG c.image * 1000000000)
  | none, _ => 0

/-- Offsets of local time from UTC that an image uses, in seconds: standard and daylight time. -/
def localOffsets (c : List Nat) : List Int :=
  if calDelta c = 0 then [60 * calStd c] else [60 * calStd c, 60 * (calStd c + calDelta c)]

/-- The instants strictly between `a` and `b` at which local civil time under an image is a multiple of `iv` seconds, in standard and in
daylight time (05 R132). -/
def civilMultiples (u : UtcTab) (c : List Nat) (a b iv : Nat) : List Nat :=
  if iv = 0 ∨ b ≤ a then []
  else sortNats (
    let s0 := utcSec u a
    let n := ((utcSec u b - s0).toNat / iv) + 2
    (localOffsets c).flatMap (fun o =>
      let base := s0 - (s0 + o) % (iv : Int)
      (List.range (n + 1)).flatMap (fun (j : Nat) =>
        let g := base + (j : Int) * iv
        (u.map (fun e => (g + e.2) * 1000000000)).filterMap (fun x =>
          if (a : Int) < x ∧ x < b ∧ utcSec u x.toNat = g ∧ localSec c g = g + o then some x.toNat else none))))

end Sys2Proof.Machine
end

