-- ==== Sys2Proof/Machine/Normalise.lean ====
section
/-! DEFINITION. Reading profiles, normalisation of a payload into reading records, and validation (chapter 05). -/

namespace Sys2Proof.Machine

/-! ### Profiles (05 Tables 5.5, 5.6) -/

/-- A channel definition (05 Table 5.6). -/
structure ChanDef where
  codeKind : Nat
  kind : Nat
  code : List Nat
  nunit : Nat
  estimate : Bool
  target : Nat
  pos : Nat
  intervalS : Nat
  modulus : Nat
  rangeMin : Int
  rangeMax : Int
  spike : Nat
  gapS : Nat
  flatCount : Nat
  unit : Nat
  scaler : Int
  flatMinS : Nat
deriving DecidableEq, Repr, Inhabited

/-- A reading profile (05 Table 5.5). -/
structure Profile where
  number : Nat
  invert : Bool
  clockDevMs : Nat
  errorMask : Nat
  clockEl : Nat
  rowsEl : Nat
  rowClock : Nat
  statusEl : Nat
  channels : List ChanDef
deriving DecidableEq, Repr, Inhabited

/-- Numbers of one channel definition in a profile's row. -/
def chanLen : Nat := 24

/-- Numbers of a profile's header in its row. -/
def profileHead : Nat := 10

/-- A channel definition read from its numbers. -/
def chanOf (r : List Int) : ChanDef :=
  let n (i : Nat) : Nat := (r.getD i 0).toNat
  { codeKind := n 0, kind := n 1, code := (List.range 6).map (fun i => n (2 + i)), nunit := n 8, estimate := (n 9).testBit 0,
    target := n 10, pos := n 11, intervalS := n 12, modulus := n 13, rangeMin := r.getD 14 0, rangeMax := r.getD 15 0,
    spike := n 16, gapS := n 17, flatCount := n 18, unit := n 19, scaler := r.getD 20 0, flatMinS := n 22 }

/-- A profile read from its numbers: PROFILE, CHANNELS, FLAGS, CLOCK_DEV_MS, EP_ERROR_MASK, the four DLMS elements, the reserved bytes, then the
channels. -/
def profileOf (r : List Int) : Profile :=
  let n (i : Nat) : Nat := (r.getD i 0).toNat
  { number := n 0, invert := (n 2).testBit 0, clockDevMs := n 3, errorMask := n 4, clockEl := n 5, rowsEl := n 6, rowClock := n 7,
    statusEl := n 8, channels := (List.range (n 1)).map (fun k => chanOf ((r.drop (profileHead + chanLen * k)).take chanLen)) }

/-- The profile of a number in a set. -/
def profileIn (set : List (List Int)) (p : Nat) : Option Profile :=
  (set.find? (fun r => r.getD 0 (-1) == (p : Int))).map profileOf

/-- DEF_TAG of a definition (05 R121): the first two bytes of SHA-256 over CODE_KIND, KIND, CODE and NUNIT. -/
def defTag (codeKind kind : Nat) (code : List Nat) (nunit : Nat) : Nat :=
  leNat ((hashBytes (fixed 1 [codeKind] ++ fixed 1 [kind] ++ fixed 6 code ++ fixed 1 [nunit])).take 2)

/-! ### QUALITY (05 Table 5.2) -/

/-- Set QUALITY bit `k` of a record. -/
def setQ (k : Nat) (r : Rec) : Rec := { r with quality := r.quality ||| 2 ^ k }

/-- Is QUALITY bit `k` set? -/
def hasQ (k : Nat) (r : Rec) : Bool := r.quality.testBit k

/-- An edit: EDIT_REASON keeps the highest code, and EDITED is set (05 R116). -/
def edit (reason : Nat) (r : Rec) : Rec := setQ 8 { r with editReason := max r.editReason reason }

/-! ### Units and scaling (05 R125, R126) -/

/-- Division rounded to nearest, ties away from zero (05 R126). -/
def roundDiv (n : Int) (d : Nat) : Int :=
  let q := (2 * n.natAbs + d) / (2 * max 1 d)
  if n < 0 then -(q : Int) else q

/-- DLMS unit: NUNIT and shift (05 Table 5.8). -/
def dlmsUnit : Nat → Option (Nat × Int)
  | 30 => some (1, 3) | 32 => some (2, 3) | 31 => some (3, 3) | 13 => some (4, 6) | 27 => some (5, 3) | 29 => some (6, 3)
  | 28 => some (7, 3) | 35 => some (8, 3) | 33 => some (9, 3) | 44 => some (10, 3) | 9 => some (11, 3) | 15 => some (12, 6)
  | 255 => some (13, 0) | 7 => some (14, 0)
  | _ => none

/-- M-Bus value information (05 Tables 5.7, 5.9): the two code bytes, NUNIT, exponent, and whether it is in joules. -/
def mbusInfo (vif : Nat) (vife : Option Nat) : Option (Nat × Nat × Nat × Int × Bool) :=
  let v := vif % 128
  let x := (vife.getD 0) % 128
  if v = 0x7D then
    if x / 16 = 4 then some (0x7D, 0x40, 8, (x % 16 : Nat) - 6, false)
    else if x / 16 = 5 then some (0x7D, 0x50, 9, (x % 16 : Nat) - 9, false)
    else none
  else if v / 8 = 0 then some (0x00, x, 1, (v % 8 : Nat), false)
  else if v / 8 = 1 then some (0x08, x, 1, (v % 8 : Nat), true)
  else if v / 8 = 2 then some (0x10, x, 4, (v % 8 : Nat), false)
  else if v / 8 = 5 then some (0x28, x, 5, (v % 8 : Nat), false)
  else if v / 8 = 7 then some (0x38, x, 12, (v % 8 : Nat), false)
  else if v / 4 = 0x16 then some (0x58, x, 11, (v % 4 : Nat), false)
  else if v / 4 = 0x17 then some (0x5C, x, 11, (v % 4 : Nat), false)
  else if v / 4 = 0x18 then some (0x60, x, 11, (v % 4 : Nat), false)
  else none

/-- Limits of i64. -/
def i64Max : Int := 9223372036854775807
/-- Least i64. -/
def i64Min : Int := -9223372036854775808

/-- DELTA as an i64 (05 Table 5.1). -/
def deltaOf (x : Int) : Int := if i64Min ≤ x ∧ x ≤ i64Max then x else (Config.deltaOut x).toInt

/-- EXPONENT as an i8 (05 Table 5.1). -/
def exponentOf (e : Int) : Int := if -128 ≤ e ∧ e ≤ 127 then e else (Config.exponentOut e).toInt

/-- VALUE := raw x 10^e, rounded or saturated as needed (05 R126). -/
def scaleValue (raw e : Int) (joule : Bool) (r : Rec) : Rec :=
  let num := raw * (if 0 ≤ e then 10 ^ e.toNat else 1) * (if joule then 10 else 1)
  let den := (if e < 0 then 10 ^ (-e).toNat else 1) * (if joule then 36 else 1)
  let v := roundDiv num den
  let r := { r with exponent := exponentOf e }
  let r := if v * den ≠ num then edit 3 r else r
  if i64Max < v then edit 4 (setQ 0 { r with value := i64Max })
  else if v < i64Min then edit 4 (setQ 0 { r with value := i64Min })
  else { r with value := v }

/-! ### Mapping (05 R122 to R124, R127, R128) -/

/-- How endpoint clocks become device time: the conversion of 05 R127, by DEVIATION_INVERT and clock. -/
abbrev ClockConv := Bool → EpClock → Option Nat

/-- The device time of a clock that is present and usable. -/
def usable (conv : ClockConv) (inv : Bool) : Option EpClock → Option Nat
  | some c => conv inv c
  | none => none

/-- The element at an index, absent for 0xFF. -/
def elemAt (l : List DElem) (i : Nat) : Option DElem := if i = 0xFF then none else l[i]?

/-- The clock of an element. -/
def elemClock : Option DElem → Option EpClock
  | some (.item (.clock c)) => some c
  | _ => none

/-- The raw integer of a DLMS item: the four integer types, signed and unsigned, enum, and boolean as 0 or 1 (05 R126). -/
def dlmsRaw : DScalar → Option Int
  | .integer v => some v.toInt
  | .long v => some v.toInt
  | .doubleLong v => some v.toInt
  | .long64 v => some v.toInt
  | .unsigned v => some v.toNat
  | .longUnsigned v => some v.toNat
  | .doubleLongUnsigned v => some v.toNat
  | .long64Unsigned v => some v.toNat
  | .enum v => some v.toNat
  | .boolean v => some v.toNat
  | .clock _ => none
  | .other => none

/-- A record of a DLMS item for channel `k`; `t` is its source time and `fromFrame` whether that came from the frame clock. -/
def dlmsRecord (k : Nat) (d : ChanDef) (v : DScalar) (base : Rec) : Rec :=
  let r := { base with code := d.code, codeKind := 1, channel := k, nunit := d.nunit, kind := d.kind }
  match dlmsRaw v, dlmsUnit d.unit with
  | some n, some (u, sh) => if u = d.nunit then scaleValue n (d.scaler + sh) false r else setQ 14 r
  | _, _ => setQ 14 r

/-- A mapped item: the record, its source time if usable, and whether that time is the frame clock. -/
abbrev Item := Rec × Option Nat × Bool

/-- Rows of the array at DLMS_ROWS_ELEMENT; absent where it is no array of structures (05 R122). -/
def rowsOf (p : Profile) (body : List DElem) : Option (List (List DScalar)) :=
  match elemAt body p.rowsEl with
  | some (.rows rs) => rs.foldr (fun r acc => match r, acc with
    | some x, some l => some (x :: l)
    | _, _ => none) (some [])
  | _ => none

/-- Items of one DLMS channel; absent where the payload is not as the profile declares (05 R122, R127). -/
def dlmsItems (conv : ClockConv) (p : Profile) (frame : Option Nat) (body : List DElem) (k : Nat) (d : ChanDef) (base : Rec) :
    Option (List Item) :=
  if d.codeKind ≠ 1 ∨ d.pos = 0xFF then some []
  else if d.pos < 128 then
    match body[d.pos]? with
    | some (.item v) => some [(dlmsRecord k d v base, frame, true)]
    | some (.rows _) => some [(dlmsRecord k d .other base, frame, true)]
    | none => none
  else match rowsOf p body with
    | none => none
    | some rs => rs.foldr (fun (row : List DScalar) (acc : Option (List Item)) => match row[d.pos - 128]?, acc with
      | some v, some l =>
        let t := if p.rowClock = 0xFF then (frame, true)
          else match row[p.rowClock]? with
            | some (.clock c) => (conv p.invert c, false)
            | _ => (none, false)
        some ((dlmsRecord k d v base, t.1, t.2) :: l)
      | _, _ => none) (some [])

/-- The time that M-Bus data hold: a type G date is taken as 00:00 (05 R127). -/
def mbusClock : MbusData → Option EpClock
  | .clock c => some c
  | .date y m d bad => some { year := y, month := m, day := d, hour := some 0, minute := some 0, invalid := bad }
  | _ => none

/-- What an M-Bus data field gives: a value, an undecodable one, or a field that is not supported (05 R118). -/
inductive MbusValue
  | value (v : Int)
  | bad
  | unsupported
deriving DecidableEq, Repr, Inhabited

/-- The signed number of little-endian bytes. -/
def leSigned (l : List U8) : Int :=
  let n := leNat l
  if 2 * n < 256 ^ l.length then n else (n : Int) - 256 ^ l.length

/-- The digits of a BCD field, most significant first. -/
def bcdDigits (l : List U8) : List Nat := l.reverse.flatMap (fun b => [b.toNat / 16, b.toNat % 16])

/-- The number that decimal digits spell. -/
def digitsNat (l : List Nat) : Nat := l.foldl (fun a d => 10 * a + d) 0

/-- Decode a data field (05 R118): integers of 8, 16, 24, 32, 48 and 64 bits, and BCD of 2, 4, 6, 8 and 12 digits, in which a most significant
nibble 0xF marks a negative value. Any other digit above 9 makes the field undecodable (log 108). -/
def mbusValue : MbusData → MbusValue
  | .int l => if [1, 2, 3, 4, 6, 8].contains l.length then .value (leSigned l) else .unsupported
  | .bcd l =>
    if !(([1, 2, 3, 4, 6] : List Nat).contains l.length) then .unsupported
    else
      let d := bcdDigits l
      let neg := d.headD 0 == 15
      let d := if neg then d.drop 1 else d
      if d.any (fun x => decide (9 < x)) then .bad
      else .value (if neg then -(digitsNat d : Int) else digitsNat d)
  | _ => .unsupported

/-- The time point of storage number `st` at a position of the frame, with that position. -/
def timePoint (st : Nat) (x : MbusRecord × Nat) : Option (Nat × EpClock) :=
  if x.1.storage = st then (mbusClock x.1.data).map (fun c => (x.2, c)) else none

/-- The first M-Bus time point of storage number 0, which is the frame clock (05 R128). -/
def mbusFrame (l : List MbusRecord) : Option (Nat × EpClock) := (l.zipIdx.filterMap (timePoint 0)).head?

/-- Time point for an M-Bus record at position `i` with storage number `st`: the last before it, else the first after it. -/
def mbusTime (l : List MbusRecord) (i st : Nat) : Option (Nat × EpClock) :=
  match ((l.zipIdx.take i).filterMap (timePoint st)).getLast? with
  | some c => some c
  | none => ((l.zipIdx.drop i).filterMap (timePoint st)).head?

/-- What an M-Bus record yields: nothing (time points, fill), an unmapped item, or a mapped one (05 R123, R125). -/
inductive MbusOut
  | skip
  | unmapped
  | mapped (i : Item)

/-- One M-Bus record (05 R123 to R127). -/
def mbusItem (conv : ClockConv) (p : Profile) (l : List MbusRecord) (i : Nat) (x : MbusRecord) (base : Rec) : MbusOut :=
  if x.data = .fill ∨ (mbusClock x.data).isSome then .skip
  else
    if 255 < x.storage ∨ 255 < x.tariff ∨ 255 < x.subunit then .unmapped
    else if 0 < x.storage ∧ (mbusTime l i x.storage).isNone then .unmapped
    else match mbusInfo x.vif x.vife with
      | none => .unmapped
      | some (c0, c1, u, e, j) =>
        let code := [c0, c1, x.function, x.storage, x.tariff, x.subunit]
        match p.channels.zipIdx.find? (fun d => d.1.codeKind == 2 && d.1.code == code) with
        | none => .unmapped
        | some (d, k) =>
          let r := { base with code := code, codeKind := 2, channel := k, nunit := d.nunit, kind := d.kind }
          let r := if u = d.nunit then r else setQ 14 r
          let r := match mbusValue x.data with
            | .value v => if u = d.nunit then scaleValue v e j r else r
            | .bad => setQ 0 r
            | .unsupported => setQ 14 r
          let c := mbusTime l i x.storage
          let fc := decide (c.map (·.1) = (mbusFrame l).map (·.1))
          .mapped (r, usable conv p.invert (c.map (·.2)), fc)

/-- Give a record its SOURCE_TIME (05 R127, R128): `dev` the CLOCK_DEV limit in ns where the check is made, `bad` whether the
frame clock is outside it. -/
def timeRecord (arrival : Nat) (dev : Option Nat) (bad : Bool) (x : Item) : Rec :=
  let (r, t, ff) := x
  let r := match t with
    | some u => { r with sourceTime := u }
    | none => edit 1 { r with sourceTime := arrival }
  match dev with
  | none => r
  | some lim =>
    let r := if bad then setQ 6 r else r
    if bad && ff && t.isSome then edit 2 { r with sourceTime := arrival }
    else if arrival + lim < r.sourceTime then edit 2 (setQ 6 { r with sourceTime := arrival })
    else r

/-- Insert a record in the order of 05 R124: channel, then source time, then position. -/
def recInsert (r : Rec) : List Rec → List Rec
  | [] => [r]
  | x :: xs => if r.channel < x.channel ∨ (r.channel = x.channel ∧ r.sourceTime < x.sourceTime) then r :: x :: xs
    else x :: recInsert r xs

/-- Records in the order of 05 R124, with RECORD_SEQ following it. -/
def recSort (l : List Rec) : List Rec := ((l.foldl (fun acc r => recInsert r acc) []).zipIdx).map (fun e => { e.1 with seq := e.2 })

/-- Is the distance of two instants above a limit? -/
def apart (a b lim : Nat) : Bool := decide (a + lim < b ∨ b + lim < a)

/-- Items of a payload with the frame clock and the count of unmapped items, or the code the frame ends with (05 R122 to
R124, R128). -/
def mapPayload (conv : ClockConv) (p : Profile) (pay : Payload) (base : Rec) : Except U16 (List Item × Option Nat × Nat × Nat) :=
  match pay with
  | .otherApdu => .error OC_APDU_UNSUPPORTED
  | .notification clk body => match body with
    | none => .error OC_APDU_FORMAT
    | some b =>
      let need := [p.clockEl, p.statusEl].filter (· ≠ 0xFF)
      if need.any (fun i => decide (b.length ≤ i)) then .error OC_APDU_FORMAT
      else
        let frame := (usable conv p.invert clk).orElse (fun _ => usable conv p.invert (elemClock (elemAt b p.clockEl)))
        let status := match elemAt b p.statusEl with
          | some (.item v) => (((dlmsRaw v).getD 0) % 256).toNat
          | _ => 0
        let base := { base with epStatus := status }
        let items := p.channels.zipIdx.foldr (fun d acc => match dlmsItems conv p frame b d.2 d.1 base, acc with
          | some x, some l => some (x ++ l)
          | _, _ => none) (some [])
        match items with
        | none => .error OC_APDU_FORMAT
        | some l => .ok (l, frame, 0, status)
  | .event obis v =>
    let l := p.channels.zipIdx.filterMap (fun d =>
      if d.1.codeKind = 1 ∧ d.1.pos = 0xFF ∧ d.1.code = obis then some (dlmsRecord d.2 d.1 v base, none, false) else none)
    .ok (l, none, 0, 0)
  | .mbus rs extra =>
    let outs := rs.zipIdx.map (fun x => mbusItem conv p rs x.2 x.1 base)
    let l := outs.filterMap (fun o => match o with
      | .mapped i => some i
      | _ => none)
    let un := (outs.filter (fun o => match o with
      | .unmapped => true
      | _ => false)).length
    let frame := usable conv p.invert ((mbusFrame rs).map (·.2))
    .ok (l, frame, un + extra, base.epStatus)

/-- Stage 5 of a frame: its reading records and unmapped items, or the code that ends it (05 R122 to R128). -/
def normalise (conv : ClockConv) (p : Profile) (pay : Payload) (base : Rec) : Except U16 (List Rec × Nat) :=
  match mapPayload conv p pay base with
  | .error c => .error c
  | .ok (items, frame, un, _) =>
    if 16 < items.length then .error OC_ITEM_LIMIT
    else
      let dev := if p.clockDevMs ≠ 0 ∧ base.tq ≤ 1 then some (p.clockDevMs * 1000000) else none
      let bad := match dev, frame with
        | some lim, some f => apart f base.arrival lim
        | _, _ => false
      .ok (recSort (items.map (timeRecord base.arrival dev bad)), un)

/-! ### Validation (05 R129 to R134) -/

/-- The state of a channel as seen under a definition: empty where the DEF_TAG differs or nothing was read (05 R121). -/
def chanSeen (st : ChannelState) (tag : Nat) : Option ChannelState :=
  if st.lastTime = 0 ∨ st.defTag ≠ tag then none else some st

/-- Is the reading unchanged as 05 R130 tests it: no increment of a cumulative channel, or the last value again? -/
def sameReading (o : ChannelState) (r : Rec) : Bool :=
  (if r.kind = 0 then decide (r.delta = 0) else decide (r.value = o.lastValue)) && !hasQ 10 r

/-- Channel state after a record has been validated, from the record alone (05 R130 "update", R131; 04 R96). -/
def chanAfter (st : ChannelState) (r : Rec) : ChannelState :=
  let tag := defTag r.codeKind r.kind r.code r.nunit
  if r.kind = 3 ∨ hasQ 0 r ∨ hasQ 14 r ∨ hasQ 13 r then st
  else match chanSeen st tag with
    | none => { lastValue := r.value, lastTime := r.sourceTime, defTag := tag }
    | some o =>
      let same := sameReading o r
      { lastValue := r.value, lastTime := r.sourceTime, defTag := tag,
        flatRun := if same then satTo 255 (o.flatRun + 1) else 0,
        flatSince := if same ∧ o.flatRun = 0 then o.lastTime / 1000000000 else o.flatSince,
        flags := if hasQ 10 r then 1 else 0 }

/-- Validate one record against its channel definition and state (05 R130), up to the estimates. -/
def veeRecord (d : ChanDef) (mask : Nat) (st : ChannelState) (r : Rec) : Rec :=
  let tag := defTag d.codeKind d.kind d.code d.nunit
  let r := if r.value < d.rangeMin ∨ d.rangeMax < r.value then setQ 0 r else r
  let r := if r.epStatus &&& mask ≠ 0 then setQ 12 r else r
  if d.kind = 3 then { r with delta := 0 }
  else if hasQ 0 r || hasQ 14 r then edit 6 { r with delta := 0 }
  else match chanSeen st tag with
    | none => setQ 11 { r with delta := if d.kind = 1 then max r.value 0 else 0 }
    | some o =>
      if r.sourceTime ≤ o.lastTime then setQ 13 { r with delta := 0 }
      else
        let dt : Int := r.sourceTime - o.lastTime
        let m : Int := d.modulus
        let spike : Int := d.spike
        let x := r.value - o.lastValue
        let r := if d.kind = 0 then
            let roll := decide (x < 0 ∧ m ≠ 0 ∧ 2 * (x + m) < m)
            let rst := decide (x < 0) && !roll
            let dd := if roll then x + m else if rst then 0 else x
            let r := if roll then setQ 2 r else r
            let r := if rst then edit 5 (setQ 10 (setQ 1 r)) else r
            let r := if !rst ∧ spike ≠ 0 ∧ spike * dt < dd * 3600000000000 then setQ 3 r else r
            { r with delta := deltaOf dd }
          else if d.kind = 1 then
            let r := if r.value < 0 then setQ 1 { r with delta := 0 } else { r with delta := r.value }
            if spike ≠ 0 ∧ spike < r.value then setQ 3 r else r
          else
            let r := { r with delta := 0 }
            if spike ≠ 0 ∧ spike < x.natAbs then setQ 3 r else r
        let same := sameReading o r
        let run := if same then satTo 255 (o.flatRun + 1) else 0
        let since := if same ∧ o.flatRun = 0 then o.lastTime / 1000000000 else o.flatSince
        let r := if same ∧ d.flatCount ≠ 0 ∧ d.flatCount ≤ run ∧ since + d.flatMinS ≤ r.sourceTime / 1000000000 then setQ 4 r else r
        if d.gapS ≠ 0 ∧ (d.gapS : Int) * 1000000000 < dt then setQ 5 r else r

/-- The estimates a validated record forms: instant and value (05 R132). `inst` gives the instants strictly between two times at
which local civil time is a multiple of the interval. -/
def estimates (inst : Nat → Nat → Nat → List Nat) (d : ChanDef) (st : ChannelState) (r : Rec) : List (Nat × Int) :=
  if d.kind = 0 ∧ d.estimate ∧ hasQ 5 r ∧ !hasQ 11 r ∧ !hasQ 13 r ∧ !hasQ 0 r ∧ !hasQ 14 r ∧ !hasQ 10 r then
    let m : Int := d.modulus
    let u := if hasQ 2 r then r.value + m else r.value
    (inst st.lastTime r.sourceTime d.intervalS).map (fun (t : Nat) =>
      let v := st.lastValue + (u - st.lastValue) * ((t : Int) - st.lastTime) / ((r.sourceTime : Int) - st.lastTime)
      (t, if m ≠ 0 then v % m else v))
  else []

/-- Stage 6 over the records of a frame in RECORD_SEQ order: the records, the channel states they lead to, how many values are
estimated and how many gaps are left unestimated (05 R130, R132, R134). -/
def veeAll (inst : Nat → Nat → Nat → List Nat) (estMax : Nat) (closed : Option Nat) (p : Profile) :
    List Rec → Tab ChannelState → List Rec × Nat × Nat
  | [], _ => ([], 0, 0)
  | r :: rs, t =>
    match p.channels[r.channel]? with
    | none => let x := veeAll inst estMax closed p rs t; (r :: x.1, x.2)
    | some d =>
      let st := tabGet t r.channel {}
      let r := veeRecord d p.errorMask st r
      let r := match closed with
        | some c => if r.sourceTime < c then setQ 9 r else r
        | none => r
      let e := (estimates inst d st r).length
      let x := veeAll inst estMax closed p rs (tabPut t r.channel (chanAfter st r))
      (r :: x.1, x.2.1 + (if e ≤ estMax then e else 0), x.2.2 + (if e ≤ estMax then 0 else 1))

/-- Channel states of a parcel after committed records (05 R131). -/
def channelsAfter (rs : List Rec) (t : Tab ChannelState) : Tab ChannelState :=
  rs.foldl (fun t r => tabMod t r.channel {} (fun st => chanAfter st r)) t

/-! ### The cadastre's checks of profiles (05 R119, R120) -/

/-- Is a profile row in range (05 Tables 5.5, 5.6)? -/
def profileRange (r : List Int) : Bool :=
  let p := profileOf r
  let n := (r.getD 1 0).toNat
  decide (0 ≤ r.getD 0 (-1) ∧ r.getD 0 (-1) ≤ 1023 ∧ 1 ≤ n ∧ n ≤ 16 ∧ r.length = profileHead + chanLen * n) &&
  decide ((r.getD 2 0 = 0 ∨ r.getD 2 0 = 1) ∧ r.getD 9 0 = 0) &&
  (List.range n).all (fun k =>
    let c (i : Nat) : Int := r.getD (profileHead + chanLen * k + i) 0
    decide ((c 9 = 0 ∨ c 9 = 1) ∧ c 21 = 0 ∧ c 23 = 0)) &&
  decide (p.clockDevMs = 0 ∨ (1000 ≤ p.clockDevMs ∧ p.clockDevMs ≤ 86400000)) &&
  p.channels.all (fun d => decide ((d.codeKind = 1 ∨ d.codeKind = 2) ∧ d.kind ≤ 3 ∧ 1 ≤ d.nunit ∧ d.nunit ≤ 14) &&
    decide (d.intervalS = 0 ∨ (60 ≤ d.intervalS ∧ d.intervalS ≤ 86400 ∧ 86400 % d.intervalS = 0)) &&
    decide (d.flatCount ≠ 1 ∧ d.flatCount ≤ 255))

/-- Does a profile keep the rules of 05 R120? -/
def profileRules (r : List Int) : Bool :=
  let cs := (profileOf r).channels
  cs.zipIdx.all (fun a => cs.zipIdx.all (fun b => a.2 == b.2 || !(a.1.codeKind == b.1.codeKind && a.1.code == b.1.code))) &&
  cs.all (fun d => decide (d.rangeMin ≤ d.rangeMax) &&
    decide (d.modulus = 0 ∨ (0 ≤ d.rangeMin ∧ d.rangeMax < d.modulus)) &&
    decide (d.target = 0 ∨ d.kind = 0) &&
    decide (!d.estimate ∨ (d.kind = 0 ∧ d.intervalS ≠ 0)) &&
    decide (d.codeKind = 1 ∨ (d.pos = 0 ∧ d.unit = 0 ∧ d.scaler = 0)))

/-- Are rows in strictly ascending order of their first number? -/
def rowsAscending : List (List Int) → Bool
  | [] => true
  | [_] => true
  | a :: b :: l => decide (a.getD 0 0 < b.getD 0 0) && rowsAscending (b :: l)

end Sys2Proof.Machine
end

