-- ==== Sys2Proof/Machine/Sheets.lean ====
section
/-! DEFINITION. Sheets: their items, leaves, Merkle roots and inclusion paths, and section digests (12 R275 to R278). -/

namespace Sys2Proof.Machine

/-- The epoch whose journal range is open: the oldest one whose boundary work has not committed its EPOCH_SEAL entry (04 R454). -/
def openEpoch (s : State) : Int := match s.epoch.work.find? (fun w => decide (w.step < 4)) with
  | some w => w.epoch
  | none => s.epoch.current

/-- The epoch in whose journal range a JSN lies (04 R454). -/
def epochOfJsn (s : State) (j : Nat) : Int := match s.hx.ranges.find? (fun r => decide (j ≤ r.2.1)) with
  | some r => r.1
  | none => openEpoch s

/-- Add an item to the sheet of epoch `e`, or, where that sheet is signed, to the next one (12 R275). A replay adds no item a
second time (04 R101). -/
def addItemAt (e : Int) (sec jsn : Nat) (nums : List Int) (s : State) : State :=
  let e := match s.hx.chain with
    | some c => max e (c.1 + 1)
    | none => e
  if s.jrn.replaying && s.hx.items.any (fun i => i.sec == sec && i.jsn == jsn && i.nums == nums) then s
  else { s with hx := { s.hx with items := s.hx.items ++ [{ epoch := e, sec := sec, jsn := jsn, nums := nums }] } }

/-- Add an item that comes from the entry `jsn` (12 R275). -/
def addItem (sec jsn : Nat) (nums : List Int) (s : State) : State := addItemAt (epochOfJsn s jsn) sec jsn nums s

/-- An event of the running work (12 Table 12.4): EVENT, INSTANT, DETAIL values in key order. -/
def addEvent (ev jsn : Nat) (instant : Nat) (detail : List Int) (s : State) : State :=
  addItem 5 jsn ((ev : Int) :: (instant : Int) :: detail) s

/-- The JSN that items of boundary work and sweeps stand under: the next to be assigned. -/
def itemJsn (s : State) : Nat := s.jrn.lastJsn + 1

/-- An estimated leaf of a record (12 R276): QUALITY holds ESTIMATED alone. -/
def estimatedLeaf (r : Rec) (t : Nat) (v : Int) : Rec :=
  { r with value := v, sourceTime := t, delta := 0, quality := 128, editReason := 0 }

/-- READING entries with JSN in (lo, hi]. -/
def readingsIn (s : State) (lo hi : Nat) : List (Nat × List Rec) :=
  s.jrn.entries.filterMap (fun e => match e.body with
    | .reading rs _ => if lo < e.jsn ∧ e.jsn ≤ hi then some (e.jsn, rs) else none
    | _ => none)

/-- The leaves of a journal range: records in JSN and RECORD_SEQ order, each after the values estimated from it (12 R276). -/
def leavesIn (s : State) (lo hi : Nat) : List Rec :=
  (readingsIn s lo hi).flatMap (fun e => e.2.flatMap (fun r =>
    (s.hx.items.filterMap (fun i =>
      if i.sec = 0 ∧ i.jsn = e.1 ∧ i.nums.getD 0 (-1) = r.seq then
        some (estimatedLeaf r (i.nums.getD 1 0).toNat (i.nums.getD 2 0)) else none)) ++ [r]))

/-- The largest power of two below `n`, for n > 1 (12 R277). -/
def splitAt2 (n : Nat) : Nat := 2 ^ Nat.log2 (n - 1)

/-- The node hash of two 32-byte hashes: SHA-256(0x01, left, right) (12 R277). -/
def nodeHash (l r : Nat) : Nat := hashOf (1 :: (beBytes 32 l ++ beBytes 32 r))

/-- The Merkle root of leaves (12 R277); `fuel` bounds the depth. -/
def mthFuel : Nat → List (List U8) → Nat
  | _, [] => 0
  | _, [d] => hashOf (0 :: d)
  | 0, _ :: _ :: _ => 0
  | f + 1, a :: b :: l =>
    let d := a :: b :: l
    let k := splitAt2 d.length
    nodeHash (mthFuel f (d.take k)) (mthFuel f (d.drop k))

/-- The Merkle root of leaves (12 R277). -/
def mth (d : List (List U8)) : Nat := mthFuel d.length d

/-- The inclusion path of leaf `i`, sibling hashes from the leaf upward (12 R277). -/
def pathFuel : Nat → Nat → List (List U8) → List Nat
  | 0, _, _ => []
  | f + 1, i, d =>
    if d.length ≤ 1 then []
    else
      let k := splitAt2 d.length
      if i < k then pathFuel f i (d.take k) ++ [mth (d.drop k)] else pathFuel f (i - k) (d.drop k) ++ [mth (d.take k)]

/-- The inclusion path of a leaf (12 R277). -/
def inclusionPath (i : Nat) (d : List (List U8)) : List Nat := pathFuel d.length i d

/-- Move to the next level while `fn` is even and not 0 (12 R277). -/
def pathSkip : Nat → Nat → Nat → Nat × Nat
  | 0, fn, sn => (fn, sn)
  | f + 1, fn, sn => if fn % 2 = 1 ∨ fn = 0 then (fn, sn) else pathSkip f (fn / 2) (sn / 2)

/-- The verifier's walk over a path (12 R277). -/
def pathWalk : List Nat → Nat → Nat → Nat → Option (Nat × Nat)
  | [], _, sn, r => some (sn, r)
  | p :: ps, fn, sn, r =>
    if sn = 0 then none
    else if fn % 2 = 1 ∨ fn = sn then
      let r := nodeHash p r
      let (fn, sn) := if fn % 2 = 0 then pathSkip fn fn sn else (fn, sn)
      pathWalk ps (fn / 2) (sn / 2) r
    else pathWalk ps (fn / 2) (sn / 2) (nodeHash r p)

/-- Does a verifier accept leaf `i` of `n` with this path against a root (12 R277)? -/
def pathAccepts (leaf : List U8) (i n : Nat) (path : List Nat) (root : Nat) : Bool :=
  if n ≤ i then false
  else match pathWalk path i (n - 1) (hashOf (0 :: leaf)) with
    | some (sn, r) => sn == 0 && r == root
    | none => false

/-- The items of a section of an epoch's sheet. -/
def itemsOf (s : State) (e : Int) : List SheetItem := s.hx.items.filter (fun i => i.epoch == e && i.sec != 0)

/-- The DETAIL of an event as a map (12 Table 12.4): OUTAGE_START ends with an array of cells, and JOURNAL_CORRUPT with a bool. -/
def eventDetail (ev : Int) (l : List Int) : List U8 :=
  if ev = 10 then cborMap ((l.take 4).map cborInt ++ [cborInts (l.drop 4)])
  else if ev = 19 then cborMap ((l.take 2).map cborInt ++ (l.drop 2).map (fun z => cborBool (z != 0)))
  else cborMap (l.map cborInt)

/-- The deterministic encoding of an item of sections 1 to 5 (12 R278, Table 12.3). -/
def itemBytes (i : SheetItem) : List U8 :=
  if i.sec = 5 then match i.nums with
    | ev :: t :: l => cborArray [cborInt ev, cborInt t, eventDetail ev l]
    | l => cborInts l
  else cborInts i.nums

/-- SECTIONS_DIGEST of items (12 R278): the digest over the digests of sections 1 to 5. -/
def sectionsDigest (l : List SheetItem) : Nat :=
  hashOf ([1, 2, 3, 4, 5].flatMap (fun k => beBytes 32 (hashOf ((l.filter (fun i => i.sec == k)).flatMap itemBytes))))

end Sys2Proof.Machine
end

