-- ==== Sys2Proof/Machine/Billing.lean ====
section
/-! DEFINITION. The tariff engine: closures, activations, credits, demand, periods, sweeps and snapshots (chapter 06, 12 R288). -/

namespace Sys2Proof.Machine

/-! ### Parcels -/

/-- The parcel at an index (03 R55). -/
def parcelOf (s : State) (i : Nat) : Parcel := tabGet s.store.parcels i {}

/-- Store a parcel. -/
def setParcel (i : Nat) (p : Parcel) (s : State) : State := { s with store := { s.store with parcels := tabPut s.store.parcels i p } }

/-- Is the parcel in use: ACTIVE, RETIRING or RESTORING? -/
def inUse (p : Parcel) : Bool := p.state != .free

/-- A calendar of the store (06 R142). -/
def calOf (s : State) (c : Nat) : CalSlot := tabGet s.billing.cals c {}

/-- Change the billing state. -/
def modBilling (f : BillingSt → BillingSt) (s : State) : State := { s with billing := f s.billing }

/-- Count unless the journal is replayed (06 R159). -/
def countUp (s : State) (v : U32) : U32 := if s.jrn.replaying then v else v + 1

/-! ### Boundary entries that apply (06 R151) -/

/-- The latest BOUNDARY entry of a kind (and calendar, for closures) that applies to an ASN (06 R151). -/
def boundFor (s : State) (kind : Nat) (cal : Nat) (asn : Nat) : Option BoundaryEntry :=
  s.billing.bounds.find? (fun b => b.kind == kind && (kind != 1 || b.calendar == cal) && decide (b.nextAsn ≤ asn))

/-- The calendar's last closure entry. -/
def lastClosure (s : State) (cal : Nat) : Option BoundaryEntry :=
  s.billing.bounds.find? (fun b => b.kind == 1 && b.calendar == cal)

/-- The closed-through instant of a calendar for an ASN (06 R151), 0 where none. -/
def closedFor (s : State) (cal asn : Nat) : Nat :=
  match s.billing.bounds.find? (fun b => b.kind == 1 && b.calendar == cal && b.period && decide (b.nextAsn ≤ asn)) with
  | some b => b.periodEnd + 1
  | none => 0

/-! ### Snapshots and period closing (06 R154, R158) -/

/-- Numbers of a register snapshot (06 Table 6.12). -/
def snapshotNums (kind i calendar version start end_ : Nat) (p : Parcel) (r : Registers) : List Int :=
  ([kind, p.identity.toNat, i, p.generation, calendar, version, start, end_] ++
    (List.range 32).map (fun k => tabGet r.energy k 0) ++ (List.range 4).map (fun k => tabGet r.total k 0) ++
    (List.range 4).map (fun k => tabGet r.degraded k 0) ++
    (List.range 8).flatMap (fun k => let m := tabGet r.md k (0, 0); [m.1, m.2]) ++ [r.lateCredits, r.demandSkipped]).map Int.ofNat

/-- u64 arithmetic of the registers (06 R145). -/
def add64 (a b : Nat) : Nat := (a + b) % 18446744073709551616
/-- Subtraction modulo 2^64. -/
def sub64 (a b : Nat) : Nat := (a + 18446744073709551616 - b % 18446744073709551616) % 18446744073709551616

/-- Take a carry set (0 calendar mode, 1 default mode) out of a register snapshot (06 R154). -/
def uncarry (d : DemandState) (set : Nat) (r : Registers) : Registers :=
  let t := tabGet d.carryTariff set 0
  [0, 1, 2, 3].foldl (fun r k =>
    let c := tabGet d.carry (4 * set + k) 0
    if c = 0 then r
    else
      let r := { r with total := tabMod r.total k 0 (fun v => sub64 v c) }
      let r := if t = 0 then r else { r with energy := tabMod r.energy (4 * (t - 1) + k) 0 (fun v => sub64 v c) }
      if set = 1 then { r with degraded := tabMod r.degraded k 0 (fun v => sub64 v c) } else r) r

/-- Close billing period `e` of a parcel: the parcel, and its PERIOD snapshot (06 R154). -/
def closePeriod (k : CalSlot) (i e : Nat) (p : Parcel) : Parcel × List Int :=
  let d := p.demand
  let snap := if d.carryBase = e then uncarry d 1 (uncarry d 0 p.registers) else p.registers
  let out := snapshotNums 0 i p.calendar (calVersion (imageBefore k e)) p.registers.periodStart e p snap
  ({ p with registers := { p.registers with md := [], lateCredits := 0, demandSkipped := 0, periodsClosed := (p.registers.periodsClosed + 1) % 4294967296,
                                            periodStart := e },
            demand := { d with closedThrough := e, carry := [], carryTariff := [], carryBase := 0 } }, out)

/-! ### Demand slots (06 R148, R149) -/

/-- A slot's full end instant (06 R148). -/
def slotEnd (through : Nat) (x : DemandSlot) : Nat :=
  let b := through / 1000000000 + 1
  (b + (x.endAt + 4294967296 - b % 4294967296) % 4294967296) * 1000000000

/-- Close the slot of number `n` where its end is `e` (06 R149); true where a maximum was replaced. -/
def closeSlot (n e : Nat) (p : Parcel) : Parcel × Bool :=
  let x := tabGet p.demand.slots n {}
  if x.endAt = 0 ∨ slotEnd p.demand.demandThrough x ≠ e then (p, false)
  else
    let q := { p with demand := { p.demand with slots := tabDel p.demand.slots n } }
    let m := tabGet p.registers.md (x.tariff - 1) (0, 0)
    let v := x.acc * (60 / max 1 x.minutes)
    if 0 < x.acc ∧ !x.incomplete ∧ m.1 < v then
      ({ q with registers := { q.registers with md := tabPut q.registers.md (x.tariff - 1) (v % 18446744073709551616, e) } }, true)
    else (q, false)

/-- Result of advancing a parcel: the parcel, snapshots taken, maxima replaced. -/
structure Advanced where
  parcel : Parcel := {}
  snaps : List (List Int) := []
  maxima : Nat := 0

/-- Advance a parcel through the boundaries up to `through` that change it, ascending (06 R152). -/
def advanceSteps (k : CalSlot) (i : Nat) (closes : List Nat) : List Nat → Advanced → Advanced
  | [], a => a
  | e :: es, a =>
    let (p, m0) := closeSlot 0 e a.parcel
    let (p, m1) := closeSlot 1 e p
    let n := a.maxima + (if m0 then 1 else 0) + (if m1 then 1 else 0)
    let a := if closes.contains e then
        let (p, sn) := closePeriod k i e p
        { a with parcel := p, snaps := a.snaps ++ [sn], maxima := n }
      else { a with parcel := p, maxima := n }
    advanceSteps k i closes es { a with parcel := { a.parcel with demand := { a.parcel.demand with demandThrough := e } } }

/-- Advance a parcel (06 R152). -/
def advanceParcel (u : UtcTab) (k : CalSlot) (i through : Nat) (p : Parcel) : Advanced :=
  let dt := p.demand.demandThrough
  if through ≤ dt then { parcel := p }
  else
    let ends := ([0, 1].map (fun n => tabGet p.demand.slots n {})).filterMap (fun x =>
      if x.endAt ≠ 0 ∧ slotEnd dt x ≤ through then some (slotEnd dt x) else none)
    let closes := calCloses u k dt through
    let a := advanceSteps k i closes (sortNats (ends ++ closes)) { parcel := p }
    { a with parcel := { a.parcel with demand := { a.parcel.demand with demandThrough := through } } }

/-- Advance parcel `i` to `through`; its PERIOD snapshots go into the sheet of epoch `e` (06 R152, R155). -/
def advanceAt (e : Int) (jsn i through : Nat) (s : State) : State :=
  let p := parcelOf s i
  let a := advanceParcel s.ptp.utc (calOf s p.calendar) i through p
  let s := setParcel i a.parcel s
  let s := modBilling (fun b => if s.jrn.replaying then b else
    { b with periodCloses := b.periodCloses + u32 a.snaps.length, mdUpdates := b.mdUpdates + u32 a.maxima }) s
  forEach a.snaps (fun n t => addItemAt e 1 jsn n t) s

/-- Advance parcel `i` before an entry of ASN `asn` is applied (06 R152). -/
def advanceFor (jsn asn i : Nat) (s : State) : State :=
  match boundFor s 1 (parcelOf s i).calendar asn with
  | some b => advanceAt (epochOfJsn s jsn) jsn i b.through s
  | none => s

/-! ### Ordered snapshots (12 R288) -/

/-- Is a parcel in the scope of a mark? -/
def markScope (m : SnapMark) (p : Parcel) : Bool :=
  decide (p.enrolTime ≤ m.at_) && (match m.scope with
    | 0 => true
    | 1 => p.calendar == m.calendar
    | _ => m.identities.contains p.identity)

/-- Take the ORDERED snapshot of a mark of parcel `i`, once (12 R288). -/
def orderedSnapshot (e : Int) (jsn : Nat) (m : SnapMark) (i : Nat) (s : State) : State :=
  let p := parcelOf s i
  if inUse p && markScope m p && decide (p.campaign.snapshotThrough < m.at_) then
    let nums := snapshotNums 2 i p.calendar (calVersion (imageBefore (calOf s p.calendar) m.at_)) p.registers.periodStart m.at_ p p.registers
    addItemAt e 1 jsn nums (setParcel i { p with campaign := { p.campaign with snapshotThrough := m.at_ } } s)
  else s

/-- The snapshots due before an entry of ASN `asn` is applied to parcel `i` (12 R288). -/
def snapshotsFor (jsn asn i : Nat) (s : State) : State :=
  forEach s.billing.marks (fun m t => match m.committed with
    | some (_, n) => if n ≤ asn then orderedSnapshot (epochOfJsn t jsn) jsn m i t else t
    | none => t) s

/-! ### Credits (06 R147, R149, R153, R156) -/

/-- Direction and quantity of a target (06 Table 6.8), as the index 2d + q. -/
def targetIndex : Nat → Nat
  | 2 => 1 | 3 => 2 | 4 => 3 | _ => 0

/-- Demand work of a credit of quantity (0, 0) (06 R149): the parcel, and whether the credit was excluded. -/
def creditDemand (u : UtcTab) (k : CalSlot) (tc prev delta : Nat) (calendarMode : Bool) (p : Parcel) : Parcel × Bool :=
  let c := imageAt k tc
  let b := boundaryAt u c tc
  let e := boundaryAfter u c tc
  let d := p.demand
  let skip (p : Parcel) : Parcel := { p with registers := { p.registers with demandSkipped := (p.registers.demandSkipped + 1) % 4294967296 } }
  if e ≤ d.demandThrough then (skip p, true)
  else
    let used (n : Nat) : Bool := let x := tabGet d.slots n {}; x.endAt != 0 && slotEnd d.demandThrough x == e
    let n := if used 0 then 0 else if used 1 then 1 else if (tabGet d.slots 0 {}).endAt = 0 then 0 else 1
    let x := if used n then tabGet d.slots n {}
      else { acc := 0, endAt := e / 1000000000 % 4294967296, tariff := tariffAt u c b, minutes := calD c, incomplete := false }
    if calendarMode ∧ b ≤ prev then
      ({ p with demand := { d with slots := tabPut d.slots n { x with acc := add64 x.acc delta } } }, false)
    else (skip { p with demand := { d with slots := tabPut d.slots n { x with incomplete := true } } }, true)

/-- A DELTA as the u64 registers take it (06 R145, R147). -/
def creditAmount (d : Int) : Nat := if 0 ≤ d then d.toNat else (d + 18446744073709551616).toNat

/-- Credit one record of entry `e` to parcel `i` (06 R147); `prev` is the channel's LAST_TIME before it. -/
def creditRecord (i : Nat) (e : JEntry) (r : Rec) (prev : Nat) (s : State) : State :=
  let p := parcelOf s i
  let target := match profileIn e.profiles r.veeProfile with
    | some f => ((f.channels[r.channel]?).map (·.target)).getD 0
    | none => 0
  if r.delta = 0 ∨ target = 0 then s
  else
    let k := calOf s p.calendar
    let u := s.ptp.utc
    let delta := creditAmount r.delta
    let q := targetIndex target
    let bad := decide (2 ≤ r.tq)
    let hold := match boundFor s 3 0 e.asn with
      | some b => decide (e.admitAt < b.through + 60000000000)
      | none => false
    -- t_c is the instant 1 ns before this one: −1 where billing time is still 0
    let tcEnd := if bad then (match boundFor s 2 0 e.asn with
        | some b => b.billingTime
        | none => e.admitAt)
      else min r.sourceTime e.admitAt
    let tc := tcEnd - 1
    let dflt := bad || hold
    let tariff := if dflt then calDefault (imageAt k tc) else tariffAt u (imageAt k tc) tc
    let rg := p.registers
    let rg := { rg with energy := tabMod rg.energy (4 * (tariff - 1) + q) 0 (fun v => add64 v delta),
                        total := tabMod rg.total q 0 (fun v => add64 v delta) }
    let rg := if dflt then { rg with degraded := tabMod rg.degraded q 0 (fun v => add64 v delta) } else rg
    let uuEnd := min tcEnd r.sourceTime
    let p := { p with registers := rg }
    let s := modBilling (fun b => { b with credits := if 0 < r.delta then countUp s b.credits else b.credits,
                                           degradedCredits := if dflt then countUp s b.degradedCredits else b.degradedCredits }) s
    let (p, s) := if uuEnd ≤ p.demand.closedThrough then
        let pe := ((calCloses u k (uuEnd - 1) p.demand.closedThrough).head?).getD p.demand.closedThrough
        let nums : List Int := [(p.identity.toNat : Int), i, p.generation, pe, (tcEnd : Int) - 1, tariff, target, if dflt then 1 else 0, delta, e.jsn, r.seq, r.tq,
          if hasQ 9 r then 1 else 0]
        ({ p with registers := { p.registers with lateCredits := (p.registers.lateCredits + 1) % 4294967296 } },
          addItem 2 e.jsn nums (modBilling (fun b => { b with corrections := countUp s b.corrections }) s))
      else match (calCloses u k p.demand.closedThrough tc).head? with
        | some pc =>
          let st := if dflt then 1 else 0
          ({ p with demand := { p.demand with carryBase := pc, carry := tabMod p.demand.carry (4 * st + q) 0 (fun v => add64 v delta),
                                              carryTariff := tabPut p.demand.carryTariff st tariff } }, s)
        | none => (p, s)
    let (p, ex) := if q = 0 then creditDemand u k tc prev delta (!dflt) p else (p, false)
    setParcel i p (modBilling (fun b => { b with excluded := if ex then countUp s b.excluded else b.excluded }) s)

/-- LAST_TIME of each record's channel before it (06 R149), from the channel states before the entry. -/
def prevTimes : List Rec → Tab ChannelState → List Nat
  | [], _ => []
  | r :: rs, t =>
    let st := tabGet t r.channel {}
    let seen := match chanSeen st (defTag r.codeKind r.kind r.code r.nunit) with
      | some o => o.lastTime
      | none => 0
    seen :: prevTimes rs (tabPut t r.channel (chanAfter st r))

/-- Stage 8 of a READING entry: advance, then credit each record in RECORD_SEQ order (06 R147). -/
def creditEntry (i : Nat) (e : JEntry) (rs : List Rec) (prevs : List Nat) (s : State) : State :=
  let s := snapshotsFor e.jsn e.asn i (advanceFor e.jsn e.asn i s)
  forEach (rs.zip prevs) (fun x t => creditRecord i e x.1 x.2 t) s

/-! ### Entries that fall due by billing time (06 R144, R150, R157, 12 R288) -/

/-- The instant from which a calendar exists: the activation of the version that defined it (06 R143). -/
def calBorn (k : CalSlot) : Nat := match k.current, k.previous with
  | some c, none => c.activation
  | _, _ => 0

/-- The closure a calendar would commit now, if one is due (06 R150). A boundary before the calendar exists is none of its own (log 96). -/
def closureDue (s : State) (c : Nat) : Option BoundaryEntry :=
  let k := calOf s c
  if k.current.isNone then none
  else
    let u := s.ptp.utc
    let e := dueBoundary u k s.billing.time
    let prev := match lastClosure s c with
      | some b => b.through
      | none => 0
    if e ≤ prev ∨ e < calBorn k then none
    else
      let pe := ((calCloses u k (if prev = 0 then e - 33 * 86400000000000 else prev) e).getLast?).getD 0
      let g := calG (imageBefore k e) * 1000000000
      let multi := decide (prev ≠ 0 ∧ boundaryAfter u (imageAt k prev) prev < e)
      some { kind := 1, calendar := c, period := decide (pe ≠ 0), catchUp := multi || decide (e + g ≤ s.billing.resumed),
             through := e, prevThrough := prev, periodEnd := pe }

/-- Commit the closure of a calendar that is due; one with PERIOD starts a sweep (06 R150, R155). -/
def closeCalendar (c : Nat) (s : State) : State := match closureDue s c with
  | none => s
  | some b =>
    let n := openEpoch s
    let s := commitBoundary b s
    if b.period then
      modBilling (fun x => { x with sweeps := x.sweeps ++ [{ calendar := some c, epoch := n, through := b.through, jsn := s.jrn.lastJsn }] }) s
    else s

/-- Make a calendar's passive version current (06 R144). -/
def activateSlot (k : CalSlot) : CalSlot := match k.passive with
  | some v => { current := some v, previous := k.current, passive := none }
  | none => k

/-- Commit the CALENDAR_ACTIVATE entry of a calendar whose passive version is due (06 R144, Table 6.6). -/
def activateCalendar (c : Nat) (s : State) : State :=
  let k := calOf s c
  match k.passive with
  | some v =>
    if v.activation ≤ s.billing.time then
      let nums : List Int := [(c : Int), calVersion v.image, v.activation, v.orderJsn, nextAsn s, hashOf (v.image.map (BitVec.ofNat 8))]
      let s := commitMade none 0 (.calendarActivate nums) s
      modBilling (fun b => { b with cals := tabPut b.cals c (activateSlot k), activations := countUp s b.activations }) s
    else s
  | none => s

/-- Numbers of a snapshot mark. -/
def markNums (m : SnapMark) : List Int :=
  [(m.at_ : Int), m.scope, m.calendar] ++ m.identities.map (fun i => (i.toNat : Int))

/-- Commit the SNAPSHOT_MARK entry of the mark of instant `t`, where it is due; its sweep starts (12 R288). -/
def commitMark (m : SnapMark) (s : State) : State :=
  if m.committed.isSome ∨ s.billing.time < m.at_ ∨ !commitRoom (192 + 8 * m.identities.length) s then s
  else
    let n := openEpoch s
    let q := nextAsn s
    let s := commitMade none 0 (.order 0x82 1 0 0 0 ((q : Int) :: markNums m)) s
    let j := s.jrn.lastJsn
    modBilling (fun b => { b with marks := b.marks.map (fun x => if x = m then { x with committed := some (j, q) } else x),
                                  sweeps := b.sweeps ++ [{ calendar := none, epoch := n, through := m.at_, jsn := j }] }) s

/-- Activations and marks whose instants billing time has reached, in ascending instant, an activation first (04 R456). -/
def dueInstants (s : State) : List Nat :=
  sortNats ((s.billing.cals.filterMap (fun e => e.2.passive.map (·.activation))) ++
    (s.billing.marks.filter (fun m => m.committed.isNone)).map (·.at_))

/-- Commit what billing time has made due: closures in calendar order, then activations and marks (04 R456, 06 R150). -/
def commitDue (s : State) : State :=
  if !makesEntries s then s
  else
    let s := forEach (List.range 32) closeCalendar s
    forEach (dueInstants s) (fun a t =>
      let t := forEach ((t.billing.cals.filter (fun e => (e.2.passive.map (·.activation)) == some a)).map (·.1)) activateCalendar t
      forEach (t.billing.marks.filter (fun m => m.at_ == a)) commitMark t) s

/-- May device-made entries be committed now (04 R456, 06 R150)? The journal has room for the longest of them, an ENROL (04 R97, R99, R100). -/
def mayCommitMade (s : State) : Bool := s.glob.ingest && !s.trav.stopped && makesEntries s && commitRoom 704 s

/-- DEMAND_CLOSURE: billing time passes the next demand boundary of calendar `c` plus its grace (06 R150). -/
def demandClosure (c : Nat) (s : State) : State :=
  if !mayCommitMade s || (calOf s c).current.isNone then s
  else if (closureDue s c).isSome then closeCalendar c s
  else
    let u := s.ptp.utc
    let k := calOf s c
    let prev := max (match lastClosure s c with
      | some b => b.through
      | none => 0) (max (boundaryAt u (imageAt k s.billing.time) s.billing.time - 3600000000000) (calBorn k - 1))
    let e := boundaryAfter u (imageAt k prev) prev
    if s.glob.tq ≤ 1 then closeCalendar c (elapseDev (max e prev + calG (imageBefore k e) * 1000000000) s) else s

/-- CALENDAR_ACTIVATION: billing time reaches the pending activation of calendar `c` (06 R144). -/
def calendarActivation (c : Nat) (s : State) : State :=
  match (calOf s c).passive with
  | some v =>
    if !mayCommitMade s then s
    else activateCalendar c (if s.glob.tq ≤ 1 then elapseDev v.activation s else s)
  | none => s

/-- SNAPSHOT_MARK_COMMIT: billing time reaches the earliest pending mark (12 R288). -/
def snapshotMarkCommit (s : State) : State :=
  match s.billing.marks.filter (fun m => m.committed.isNone) with
  | [] => s
  | m :: ms =>
    if !mayCommitMade s then s
    else
      let m := ms.foldl (fun a b => if b.at_ < a.at_ then b else a) m
      commitMark m (if s.glob.tq ≤ 1 then elapseDev m.at_ s else s)

/-! ### Sweeps (06 R155, 12 R288) -/

/-- NEXT_ASN of the entry a sweep follows. -/
def sweepAsn (w : Sweep) (s : State) : Nat := match w.calendar with
  | some _ => match s.billing.bounds.find? (fun b => b.jsn == w.jsn) with
    | some b => b.nextAsn
    | none => 0
  | none => match s.billing.marks.find? (fun m => m.committed.map (·.1) == some w.jsn) with
    | some m => (m.committed.getD (0, 0)).2
    | none => 0

/-- Does a tag of parcel `i` admitted before ASN `q` still run (06 R155)? -/
def tagBefore (s : State) (i q : Nat) : Bool := s.trav.tags.any (fun t => t.parcel == some i && decide (t.asn < q))

/-- The sweep's work on one parcel (06 R155, 12 R288). -/
def sweepParcel (w : Sweep) (i : Nat) (s : State) : State :=
  let p := parcelOf s i
  if !inUse p then s
  else match w.calendar with
    | some c => if p.calendar = c then advanceAt s.epoch.current (itemJsn s) i w.through s else s
    | none => match s.billing.marks.find? (fun m => m.committed.map (·.1) == some w.jsn) with
      | some m => orderedSnapshot s.epoch.current (itemJsn s) m i s
      | none => s

/-- Replace the sweep of a JSN, or drop it once it is finished. -/
def putSweep (w : Sweep) (slices : Nat) (s : State) : State :=
  modBilling (fun b =>
    if slices ≤ w.slice ∧ w.waiting = [] then
      { b with sweeps := b.sweeps.filter (fun x => x.jsn != w.jsn),
               marks := b.marks.filter (fun m => m.committed.map (·.1) != some w.jsn) }
    else { b with sweeps := b.sweeps.map (fun x => if x.jsn = w.jsn then w else x) }) s

/-- Slices of the parcel store (06 R155). -/
def sliceCount (s : State) : Nat := (s.store.capacity + 65535) / 65536

/-- PERIOD_SWEEP_SLICE: the next slice of the sweep that follows entry `jsn`, in its scheduled epoch or later (06 R155). -/
def sweepSlice (jsn : Nat) (s : State) : State :=
  match s.billing.sweeps.find? (fun w => w.jsn == jsn) with
  | none => s
  | some w =>
    if s.epoch.current < w.epoch + 2 + w.slice ∨ sliceCount s ≤ w.slice then s
    else
      let q := sweepAsn w s
      let idx := (s.store.parcels.map (·.1)).filter (fun i => i / 65536 == w.slice)
      let busy := idx.filter (fun i => tagBefore s i q)
      let s := forEach (idx.filter (fun i => !tagBefore s i q)) (sweepParcel w) s
      putSweep { w with slice := w.slice + 1, waiting := w.waiting ++ busy } (sliceCount s) s

/-- As a tag of parcel `i` retires: the sweeps that waited for it advance the parcel (06 R155). -/
def sweepRetired (i : Nat) (s : State) : State :=
  forEach s.billing.sweeps (fun w t =>
    if w.waiting.contains i && !tagBefore t i (sweepAsn w t) then
      putSweep { w with waiting := w.waiting.filter (· != i) } (sliceCount t) (sweepParcel w i t)
    else t) s

/-! ### Orders (06 R143, 12 R288) -/

/-- Two epochs after billing time (06 R143). -/
def twoEpochs (s : State) : Nat := s.billing.time + 2 * epochLen s

/-- Calendars defined or pending (06 R143). -/
def calCount (s : State) : Nat := (s.billing.cals.filter (fun e => e.2.current.isSome || e.2.passive.isSome)).length

/-- Checks of a CALENDAR order (06 R143): calendar, activation instant, and image if one is carried. -/
def calendarCheck (c a : Nat) (img : Option (List Nat)) (s : State) : U16 :=
  let k := calOf s c
  let u := s.ptp.utc
  let pend := match k.passive with
    | some v => decide (v.activation < twoEpochs s)
    | none => false
  match img with
  | some x =>
    if calFault x = 2 then OC_RESERVED_SET
    else if calFault x ≠ 0 ∨ calId x ≠ c then OC_CAL_FORMAT
    else if k.current.isNone ∧ k.passive.isNone ∧ 32 ≤ calCount s then OC_CAL_COUNT
    else if !isBoundary u x a then OC_CAL_ALIGN
    else if (match k.current with
        | some v => !isBoundary u v.image a
        | none => false) then OC_CAL_ALIGN
    else if a < twoEpochs s then OC_CAL_TOO_LATE
    else if pend then OC_CAL_TOO_LATE
    else OC_OK
  | none =>
    if k.current.isNone ∧ k.passive.isNone ∧ 32 ≤ calCount s then OC_CAL_COUNT
    else if k.passive.isNone then OC_CAL_NO_PASSIVE
    else if pend then OC_CAL_TOO_LATE
    else OC_OK

/-- The effect of a CALENDAR order's entry of a JSN (06 R143). -/
def calendarApply (c a : Nat) (img : Option (List Nat)) (jsn : Nat) (s : State) : State :=
  modBilling (fun b =>
    let k := tabGet b.cals c {}
    let k := { k with passive := img.map (fun x => { image := x, activation := a, orderJsn := jsn }) }
    { b with cals := if k = {} then tabDel b.cals c else tabPut b.cals c k }) s

/-- Checks of a SNAPSHOT order (12 R288). -/
def snapshotCheck (m : SnapMark) (s : State) : U16 :=
  let pend := s.billing.marks.filter (fun x => x.committed.isNone)
  if m.at_ < twoEpochs s then OC_CAL_TOO_LATE
  else if pend.contains m then OC_HX_SNAPSHOT_SET
  else if 8 ≤ pend.length then OC_HX_SNAPSHOT_COUNT
  else OC_OK

/-! ### Enrolment and first calendars (06 R142, R146, R148) -/

/-- The calendar store at a start that finds it empty (06 R142). The image carries it from here, so that a calendar once defined stays
defined over a restart (log 123). -/
def firstCalendars (s : State) : State :=
  if !s.billing.cals.isEmpty then s
  else
    let l := (cadRows s 0x0210).map (fun r => r.map Int.toNat)
    let l := if l.isEmpty then [calZeroImage] else l
    let cals := l.foldl (fun t c => tabPut t (calId c) { current := some { image := c } }) s.billing.cals
    modBilling (fun b => { b with cals := cals, saved := (cals, b.saved.2) }) s

/-- The latest period close of a calendar at or before `th`, through its versions; 0 where there is none. Closes of one version lie at most a
month apart, so the last 33 days of each version in force are searched (06 R148). -/
def latestClose (u : UtcTab) (k : CalSlot) (th : Nat) : Nat :=
  let before (t : Nat) : List Nat := calCloses u k (t - 33 * 86400000000000) t
  let born := (k.current.map (·.activation)).getD 0
  match (before th).getLast? with
  | some e => e
  | none => (before (min born th)).getLastD 0

/-- DEMAND_STATE and PERIOD_START at enrolment (06 R148). -/
def enrolDemand (cal : Nat) (p : Parcel) (s : State) : Parcel :=
  let k := calOf s cal
  let u := s.ptp.utc
  let th := match lastClosure s cal with
    | some b => b.through
    | none => dueBoundary u k s.billing.time
  let ct := latestClose u k th
  { p with demand := { demandThrough := th, closedThrough := ct }, registers := { p.registers with periodStart := ct } }

/-- Do a profile and a medium suit each other (06 R146)? MEDIUM: 0 electricity, 1 gas, 2 water, 3 heat, 4 battery sensor. -/
def targetsSuit (medium : Nat) (f : Profile) : Bool :=
  f.channels.all (fun d =>
    d.target == 0 ||
    ((medium == 0 || d.target == 1) &&
     (d.target != 1 || (if medium == 0 || medium == 3 then d.nunit == 1 else if medium == 1 || medium == 2 then d.nunit == 4 else false))))

/-- Do the targets of a profile keep 06 R146: no two alike, none reserved, each with its NUNIT? -/
def targetsOk (f : Profile) : Bool :=
  let ts := (f.channels.map (·.target)).filter (· != 0)
  distinctNats ts && f.channels.all (fun d => match d.target with
    | 0 => true
    | 1 => d.nunit == 1 || d.nunit == 4
    | 2 => d.nunit == 2
    | 3 => d.nunit == 1
    | 4 => d.nunit == 2
    | _ => false)

/-! ### Registers (06 Tables 6.15, 6.16) -/

/-- Is the hold of 06 R137 running? -/
def holdRuns (s : State) : Bool := match s.billing.bounds.find? (fun b => b.kind == 3) with
  | some b => decide (s.glob.tq ≤ 1 ∧ devTime s < b.through + 60000000000)
  | none => false

/-- BILLING_STATUS (06 Table 6.15). -/
def billingStatus (s : State) : U32 :=
  let pend := ((List.range 32).filter (fun c => (closureDue s c).isSome)).length
  bitAt (decide (2 ≤ s.glob.tq)) 31 ||| bitAt (holdRuns s) 30 |||
    bitAt (s.billing.sweeps.any (fun w => w.calendar.isSome)) 29 ||| fieldAt pend 0

/-- CAL_STATUS[c] (06 Table 6.16). -/
def calStatus (s : State) (c : Nat) : U32 :=
  let k := calOf s c
  let bt := s.billing.time
  match k.current with
  | none => bitAt k.passive.isSome 30
  | some v =>
    let t := if decide (2 ≤ s.glob.tq) || holdRuns s then calDefault (imageAt k bt) else tariffAt s.ptp.utc (imageAt k bt) bt
    bitAt true 31 ||| bitAt k.passive.isSome 30 ||| bitAt (s.billing.sweeps.any (fun w => w.calendar == some c)) 29 |||
      fieldAt (t - 1) 24 ||| fieldAt (calD v.image) 16 ||| fieldAt (calVersion v.image) 0

end Sys2Proof.Machine
end

