-- ==== Sys2Proof/Machine/Store.lean ====
section
/-! DEFINITION. The parcel store: capacity, directory, free list and head cache (chapter 03). -/

namespace Sys2Proof.Machine

/-- Capacity in parcels of the installed DRAM (01 Table 1.5, 03 Table 3.7). -/
def capacityOf (gib : Nat) : Nat := match gib with
  | 32 => 4194304
  | 64 => 8388608
  | 128 => 12582912
  | 256 => 16777216
  | _ => 0

/-! ### The DRAM map (03 R60 to R62, Table 3.5) -/

/-- DRAM areas of 18 Table 18.1; the free list shares the directory's of Table 3.5. -/
inductive DramArea
  | parcel (index : Nat)
  | directory (bucket : Nat)
  | freeList
  | firmware
  | companion
  | staging
  | journalPage
  | sheetBuild
  | steelyard
  | readCache
deriving DecidableEq, Repr, Inhabited

/-- 64-byte lines in a MiB. -/
def mib (n : Nat) : Nat := n * 16384

/-- First line of the directory: the parcel store and the archive staging rings stand before it (03 Table 3.5; log 126). -/
def directoryBase (s : State) : Nat := capacityOf s.ecc.dramGib * 96

/-- First line of the fixed areas (03 R60, Table 3.5). -/
def fixedBase (s : State) : Nat := directoryBase s + capacityOf s.ecc.dramGib / 16 * 6

/-- The area that holds a line: those of Table 3.5 in its order, the fixed ones in the order of R60, and the companion area on top of the
512 MiB of firmware and tables (17 R378; log 126). -/
def areaOf (s : State) (line : Nat) : DramArea :=
  let cap := capacityOf s.ecc.dramGib
  let d := line - directoryBase s
  let f := line - fixedBase s
  if line < cap * 32 then .parcel (line / 32)
  else if line < directoryBase s then .parcel ((line - cap * 32) / 64)
  else if line < fixedBase s then
    let half := cap * 5 / 32
    if d < cap * 5 / 16 then .directory (if d % 4 < 2 then d / 4 * 2 + d % 4 else half + d / 4 * 2 + (d % 4 - 2)) else .freeList
  else if f < mib 256 then .firmware
  else if f < mib 512 then .companion
  else if f < mib 2560 then .staging
  else if f < mib 4608 then .journalPage
  else if f < mib 5632 then .sheetBuild
  else if f < mib 6656 then .steelyard
  else .readCache

/-- The subchannel of a line, DA0, DA1, DB0, DB1: lines take them in turn (log 126). -/
def lineSub (line : Nat) : Nat := line % 4

/-- The line that holds line `k` of parcel `i`, so placed that its subchannel is `(i + k) % 4` (03 R61). -/
def parcelLine (i k : Nat) : Nat := i * 32 + k / 4 * 4 + (i + k) % 4

/-- The line that holds bucket `b`, so placed that the lower half of the buckets lies on DA0 and DA1 and the upper on DB0 and DB1 (03 R62). -/
def bucketLine (s : State) (b : Nat) : Nat :=
  let half := capacityOf s.ecc.dramGib * 5 / 32
  if b < half then directoryBase s + b / 2 * 4 + b % 2 else directoryBase s + (b - half) / 2 * 4 + 2 + (b - half) % 2

/-- All 64 bytes of the lines that satisfy `w` are written: they are poisoned no more (18 R405). -/
def linesWritten (w : Nat → Bool) (s : State) : State :=
  { s with ecc := { s.ecc with poisoned := s.ecc.poisoned.filter (fun l => !w l) } }

/-- Buckets of the directory, which is laid out for the installed DRAM (03 R62, R74). -/
def bucketCount (s : State) : Nat := capacityOf s.ecc.dramGib * 5 / 16

/-- The candidate buckets of an identity, one in each half (03 R63). -/
def bucketsOf (s : State) (id : U64) : Nat × Nat :=
  let h := max 1 (bucketCount s / 2)
  (Config.dirHash s.store.hashDraw 0 id % h, h + Config.dirHash s.store.hashDraw 1 id % h)

/-- The entries of a bucket. -/
def bucketAt (s : State) (b : Nat) : List DirEntry := tabGet s.store.buckets b []

/-- Store a bucket. -/
def setBucket (b : Nat) (l : List DirEntry) (s : State) : State :=
  { s with store := { s.store with buckets := if l.isEmpty then tabDel s.store.buckets b else tabPut s.store.buckets b l } }

/-- The directory entry of an identity, in its buckets or the stash (03 R64, R67). -/
def dirFind (s : State) (id : U64) : Option DirEntry :=
  let (a, b) := bucketsOf s id
  (bucketAt s a ++ bucketAt s b ++ s.store.stash).find? (fun e => e.identity == id)

/-- Entries of the directory, buckets and stash. -/
def dirCount (s : State) : Nat := (s.store.buckets.map (fun e => e.2.length)).sum + s.store.stash.length

/-- Move residents along a chain of at most `fuel` moves, so that `e` stands in bucket `b` (03 R64). -/
def dirChain : Nat → DirEntry → Nat → State → Option State
  | fuel, e, b, s =>
    let l := bucketAt s b
    if l.length < 4 then some (setBucket b (l ++ [e]) s)
    else match fuel, l with
      | f + 1, r :: rest =>
        let (x, y) := bucketsOf s r.identity
        let other := if x = b then y else x
        let s := setBucket b (rest ++ [e]) s
        dirChain f r other { s with store := { s.store with moves := s.store.moves + 1 } }
      | _, _ => none

/-- Insert a directory entry (03 R64, R65): into the less-filled candidate bucket, by a chain of moves, or into the stash. -/
def dirInsert (e : DirEntry) (s : State) : Except U16 State :=
  if 85 * (4 * bucketCount s) < 100 * (dirCount s + 1) then .error OC_DIR_LOAD
  else
    let (a, b) := bucketsOf s e.identity
    let la := (bucketAt s a).length
    let lb := (bucketAt s b).length
    if la < 4 ∨ lb < 4 then
      let k := if la ≤ lb then a else b
      .ok (setBucket k (bucketAt s k ++ [e]) s)
    else match dirChain 8 e a s with
      | some t => .ok t
      | none =>
        if s.store.stash.length < 64 then .ok { s with store := { s.store with stash := s.store.stash ++ [e] } }
        else .error OC_DIR_STASH

/-- Stashed entries return to a bucket of theirs that has room (03 R64). -/
def unstash (s : State) : State :=
  forEach s.store.stash (fun e t =>
    let (a, b) := bucketsOf t e.identity
    let la := (bucketAt t a).length
    let lb := (bucketAt t b).length
    if la < 4 ∨ lb < 4 then
      let k := if la ≤ lb then a else b
      setBucket k (bucketAt t k ++ [e]) { t with store := { t.store with stash := t.store.stash.filter (fun x => x.identity != e.identity) } }
    else t) s

/-- Remove an identity from the directory (03 R76). -/
def dirRemove (id : U64) (s : State) : State :=
  let (a, b) := bucketsOf s id
  let drop (l : List DirEntry) : List DirEntry := l.filter (fun e => e.identity != id)
  let s := setBucket b (drop (bucketAt s b)) (setBucket a (drop (bucketAt s a)) s)
  unstash { s with store := { s.store with stash := drop s.store.stash } }

/-- Change the state of a directory entry (03 R75). -/
def dirState (id : U64) (st : Nat) (s : State) : State :=
  let (a, b) := bucketsOf s id
  let f (l : List DirEntry) : List DirEntry := l.map (fun e => if e.identity = id then { e with state := st } else e)
  let s := setBucket b (f (bucketAt s b)) (setBucket a (f (bucketAt s a)) s)
  { s with store := { s.store with stash := f s.store.stash } }

/-- Rebuild the directory from the parcels (03 R61, R79). -/
def dirRebuild (s : State) : State :=
  let s := { s with store := { s.store with buckets := [], stash := [] } }
  forEach s.store.parcels (fun e t =>
    if e.2.state = .free then t
    else match dirInsert { identity := e.2.identity, index := e.1, state := if e.2.state = .retiring ∨ (e.2.state = .restoring ∧ e.2.retireJsn ≠ 0) then 2 else 1,
                           generation := e.2.generation } t with
      | .ok u => u
      | .error _ => t) s

/-- A bucket is to be rebuilt (03 R79). -/
def rebuildBegin (b : Nat) (s : State) : State :=
  { s with store := { s.store with rebuild := if s.store.rebuild.contains b then s.store.rebuild else s.store.rebuild ++ [b] } }

/-! ### Free list (03 R73) -/

/-- The index at the head of the free list. -/
def freeHead (s : State) : Option Nat := s.store.free.head?.map (·.1)

/-- Take an index out of a list of ranges. -/
def rangesDrop (i : Nat) : List (Nat × Nat) → List (Nat × Nat)
  | [] => []
  | (a, b) :: l =>
    if a ≤ i ∧ i < b then
      (if a < i then [(a, i)] else []) ++ (if i + 1 < b then [(i + 1, b)] else []) ++ l
    else (a, b) :: rangesDrop i l

/-- Append an index to a list of ranges. -/
def rangesAdd (i : Nat) (l : List (Nat × Nat)) : List (Nat × Nat) := match l.getLast? with
  | some (a, b) => if b = i then l.dropLast ++ [(a, i + 1)] else l ++ [(i, i + 1)]
  | none => [(i, i + 1)]

/-- ACTIVE, RESTORING and RETIRING parcels: what counts against capacity (03 R71, R76). -/
def parcelsUsed (s : State) : Nat := (s.store.parcels.filter (fun e => inUse e.2)).length

/-- Apply a CAPACITY entry: indices are appended to, or removed from, the free list (03 R74). -/
def applyCapacity (old new : Nat) (s : State) : State :=
  let f := s.store.free
  let g := if old < new then f ++ [(old, new)]
    else (f.filter (fun r => decide (r.1 < new))).map (fun r => (r.1, min r.2 new))
  { s with store := { s.store with free := g, capacity := new } }

/-! ### Head cache (03 R67 to R69) -/

/-- Candidate sets of an identity, one per bank (03 R63). -/
def setsOf (s : State) (id : U64) : Nat × Nat :=
  (Config.dirHash s.store.hashDraw 0 id % 12288, 12288 + Config.dirHash s.store.hashDraw 1 id % 12288)

/-- The cached head of an identity. -/
def headFind (s : State) (id : U64) : Option HeadLine := s.store.heads.find? (fun h => h.identity == id)

/-- Is a head in one of two sets? -/
def inSets (p : Nat × Nat) (h : HeadLine) : Bool := h.place == .slot p.1 || h.place == .slot p.2

/-- Ages advance on every probe of the sets; a 2-bit age stops at 3 (03 R69). -/
def ageSets (p : Nat × Nat) (s : State) : State :=
  { s with store := { s.store with heads := s.store.heads.map (fun h => if inSets p h then { h with age := satTo 3 (h.age + 1) } else h) } }

/-- Ways used in one set. -/
def waysUsed (s : State) (k : Nat) : Nat := (s.store.heads.filter (fun h => h.place == .slot k)).length

/-- Is an entry of the write-back buffer due to be written to DRAM (03 R69, log 109)? -/
def headDue (s : State) (h : HeadLine) : Bool := h.place == .writeBack && decide (h.since < s.mono)

/-- Heads written back so far, those now due among them (03 Table 3.9). -/
def dirtyEvicted (s : State) : U32 := s.store.dirtyEvict + u32 (s.store.heads.filter (headDue s)).length

/-- The entries of the write-back buffer that are due leave it (03 R69). -/
def drainWrites (s : State) : State :=
  { s with store := { s.store with dirtyEvict := dirtyEvicted s, heads := s.store.heads.filter (fun h => !headDue s h) } }

/-- Is the 64-entry write-back buffer full (03 R69)? -/
def writeBackFull (s : State) : Bool := decide (64 ≤ (s.store.heads.filter (fun h => h.place == .writeBack)).length)

/-- Where a head is installed (03 R69): a free way, the oldest unpinned way's, or a bypass buffer; none while all are in use, or while a dirty
victim finds the write-back buffer full. -/
def headPlace (s : State) (id : U64) : Option (HeadPlace × Option HeadLine) :=
  let p := setsOf s id
  if waysUsed s p.1 < 8 then some (.slot p.1, none)
  else if waysUsed s p.2 < 8 then some (.slot p.2, none)
  else
    let c := s.store.heads.filter (fun h => inSets p h && h.pins == 0)
    match c with
    | h :: l =>
      let v := l.foldl (fun a b => if a.age < b.age then b else a) h
      if v.dirty && writeBackFull s then none else some (v.place, some v)
    | [] => if (s.store.heads.filter (fun h => h.place == .bypass)).length < 64 then some (.bypass, none) else none

/-- Install a head where it has a place (03 R69); a dirty victim goes to the write-back buffer. -/
def headInstall (x : HeadLine) (s : State) : State := match headPlace s x.identity with
  | none => s
  | some (pl, victim) =>
    let rest := match victim with
      | some v => s.store.heads.filter (fun h => h.identity != v.identity) ++ (if v.dirty then [{ v with place := .writeBack, since := s.mono }] else [])
      | none => s.store.heads
    { s with store := { s.store with heads := rest ++ [{ x with place := pl }],
                                     bypass := if pl = .bypass then s.store.bypass + 1 else s.store.bypass } }

/-- Tags that hold a delivered head of a parcel. -/
def headHolders (s : State) (idx : Nat) : Nat := (s.trav.tags.filter (fun t => t.parcel == some idx)).length

/-- A head read from DRAM is installed, pinned by the lookup that reads it and by the tags that hold it (03 R69). -/
def headFill (id : U64) (idx : Nat) (s : State) : State :=
  headInstall { identity := id, index := idx, place := .bypass, pins := headHolders s idx + 1 } s

/-- The head of an identity in the write-back buffer. -/
def headWaits (s : State) (id : U64) : Option HeadLine := s.store.heads.find? (fun h => h.identity == id && h.place == .writeBack)

/-- A lookup moves a head from the write-back buffer back into the cache, pinned, without reading DRAM (03 R68). -/
def headReturn (h : HeadLine) (s : State) : State :=
  headInstall { h with pins := h.pins + 1, age := 0 } { s with store := { s.store with heads := s.store.heads.filter (fun x => x.identity != h.identity) } }

/-- A hit makes the head young (03 R67, log 106). -/
def headHit (id : U64) (s : State) : State :=
  { s with store := { s.store with hits := s.store.hits + 1,
                                   heads := s.store.heads.map (fun h => if h.identity = id then { h with age := 0 } else h) } }

/-- A hit pins the head (03 R67). -/
def headPin (id : U64) (s : State) : State :=
  let s := headHit id s
  { s with store := { s.store with heads := s.store.heads.map (fun h => if h.identity = id then { h with pins := h.pins + 1 } else h) } }

/-- Release a pin; a bypass buffer is written back at its last (03 R69). -/
def headRelease (id : U64) (s : State) : State :=
  let l := s.store.heads.map (fun h => if h.identity = id then { h with pins := h.pins - 1 } else h)
  let gone (h : HeadLine) : Bool := h.place == .bypass && h.pins == 0
  { s with store := { s.store with heads := l.filter (fun h => !gone h),
                                   dirtyEvict := s.store.dirtyEvict + u32 (l.filter (fun h => gone h && h.dirty)).length } }

/-- Mark a head dirty. -/
def headDirty (id : U64) (s : State) : State :=
  { s with store := { s.store with heads := s.store.heads.map (fun h => if h.identity = id then { h with dirty := true } else h) } }

/-- DIR_STATUS (03 Table 3.10). -/
def dirStatus (s : State) : U32 :=
  fieldAt (dirCount s * 1000 / max 1 (4 * bucketCount s)) 16 ||| bitAt (!s.store.rebuild.isEmpty) 8 ||| fieldAt s.store.stash.length 0

end Sys2Proof.Machine
end

