-- ==== Sys2Proof/Machine/Traverse.lean ====
section
/-! DEFINITION. Traverse: admission, staging, lookup, ordering domains, replay checks, decryption, normalisation, validation,
commit and retirement of tags (chapters 03 to 05). -/

namespace Sys2Proof.Machine

/-- Change Traverse's state. -/
def modTrav (f : TravSt → TravSt) (s : State) : State := { s with trav := f s.trav }

/-- The tag of an ASN. -/
def tagOf (s : State) (asn : Nat) : Option Tag := s.trav.tags.find? (fun t => t.asn == asn)

/-- Replace a tag. -/
def setTag (t : Tag) (s : State) : State := modTrav (fun v => { v with tags := v.tags.map (fun x => if x.asn = t.asn then t else x) }) s

/-- Free a tag. -/
def dropTag (asn : Nat) (s : State) : State := modTrav (fun v => { v with tags := v.tags.filter (fun x => x.asn != asn) }) s

/-- Is a tag before commit and in its domain? -/
def inDomain (t : Tag) : Bool := t.state == .joined || t.state == .secured || t.state == .ready

/-! ### Stage 3 (04 R89 to R91) -/

/-- Width of the frame counter (04 Table 4.3). -/
def counterBits (protocol : Nat) : Nat := if protocol = 0x11 then 8 else 32

/-- The extended frame counter (04 R89). -/
def extendCounter (p : Parcel) (counter : Nat) : Nat :=
  let m := 2 ^ counterBits p.protocol
  if p.path = 0 then counter % m
  else
    let w0 := p.fcHigh - m / 2
    w0 + (counter + m - w0 % m) % m

/-- Classes of stage 3 (04 R90). -/
inductive FcClass
  | new | duplicate | stale
deriving DecidableEq, Repr

/-- Stage 3's classification against the head (04 R90). -/
def fcClass (p : Parcel) (c : Nat) : FcClass :=
  if p.path = 0 then .new
  else if p.fcHigh < c then .new
  else if c = p.fcHigh then .duplicate
  else if p.fcHigh - 64 ≤ c then
    if p.fcWindow.getLsbD (p.fcHigh - 1 - c) then .duplicate else .new
  else .stale

/-- FC_HIGH and FC_WINDOW after a commit (04 R93). -/
def fcAfter (p : Parcel) (c : Nat) : Nat × U64 :=
  if p.path = 0 then (c, 0)
  else if p.fcHigh < c then
    let n := c - p.fcHigh
    (c, if 64 < n then 0 else if n = 64 then 1#64 <<< 63 else (p.fcWindow <<< n) ||| (1#64 <<< (n - 1)))
  else (p.fcHigh, p.fcWindow ||| (1#64 <<< (p.fcHigh - 1 - c)))

/-! ### Ends before commit (04 R82, R91, R92) -/

/-- Counters of the codes that end a tag (04 Table 4.10). -/
def countEnd (c : U16) (s : State) : State := modTrav (fun v =>
  if c = OC_DUPLICATE then { v with duplicates := v.duplicates + 1 }
  else if c = OC_REPLAY_STALE then { v with stale := v.stale + 1 }
  else if c = OC_AUTH then { v with authFail := v.authFail + 1 }
  else if c = OC_PARCEL_KEY then { v with keyFail := v.keyFail + 1 }
  else if c = OC_FRAME_FORMAT ∨ c.toNat / 256 % 16 = 2 then { v with formatFail := v.formatFail + 1 }
  else v) s

/-- A frame of an unknown identity: counted, and reported at most once an hour and 1,024 times a sheet (03 R72,
12 Table 12.4). -/
def unknownFrame (a : Arrival) (s : State) : State :=
  let s := { s with store := { s.store with unknown := s.store.unknown + 1 } }
  match a.identity with
  | none => s
  | some id =>
    let now := devTime s
    let old := s.hx.unknowns.find? (fun u => u.1 == id)
    let n : Nat := match old with
      | some u => u.2.2 + 1
      | none => 1
    let again : Bool := match old with
      | some u => decide (u.2.1 + 3600000000000 ≤ now)
      | none => true
    let full : Bool := decide <| 1024 ≤ (s.hx.items.filter (fun i => i.epoch == openEpoch s && i.nums.head? == some 14 && i.sec == 5)).length
    let keep := s.hx.unknowns.filter (fun u => u.1 != id)
    if again ∧ !full then
      let loc := if a.path = 3 then a.cell else a.port
      addEvent 14 (itemJsn s) now [(id.toNat : Int), a.path, loc, n] { s with hx := { s.hx with unknowns := keep ++ [(id, now, 0)] } }
    else match old with
      | some u => { s with hx := { s.hx with unknowns := keep ++ [(id, u.2.1, n)] } }
      | none => s

/-- After a refusal: the first shadow of the tag is free to be classified afresh, and the others become its shadows (04 R91). -/
def freeShadows (asn : Nat) (s : State) : State :=
  let sh := s.trav.tags.filter (fun t => t.shadowOf == some asn)
  match sh with
  | [] => s
  | t :: ts =>
    let first := ts.foldl (fun a b => if b.joinNo < a.joinNo then b else a) t
    modTrav (fun v => { v with tags := v.tags.map (fun x =>
      if x.asn = first.asn then { x with shadowOf := none }
      else if x.shadowOf = some asn then { x with shadowOf := some first.asn } else x) }) s

/-- Does an OC_PARCEL_KEY refusal make no record (04 R82, 03 R58)? -/
def keyQuiet (s : State) (t : Tag) : Bool := match t.parcel with
  | some i => let p := parcelOf s i; p.keyInvalid || p.keyInvalidPending
  | none => false

/-- End a tag with a code, without the shadows' turn (04 R82); a sweep that waited for it advances its parcel (06 R155). -/
def endTagOnly (c : U16) (t : Tag) (s : State) : State :=
  let quiet := c == OC_PARCEL_KEY && keyQuiet s t
  let s := countEnd c s
  let s := if ocClass c = 5 && !quiet then record 16 c [u32 (t.parcel.getD 16777215)] s else s
  let s := match t.parcel, t.arr.identity with
    | some _, some id => headRelease id s
    | _, _ => s
  let s := blSendCommit t c (dropTag t.asn s)
  match t.parcel with
  | some i => sweepRetired i s
  | none => s
where
  /-- a paired active reports the end of a shadowed item (15 R345) -/
  blSendCommit (t : Tag) (c : U16) (s : State) : State :=
    if t.item = 0 ∨ !shadowing s then s else blCommitSend t.item 0 c s

/-- Hand a confirmation to its path (04 R92, R98). -/
def confirmDown (i : Nat) (t : Tag) (again : Bool) (c : Confirm) (s : State) : State :=
  let l := t.arr.linkState
  if c.length = 0 then s
  else { s with downs := s.downs ++ [{ kind := 0, parcel := i, path := t.arr.path, port := t.arr.port, cell := t.arr.cell,
                                       shortAddr := t.arr.shortAddr, length := c.length,
                                       content := (List.range c.length).map (Config.confirmByte c.protocol c.counter), priority := 0, number := c.counter, again := again,
                                       entry := l.getD 8 255 + 256 * l.getD 9 255,
                                       localAddr := ((l.take 8).foldr (fun b n => b + 256 * n) 0), format := l.getD 11 1 }],
                trav := { s.trav with confirmSent := if again then s.trav.confirmSent else s.trav.confirmSent + 1,
                                      resent := if again then s.trav.resent + 1 else s.trav.resent } }

/-- Stage 3 of tags in order (04 R90 to R92): a tag that is classified duplicate or stale ends, with its shadows following; a
new one whose counter an earlier tag of the parcel carries becomes its shadow. `fuel` bounds the chain of ends. -/
def classify : Nat → Nat → State → State
  | 0, _, s => s
  | f + 1, asn, s => match tagOf s asn with
    | none => s
    | some t => match t.parcel with
      | none => s
      | some i =>
        let p := parcelOf s i
        match fcClass p t.counter with
        | .duplicate =>
          let s := endTagOnly OC_DUPLICATE t s
          let s := if t.counter = p.fcHigh then confirmDown i t true p.lastConfirm s else s
          next f asn s
        | .stale => next f asn (endTagOnly OC_REPLAY_STALE t s)
        | .new =>
          match s.trav.tags.find? (fun x => x.parcel == some i && inDomain x && decide (x.joinNo < t.joinNo) && x.counter == t.counter &&
              x.shadowOf.isNone) with
          | some x => setTag { t with shadowOf := some x.asn } s
          | none => s
where
  /-- the shadow whose turn it is, classified afresh (04 R91) -/
  next (f : Nat) (asn : Nat) (s : State) : State :=
    let sh := s.trav.tags.filter (fun t => t.shadowOf == some asn)
    match sh with
    | [] => s
    | t :: ts =>
      let first := ts.foldl (fun a b => if b.joinNo < a.joinNo then b else a) t
      classify f first.asn (freeShadows asn s)

/-- End a tag before commit with a refusal (04 R82, R91). -/
def endTag (c : U16) (t : Tag) (s : State) : State :=
  let s := endTagOnly c t s
  let s := if c = OC_PARCEL_UNKNOWN then unknownFrame t.arr s else s
  let sh := s.trav.tags.filter (fun x => x.shadowOf == some t.asn)
  match sh with
  | [] => s
  | x :: xs =>
    let first := xs.foldl (fun a b => if b.joinNo < a.joinNo then b else a) x
    classify 1024 first.asn (freeShadows t.asn s)

/-! ### Admission and staging (04 R83, R84, R106) -/

/-- Bytes a staged frame takes (04 R106). -/
def stagedSize (t : Tag) : Nat := units64 t.arr.length + 64

/-- Update BP_ACT and BP_LOCAL with the level of burst staging (04 R106). -/
def backPressure (s : State) : State :=
  let n := s.trav.staged.length
  let b := s.trav.stagedBytes
  if 8000000 ≤ n ∨ 1610612736 ≤ b then
    if s.trav.bpAct && s.trav.bpLocal then s
    else modTrav (fun v => { v with bpAct := true, bpLocal := true, bpEvents := v.bpEvents + 1 }) s
  else if n < 7000000 ∧ b < 1342177280 ∧ !s.power.lastGasp then modTrav (fun v => { v with bpAct := false, bpLocal := false }) s
  else s

/-- All clusters run at once when tags or staging ask for it (01 R27). -/
def wakeClusters (s : State) : State :=
  let s := { s with glob := { s.glob with maxTags := max s.glob.maxTags s.trav.tags.length } }
  if (768 < s.trav.tags.length || !s.trav.staged.isEmpty) && serving s then
    { s with glob := { s.glob with clustersUp := 0xF, draining := none } } else s

/-- Deliver a lookup to a tag (03 R70, 04 R87): index and generation, or the code that ends it. -/
def deliver (asn : Nat) (s : State) : State := match tagOf s asn with
  | none => s
  | some t => match t.arr.identity with
    | none => endTag OC_FRAME_FORMAT t s
    | some id => match dirFind s id with
      | none => endTag OC_PARCEL_UNKNOWN t s
      | some e =>
        if e.state = 2 then endTag OC_PARCEL_RETIRING t s
        else
          let t := if t.keysOf = some (e.index, e.generation) then t else { t with keys := (parcelOf s e.index).keys, keysOf := some (e.index, e.generation) }
          setTag { t with parcel := some e.index, generation := e.generation } s

/-- Begin the lookup of a tag: a hit is delivered, a miss is queued or joins an outstanding one (03 R67, R70). -/
def lookup (asn : Nat) (s : State) : State := match tagOf s asn with
  | none => s
  | some t => match t.arr.identity with
    | none => endTag OC_FRAME_FORMAT t s
    | some id =>
      let s := ageSets (setsOf s id) (drainWrites s)
      let goes := ((dirFind s id).map (·.state)) == some 2
      if (headFind s id).isSome ∧ ((headWaits s id).isNone ∨ goes) then
        deliver asn (if goes then headHit id s else headPin id s)
      else if let some h := (if s.store.misses.any (fun m => m.1 == id) ∨ (headPlace s id).isNone then none else headWaits s id) then
        deliver asn (headReturn h (headHit id s))
      else if s.store.misses.any (fun m => m.1 == id) then
        { s with store := { s.store with merged := s.store.merged + 1,
                                         misses := s.store.misses.map (fun m => if m.1 = id then (m.1, m.2 ++ [asn]) else m) } }
      else if s.store.misses.length < 256 then
        { s with store := { s.store with missCount := s.store.missCount + 1, misses := s.store.misses ++ [(id, [asn])] } }
      else s

/-- Lookups that wait for one of the 256 outstanding misses begin when one ends (03 R70). -/
def waitingLookups (s : State) : State :=
  let w := s.trav.tags.filter (fun t => t.state == .lookup && t.parcel.isNone && !s.store.misses.any (fun m => m.2.contains t.asn))
  if s.store.misses.length < 256 then forEach w (fun t s => if s.store.misses.length < 256 then lookup t.asn s else s) s else s

/-- The profile set in force at the start of the epoch of an admission time (05 R119). A standby takes the active's time, which may lie in the
epoch before or after the one that it has in progress itself. -/
def profilesAt (s : State) (t : Nat) : List (List Int) :=
  if epochEnd s s.epoch.current ≤ t then (tabFind s.cad.live 0x0201).getD (cadRows s 0x0201)
  else match s.cad.profilesWas with
    | some (b, rows) => if t < b then rows else cadRows s 0x0201
    | none => cadRows s 0x0201

/-- A tag holds the key slots of the parcel that its identity names, none while it names none (03 R72, R78). -/
def tagKeys (t : Tag) (s : State) : Tag := match t.arr.identity.bind (dirFind s) with
  | some e => { t with keys := (parcelOf s e.index).keys, keysOf := some (e.index, e.generation) }
  | none => { t with keys := [], keysOf := none }

/-- The frame takes its tag, and its lookup begins (04 R84). -/
def tagTake (t : Tag) (s : State) : State :=
  lookup t.asn (wakeClusters (modTrav (fun v => { v with tags := v.tags ++ [t], admitted := v.admitted + 1 }) s))

/-- A frame is appended to burst staging (04 R84, R106). -/
def stageTag (t : Tag) (s : State) : State :=
  wakeClusters (backPressure (modTrav (fun v => { v with staged := v.staged ++ [t], stagedBytes := v.stagedBytes + stagedSize t }) s))

/-- The oldest staged frame leaves burst staging. -/
def unstageTag (t : Tag) (ts : List Tag) (s : State) : State :=
  backPressure (modTrav (fun v => { v with staged := ts, stagedBytes := v.stagedBytes - stagedSize t }) s)

/-- Is a tag free (01 R20, 04 R84)? -/
def tagFree (s : State) : Bool := decide (s.trav.tags.length < 1024)

/-- A shadowed frame takes a tag with the times of the active; its epoch is a function of its admission time (15 R346, 01 R22). -/
def shadowTake (t : Tag) (s : State) : State := tagTake (tagKeys { t with state := .lookup, epoch := epochAt s t.admitAt } s) s

/-- May this unit, a standby, take shadowed frames into tags: resynchronised, or caught up with the bulk copy (15 R346, R352)? -/
def shadowReady (s : State) : Bool := s.twin.role == 2 || s.twin.caughtUp

/-- A SHADOW body after its ITEM (15 Table 15.3). -/
def shadowBytes (t : Tag) (a : Arrival) : List U8 :=
  beBytes 8 t.asn ++ beBytes 8 t.arrival ++ beBytes 8 t.admitAt ++ beBytes 1 t.tq ++ beBytes 1 a.path ++ beBytes 1 a.port ++ zeros 1 ++
    beBytes 2 a.cell ++ beBytes 2 a.shortAddr ++ fixed 16 a.linkState ++ beBytes 2 a.length ++ zeros 6 ++
    (List.range a.length).map (fun k => a.frame.getD k 0)

/-- Admit a frame into a tag: its admission time, epoch, time quality, profile set and the keys in force (04 R84, 01 R24,
05 R119, 03 R78); a paired active shadows it (15 R345). -/
def admitTag (t : Tag) (s : State) : State :=
  let now := devTime s
  let t := tagKeys { t with state := .lookup, admitAt := now, epoch := s.epoch.current, tq := s.glob.tq, profiles := cadRows s 0x0201 } s
  let before := s.twin.item
  let s := shadowItem 0x10 (shadowBytes t t.arr) s
  let t := { t with item := if s.twin.item = before then 0 else s.twin.item }
  tagTake t s

/-- Does the device take frames now (01 R26, 04 R112, 15 R346)? -/
def admitting (s : State) : Bool := s.glob.ingest && !s.trav.stopped && makesEntries s

/-- Do entries that commit before the next frame is admitted still wait for room in the journal (06 R137, 11 R264, 16 R367, 04 R99)? -/
def entriesHeld (s : State) : Bool := s.billing.tqDue || !s.jrn.waiting.isEmpty

/-- A frame whose last symbol came at device time `stamp` arrives with the next ASN (04 R83, R84): it is admitted, staged, or ended
at stage 1. -/
def arriveAt (stamp : Nat) (a : Arrival) (s : State) : State :=
  if !admitting s then s
  else
    let s := commitDue s
    let asn := s.trav.nextAsn
    let t : Tag := { asn := asn, arrival := stamp, arr := a }
    let s := modTrav (fun v => { v with nextAsn := asn + 1 }) s
    if 2048 < a.length then countEnd OC_FRAME_FORMAT s
    else if entriesHeld s then stageTag t s
    else if tagFree s ∧ s.trav.staged = [] ∧ !blockHeld s 16 then admitTag t s
    else stageTag t s

/-- A frame arrives now. -/
def arrive (a : Arrival) (s : State) : State := arriveAt (devTime s) a s

/-- STAGED_FRAME_ADMIT: a tag is free, and the oldest staged frame is admitted (04 R84); at a standby it keeps the active's admission
(15 R346). -/
def stagedAdmit (s : State) : State := match s.trav.staged with
  | [] => s
  | t :: ts =>
    if !tagFree s ∨ blockHeld s 16 then s
    else if !makesEntries s then (if shadowReady s then shadowTake t (unstageTag t ts s) else s)
    else if admitting s then
      let s := commitDue s
      if entriesHeld s then s else admitTag t (unstageTag t ts s)
    else s

/-- HEAD_CACHE_MISS_DONE: the miss of an identity completes (03 R70): the head is installed and pinned, and every lookup joined to
it is delivered in order; or each ends with OC_PARCEL_UNKNOWN. Lookups of a bucket being rebuilt wait (03 R79). -/
def missDone (id : U64) (s : State) : State :=
  match s.store.misses.find? (fun m => m.1 == id) with
  | none => s
  | some m =>
    let s := drainWrites s
    let (a, b) := bucketsOf s id
    if s.store.rebuild.contains a ∨ s.store.rebuild.contains b then s
    else
      match dirFind s id with
      | some e =>
        if (headPlace s id).isNone then s
        else
          let s := { s with store := { s.store with misses := s.store.misses.filter (fun x => x.1 != id) } }
          let s := if e.state = 2 then s else match headWaits s id with
            | some h => headReturn h s
            | none => headFill id e.index s
          let s := forEach (m.2.drop 1) (fun _ t => if e.state = 2 then t else
            { t with store := { t.store with heads := t.store.heads.map (fun h => if h.identity = id then { h with pins := h.pins + 1 } else h) } }) s
          waitingLookups (forEach m.2 deliver s)
      | none =>
        let s := { s with store := { s.store with misses := s.store.misses.filter (fun x => x.1 != id) } }
        waitingLookups (forEach m.2 deliver s)

/-! ### Ordering domains (04 R86 to R88) -/

/-- A place in the join order. -/
def takeJoin (s : State) : Nat × State := (s.trav.nextJoin, modTrav (fun v => { v with nextJoin := v.nextJoin + 1 }) s)

/-- DOMAIN_JOIN: a delivered tag joins its domain once every lower ASN has joined or ended, and stage 3 classifies it (04 R87,
R90). Frames of a RESTORING parcel wait (03 R79). -/
def domainJoin (asn : Nat) (s : State) : State := match tagOf s asn with
  | none => s
  | some t => match t.parcel with
    | none => s
    | some i =>
      let p := parcelOf s i
      let blocked := s.trav.tags.any (fun x => x.state == .lookup && decide (x.asn < asn))
      if t.state ≠ .lookup ∨ blocked ∨ p.state = .restoring ∨ blockHeld s 16 then s
      else
        let (n, s) := takeJoin s
        classify 1024 asn (setTag { t with state := .joined, joinNo := n, counter := extendCounter p t.arr.counter } s)

/-- Is a place of the join order the first of its domain still to commit or end (04 R88), with neither its parcel nor Traverse under C3
containment (04 R105)? -/
def domainClear (s : State) (parcel joinNo : Nat) : Bool :=
  (parcelOf s parcel).state != .restoring && !blockHeld s 16 &&
  !s.trav.tags.any (fun t => inDomain t && decide (t.joinNo < joinNo) && (t.parcel.map domainOf) == some (domainOf parcel)) &&
  !s.trav.items.any (fun x => decide (x.joinNo < joinNo) && domainOf x.parcel == domainOf parcel)

/-- A device-made or ordered entry joins the domain of its parcel (03 R75, R78, R58). -/
def joinItem (it : DomainItem) (s : State) : State :=
  let (n, s) := takeJoin s
  modTrav (fun v => { v with items := v.items ++ [{ it with joinNo := n }] }) s

/-- An entry bound to parcel `i` commits as soon as nothing that joined its domain before is in flight and the journal has room; else it joins the
domain and waits (04 R88). `effect` is what its commit does. -/
def commitInDomain (i gen : Nat) (b : JBody) (effect : State → State) (s : State) : State :=
  if domainClear s i s.trav.nextJoin && mayCommitMade s then effect (commitMade (some i) gen b s)
  else joinItem { parcel := i, body := b } s

/-- Take an item out of its domain. -/
def dropItem (n : Nat) (s : State) : State := modTrav (fun v => { v with items := v.items.filter (fun x => x.joinNo != n) }) s

/-! ### Stage 4 (03 R58, 05 R117, R118, 14 R331) -/

/-- Slots a frame needs (14 Table 14.8), or the code that ends it before any key is read. -/
def headerTest (p : Parcel) (x : Security) : Except U16 (List Nat) :=
  if p.protocol = 1 ∨ p.protocol = 2 then
    if x.tag = .other then .error OC_APDU_UNSUPPORTED
    else if !x.authBit ∨ x.suite + 1 ≠ p.protocol then .error OC_AUTH
    else if x.tag = .ded then .ok [0, 1]
    else if x.keySet = 1 then .ok [2, 1]
    else .ok [0, 1]
  else if p.protocol = 0x12 ∧ !x.afl then .error OC_AUTH
  else .ok [0]

/-- May a parcel be served over the path of a frame: DLMS through a PLC port, and the protocols of its standard through a radio port (09 R205,
10 Table 10.1)? -/
def servedOver (s : State) (a : Arrival) (p : Parcel) : Bool :=
  let dlms := decide (p.protocol = 1 ∨ p.protocol = 2)
  if a.path = 1 then dlms
  else if a.path = 2 then dlms == decide ((cadInt s 0x0510 a.port 1).toNat = 0)
  else true

/-- The PKEK of a generation, where the vault holds it (03 R59, 14 Table 14.6). -/
def kekValue (s : State) (gen : Nat) : Option Nat :=
  if gen = 0 then none
  else if gen = s.keys.pkekGen then (tabFind s.keys.vault 0).map (·.key)
  else if gen = s.keys.pkekPrev then (tabFind s.keys.vault 1).map (·.key)
  else none

/-- The key of a slot: wrapped under a held PKEK, and its integrity check passes (03 R58, R59). -/
def slotKey (s : State) (k : KeySlot) : Option Nat := (kekValue s k.kekGen).bind (fun w => keyUnwrap w k.wrapped)

/-- Is a slot's key usable (03 R58, R59)? -/
def slotUsable (s : State) (k : KeySlot) : Bool := (slotKey s k).isSome

/-- A slot with a key wrapped under the current PKEK (03 R58). -/
def wrapSlot (s : State) (role version key : Nat) : KeySlot :=
  { role := role, version := version, kekGen := s.keys.pkekGen,
    wrapped := match kekValue s s.keys.pkekGen with
      | some w => keyWrap w 16 key
      | none => [] }

/-- A slot wrapped anew under the current PKEK; one whose key no held PKEK opens stays as it is (03 R59). -/
def slotRewrap (s : State) (k : KeySlot) : KeySlot := match slotKey s k with
  | some v => wrapSlot s k.role k.version v
  | none => k

/-- Does the frame decrypt and authenticate under the keys of its slots? -/
def authentic (p : Parcel) (x : Security) (ks : List Nat) : Bool := match ks with
  | [k] => x.key.toNat == k && (if p.protocol = 0x11 then x.plainOk else x.macOk)
  | [k, a] => x.key.toNat == k && x.authKey.toNat == a && x.macOk
  | _ => false

/-- A KEY_INVALID entry for a slot of a parcel joins its domain, unless one waits or the flag is set; a standby takes the active's entry
(03 R58). -/
def keyInvalidEntry (i slot : Nat) (s : State) : State :=
  let p := parcelOf s i
  if p.keyInvalid || p.keyInvalidPending || !makesEntries s then s
  else joinItem { parcel := i, body := .order 0x84 1 0 0 0 [i, p.generation, slot, 0] } (setParcel i { p with keyInvalidPending := true } s)

/-- DECRYPTION_DONE: stage 4 of a joined tag ends it or secures it (03 R58). -/
def decryptionDone (asn : Nat) (s : State) : State := match tagOf s asn with
  | none => s
  | some t => match t.parcel with
    | none => s
    | some i =>
      let p := parcelOf s i
      if t.state ≠ .joined ∨ t.shadowOf.isSome ∨ p.state = .restoring ∨ blockHeld s 16 then s
      else if !servedOver s t.arr p then endTag OC_APDU_UNSUPPORTED t s
      else match headerTest p t.arr.sec with
        | .error c => endTag c t s
        | .ok slots =>
          if p.keyInvalid then endTag OC_PARCEL_KEY t s
          else
            let ks := slots.map (fun n => tabGet t.keys n {})
            if ks.any (fun k => k.role == 0) then endTag OC_PARCEL_KEY t s
            else match slots.find? (fun n => !slotUsable s (tabGet t.keys n {})) with
              | some n => endTag OC_PARCEL_KEY t (keyInvalidEntry i n s)
              | none =>
                if !authentic p t.arr.sec (ks.filterMap (slotKey s)) then endTag OC_AUTH t s
                else if t.arr.sec.compressed then endTag OC_APDU_UNSUPPORTED t s
                else setTag { t with state := .secured } s

/-- KEY_INVALID_COMMIT: the waiting KEY_INVALID entry of a parcel commits in its domain, sets the flag and makes its one record
(03 R58). -/
def keyInvalidCommit (i : Nat) (s : State) : State :=
  match s.trav.items.find? (fun x => x.parcel == i && (match x.body with
      | .order k _ _ _ _ _ => k == 0x84
      | _ => false)) with
  | none => s
  | some x =>
    if !domainClear s i x.joinNo ∨ !mayCommitMade s then s
    else
      let p := parcelOf s i
      let s := commitMade (some i) p.generation x.body (dropItem x.joinNo s)
      let slot := match x.body with
        | .order _ _ _ _ _ ns => (ns.getD 2 0).toNat
        | _ => 0
      record 16 OC_PARCEL_KEY [u32 i, u32 slot] (setParcel i { p with keyInvalid := true, keyInvalidPending := false } s)

/-! ### Stages 5 and 6 (05) -/

/-- Is a date possible? -/
def validDate (y m d : Nat) : Bool := decide (1 ≤ m ∧ m ≤ 12 ∧ 1 ≤ d ∧ d ≤ monthDays (leapYear y) m)

/-- UTC seconds of a local civil second under an image (05 R127): the daylight bit selects an instance of a repeated hour, the
later one without it; a skipped time is taken with the standard offset. -/
def localToUtc (c : List Nat) (l : Int) (summer : Option Bool) : Int :=
  let a := l - 60 * (calStd c + calDelta c)
  let b := l - 60 * calStd c
  let day := dstAt c a
  let std := !dstAt c b
  if day && std then (if summer = some true then a else b)
  else if day then a else b

/-- An endpoint clock as device time (05 R127), for a frame that arrived at `arrival`. -/
def clockConv (s : State) (p : Parcel) (arrival : Nat) : ClockConv := fun inv c =>
  match c.year, c.month, c.day, c.hour, c.minute with
  | some y, some mo, some d, some h, some mi =>
    if c.invalid || !validDate y mo d || decide (23 < h ∨ 59 < mi ∨ 59 < c.second.getD 0 ∨ 99 < c.hundredths.getD 0) then none
    else
      let l := daysOf y mo d * 86400 + (h * 3600 + mi * 60 + c.second.getD 0 : Nat)
      let off := utcAt s.ptp.utc arrival
      let utc := match c.deviation with
        | some v => l + 60 * (if inv then -v else v)
        | none =>
          let k := calOf s p.calendar
          let guess := (l - 60 * calStd (imageAt k arrival) + off) * 1000000000
          localToUtc (imageAt k guess.toNat) l c.summer
      let t := (utc + off) * 1000000000 + (c.hundredths.getD 0 : Int) * 10000000
      if t < 0 ∨ 18446744073709551616 ≤ t then none else some t.toNat
  | _, _, _, _, _ => none

/-- NORMALISATION_DONE: stage 5 of a secured tag (05 R122). -/
def normalisationDone (asn : Nat) (s : State) : State := match tagOf s asn with
  | none => s
  | some t => match t.parcel with
    | none => s
    | some i =>
      if t.state ≠ .secured ∨ t.normal ∨ blockHeld s 16 then s
      else
        let p := parcelOf s i
        let f := (profileIn t.profiles p.veeProfile).getD default
        let base : Rec := { arrival := t.arrival, tq := t.tq, epStatus := if p.protocol < 0x10 then 0 else t.arr.sec.status, identity := p.identity,
                            parcel := i, generation := t.generation, veeProfile := p.veeProfile }
        match normalise (clockConv s p t.arrival) f t.arr.payload base with
        | .error c => endTag c t s
        | .ok (rs, un) => setTag { t with normal := true, records := rs, unmapped := un } s

/-- The estimation instants of a parcel's calendar through its versions (05 R132). -/
def estInstants (s : State) (p : Parcel) (a b iv : Nat) : List Nat :=
  let k := calOf s p.calendar
  sortNats ((imagesOf k).flatMap (fun c => (civilMultiples s.ptp.utc c a b iv).filter (fun t => imageAt k t == c)))

/-- VEE_DONE: stage 6 of a normalised tag, once the parcel's earlier tags have committed or ended (05 R129, R130). -/
def veeDone (asn : Nat) (s : State) : State := match tagOf s asn with
  | none => s
  | some t => match t.parcel with
    | none => s
    | some i =>
      let earlier := s.trav.tags.any (fun x => x.parcel == some i && inDomain x && decide (x.joinNo < t.joinNo))
      if t.state ≠ .secured ∨ !t.normal ∨ earlier ∨ blockHeld s 16 then s
      else
        let p := parcelOf s i
        let f := (profileIn t.profiles p.veeProfile).getD default
        let closed := closedFor s p.calendar asn
        let (rs, est) := veeAll (estInstants s p) (cadNum s 0x0202 0) (if closed = 0 then none else some closed) f t.records p.channels
        setTag { t with state := .ready, records := rs, estimates := est, prevs := prevTimes rs p.channels,
                        confirm := { length := min 92 t.arr.confirmLength, path := t.arr.path, protocol := p.protocol, counter := t.counter } } s

/-! ### Stage 7 (04 R93, R96 to R98) -/

/-- The tail of a tag's READING entry (04 Table 4.6). -/
def tailOf (t : Tag) : ReadTail :=
  { linkState := t.arr.linkState, path := t.arr.path, port := t.arr.port, cell := t.arr.cell, shortAddr := t.arr.shortAddr,
    confirm := t.confirm }

/-- The READING entry of a tag (04 R96). -/
def readingEntry (t : Tag) (i : Nat) : JEntry :=
  { asn := t.asn, arrival := t.arrival, admitAt := t.admitAt, counter := t.counter, parcel := some i, generation := t.generation,
    body := .reading t.records (tailOf t), profiles := t.profiles, grains := t.grains, epoch := t.epoch }

/-- The parcel after a READING entry's commit: counters, path, link state, confirmation, times and channel states (03 R56, R57,
04 R93, R96, 05 R119, R131, 10 R245). `epoch` is the epoch of admission. -/
def headAfter (e : JEntry) (epoch : Int) (rs : List Rec) (t : ReadTail) (p : Parcel) : Parcel :=
  let fc := fcAfter p e.counter
  { p with fcHigh := fc.1, fcWindow := fc.2, path := t.path, port := t.port, cell := t.cell, shortAddr := t.shortAddr, linkState := t.linkState,
           lastConfirm := t.confirm, lastAccept := e.admitAt, lastEpoch := epoch,
           lastSource := (rs.getLast?.map (·.sourceTime)).getD p.lastSource,
           sleepy := if t.path = 2 then (t.linkState.getD 10 0).testBit 2 else p.sleepy,
           channels := channelsAfter rs p.channels,
           channelCount := ((profileIn e.profiles p.veeProfile).map (·.channels.length)).getD p.channelCount }

/-- Register offsets of Table 5.11 that a record advances, by QUALITY bit (05 R135). -/
def readCounts (r : Rec) : List Nat :=
  0x200 :: ([(0, 0x208), (1, 0x20C), (2, 0x210), (3, 0x214), (4, 0x218), (5, 0x21C), (6, 0x220), (9, 0x224), (13, 0x228), (14, 0x22C)].filterMap
    (fun e => if hasQ e.1 r then some e.2 else none))

/-- Advance a reading counter by `n`. -/
def bumpRead (off n : Nat) (t : Tab U32) : Tab U32 := tabMod t off 0 (fun v => v + u32 n)

/-- The estimated values of the entry `j`, kept for its sheet as items of section 0: derived from its records and the channel states before
it (05 R132, 12 R276). -/
def keepEstimates (j : Nat) (p : Parcel) (profiles : List (List Int)) (rs : List Rec) (s : State) : State :=
  let f := (profileIn profiles p.veeProfile).getD default
  let go := rs.foldl (fun (acc : Tab ChannelState × List (List Int)) r =>
    let st := tabGet acc.1 r.channel {}
    let es := match f.channels[r.channel]? with
      | some d =>
        let l := estimates (estInstants s p) d st r
        if l.length ≤ cadNum s 0x0202 0 then l else []
      | none => []
    (tabPut acc.1 r.channel (chanAfter st r), acc.2 ++ es.map (fun e => [(r.seq : Int), (e.1 : Int), e.2]))) (p.channels, [])
  forEach go.2 (fun n s => addItem 0 j n s) s

/-- Commit a READY tag whose conditions hold (04 R97): the entry, the head, the confirmation, the ends of its shadows. -/
def commitTag (t : Tag) (i : Nat) (s : State) : State :=
  let p := parcelOf s i
  let t := { t with grains := cadRows s 0x0404 }
  let e := readingEntry t i
  let s := appendEntry e s
  let j := s.jrn.lastJsn
  let s := keepEstimates j p t.profiles t.records s
  let s := setParcel i (headAfter e t.epoch t.records (tailOf t) p) s
  let s := modTrav (fun v =>
    let r := t.records.foldl (fun r x => (readCounts x).foldl (fun r o => bumpRead o 1 r) r) v.reads
    { v with committed := v.committed + 1,
             reads := bumpRead 0x234 t.estimates.2 (bumpRead 0x230 t.estimates.1 (bumpRead 0x204 t.unmapped r)) }) s
  let s := match t.arr.identity with
    | some id => headDirty id s
    | none => s
  let s := setTag { t with state := .committed, jsn := j } s
  let s := confirmDown i t false t.confirm s
  let s := if t.item = 0 ∨ !shadowing s then s else blCommitSend t.item j 0 s
  forEach (s.trav.tags.filter (fun x => x.shadowOf == some t.asn)) (fun x s => endTagOnly OC_DUPLICATE x s) s

/-- Has the standby acknowledged the SHADOW frame of an item (15 R346)? -/
def covered (s : State) (item : Nat) : Bool :=
  item == 0 || !shadowing s || !s.twin.resynced || !s.twin.link.unacked.any (fun u => u.item == item)

/-- JOURNAL_COMMIT: a READY tag commits when its domain, the recheck, the journal and the cover allow it (04 R88, R93, R97,
03 R75, 15 R346). -/
def journalCommit (asn : Nat) (s : State) : State := match tagOf s asn with
  | none => s
  | some t => match t.parcel with
    | none => s
    | some i =>
      let p := parcelOf s i
      if t.state ≠ .ready ∨ !domainClear s i t.joinNo ∨ !makesEntries s ∨ p.state = .restoring ∨ blockHeld s 16 then s
      else if p.state = .retiring then endTag OC_PARCEL_RETIRING t s
      else if fcClass p t.counter = .stale then endTag OC_REPLAY_STALE t s
      else if !commitRoom (192 + 64 * t.records.length) s then s
      else if !covered s t.item then (if s.twin.holdAt.isSome then s else { s with twin := { s.twin with holdAt := some s.mono } })
      else commitTag t i s

/-! ### Stages 8 and after (04 R85, R88) -/

/-- Is a committed tag the first of its domain still to pass a stage (04 R88)? -/
def engineTurn (s : State) (t : Tag) (undone : Tag → Bool) : Bool :=
  !s.trav.tags.any (fun x => x.state == .committed && undone x && decide (x.jsn < t.jsn) &&
    (x.parcel.map domainOf) == (t.parcel.map domainOf))

/-- The input queue of an engine: 1 Steelyard, 2 archive compressor (04 R81). -/
def engineQueue (s : State) (k : Nat) : List EngineItem := tabGet s.trav.engines k []

/-- Store an engine's input queue. -/
def setEngine (k : Nat) (l : List EngineItem) (s : State) : State := modTrav (fun v => { v with engines := tabPut v.engines k l }) s

/-- Has an engine's input queue room? An empty one always has (04 R85, R105). -/
def engineRoom (s : State) (k : Nat) : Bool :=
  (engineQueue s k).isEmpty || decide ((engineQueue s k).length < Config.engineDepth k)

/-- The watermark of an engine: every READING entry up to it has been applied (04 R101): those of tags that have not passed the stage, and
those in the engine's queue, have not. -/
def engineMark (s : State) (undone : Tag → Bool) (queue : List EngineItem) : Nat :=
  (((s.trav.tags.filter (fun x => x.state == .committed && undone x)).map (·.jsn) ++ queue.map (·.entry.jsn)).map (· - 1)).foldl min s.jrn.lastJsn

/-- Set the watermarks of the tariff engine, Steelyard and archive (04 R101). -/
def setMarks (s : State) : State :=
  let m := tabPut s.jrn.marks 0 (engineMark s (fun t => !t.regDone) [])
  let m := tabPut m 1 (engineMark s (fun t => !t.steelDone) (engineQueue s 1))
  { s with jrn := { s.jrn with marks := tabPut m 2 (engineMark s (fun t => !t.archDone) (engineQueue s 2)) } }

/-- What stages 9 and 10 queue of a committed tag. -/
def engineItem (t : Tag) (i : Nat) : EngineItem :=
  { asn := t.asn, parcel := i, entry := { readingEntry t i with jsn := t.jsn }, records := t.records, tail := tailOf t, prevs := t.prevs }

/-- Stages 9 to 11 of a tag that has passed stage 8 (04 R81, R85): its records are queued for the Steelyard, the archive compressor and the
sheet builder, each where its queue has room. The sheet builder reads the journal, so it takes its copy at once (12 R275). -/
def queueTag (asn : Nat) (s : State) : State := match tagOf s asn with
  | none => s
  | some t => match t.parcel with
    | none => s
    | some i =>
      if t.state ≠ .committed ∨ !t.regDone then s
      else
        let st := !t.steelDone && engineRoom s 1 && engineTurn s t (fun x => !x.steelDone)
        let ar := !t.archDone && engineRoom s 2 && engineTurn s t (fun x => !x.archDone)
        let s := if st then setEngine 1 (engineQueue s 1 ++ [engineItem t i]) s else s
        let s := if ar then setEngine 2 (engineQueue s 2 ++ [engineItem t i]) s else s
        setTag { t with steelDone := t.steelDone || st, archDone := t.archDone || ar, sheetDone := true } s

/-- Tags that a full queue held in COMMITTED queue their copies, in commit order (04 R88, R105). -/
def queueHeld (s : State) : State :=
  let l := s.trav.tags.filter (fun t => t.state == .committed && t.regDone && !(t.steelDone && t.archDone))
  forEach (sortNats (l.map (·.jsn))) (fun j s => match l.find? (fun t => t.jsn == j) with
    | some t => queueTag t.asn s
    | none => s) s

/-- The entry of a frame in an engine's queue, where it is the first of its domain there, its parcel is not being restored and the engine's
block is in service (04 R88, R105). -/
def engineFirst (s : State) (k b asn : Nat) : Option EngineItem :=
  if blockHeld s b then none
  else match (engineQueue s k).find? (fun x => x.asn == asn) with
    | none => none
    | some x =>
      let early := (engineQueue s k).any (fun y => domainOf y.parcel == domainOf x.parcel && decide (y.entry.jsn < x.entry.jsn))
      if early ∨ (parcelOf s x.parcel).state = .restoring then none else some x

/-- An engine takes an entry from its queue, which makes room for tags that waited (04 R105). -/
def engineTake (k asn : Nat) (s : State) : State := queueHeld (setEngine k ((engineQueue s k).filter (fun x => x.asn != asn)) s)

/-- REGISTER_UPDATE: stage 8 of a committed tag (06 R147), after which stages 9 to 11 start together (04 R81). -/
def registerUpdate (asn : Nat) (s : State) : State := match tagOf s asn with
  | none => s
  | some t => match t.parcel with
    | none => s
    | some i =>
      if t.state ≠ .committed ∨ t.regDone ∨ !engineTurn s t (fun x => !x.regDone) ∨ (parcelOf s i).state = .restoring ∨ blockHeld s 16 then s
      else
        let e := { readingEntry t i with jsn := t.jsn }
        setMarks (queueTag asn (setTag { t with regDone := true } (creditEntry i e t.records t.prevs s)))

/-- TAG_RETIRE: a committed tag whose stages are done releases its head pin and is freed (04 R85). -/
def tagRetire (asn : Nat) (s : State) : State := match tagOf s asn with
  | none => s
  | some t =>
    if t.state ≠ .committed ∨ !t.regDone ∨ !t.steelDone ∨ !t.archDone ∨ !t.sheetDone then s
    else
      let s := match t.arr.identity with
        | some id => headRelease id s
        | none => s
      let s := dropTag asn s
      match t.parcel with
      | some i => sweepRetired i s
      | none => s

/-- Do commits wait under R99 or R100 (04 Table 4.11)? -/
def commitsWait (s : State) : Bool := commitWait s || s.trav.tags.any (fun t => t.state == .ready && !tailRoom (192 + 64 * t.records.length) s)

/-- TRAVERSE_STATUS (04 Table 4.11). -/
def traverseStatus (s : State) : U32 :=
  bitAt s.trav.bpAct 31 ||| bitAt s.trav.bpLocal 30 ||| bitAt (commitsWait s) 29 |||
    bitAt (s.jrn.replaying || reloading s) 28 ||| fieldAt s.trav.tags.length 0

/-- CONTAIN_STATUS (04 Table 4.12). -/
def containStatus (s : State) : U32 :=
  let cls (k : Nat) : Nat := ((s.trav.handlings[k]?).map (·.cls)).getD 0
  fieldAt (cls 1) 8 ||| fieldAt (cls 0) 4 ||| fieldAt s.trav.handlings.length 0

end Sys2Proof.Machine
end

