-- ==== Sys2Proof/Machine/Work.lean ====
section
/-! DEFINITION. The background work queues: classes, ages, promotion and preemption (04 R107 to R109). -/

namespace Sys2Proof.Machine

/-- Items of a class, oldest first. -/
def workOf (s : State) (c : Nat) : List WorkItem := tabGet s.trav.work c []

/-- Store the items of a class. -/
def setWork (c : Nat) (l : List WorkItem) (s : State) : State := { s with trav := { s.trav with work := tabPut s.trav.work c l } }

/-- Base level of a class: 0 LOW, 1 MID, 2 HIGH (04 Table 4.8). -/
def workBase (c : Nat) : Nat := if c = 0 ∨ c = 4 ∨ c = 5 then 1 else 0

/-- An item is enqueued at a level. -/
def workPushAt (level c : Nat) (s : State) : State := setWork c (workOf s c ++ [{ enqueued := s.mono, level := level }]) s

/-- An item is enqueued at its class's base level. -/
def workPush (c : Nat) (s : State) : State := workPushAt (workBase c) c s

/-- The `n` oldest items of a class are served. -/
def workServe (c n : Nat) (s : State) : State := setWork c ((workOf s c).drop n) s

/-- Urgent age A of a class in ns (04 R107). -/
def urgentAge (s : State) (c : Nat) : Nat := (cadInt s 0x0101 0 c).toNat * 1000000

/-- QUEUE_PROMOTE: the oldest item of a class passes A and is promoted one level, with one record (04 R108, R109). -/
def queuePromote (c : Nat) (s : State) : State := match workOf s c with
  | [] => s
  | w :: ws =>
    if w.promoted then s
    else
      let s := elapseTo (w.enqueued + urgentAge s c + 4) s
      let lv := min 2 (w.level + 1)
      let s := record 16 OC_PROMOTED [u32 c, u32 ((s.mono - w.enqueued) / 1000000), u32 lv] s
      setWork c ({ w with level := lv, promoted := true } :: ws)
        { s with trav := { s.trav with promotions := s.trav.promotions + 1 } }

/-- The classes that share a resource with a class: the NAND channels' or the application cores' (04 Table 4.8). -/
def sharers (c : Nat) : List Nat := if c = 0 ∨ c = 2 ∨ c = 5 then [0, 2, 5] else [1, 3, 4]

/-- A class's oldest item is at the 2 x A behaviour (04 R108); a raise under R100 puts PARCEL_IMAGE there at once. -/
def overdue (s : State) (c : Nat) : Bool := match workOf s c with
  | [] => false
  | w :: _ => decide (w.enqueued + 2 * urgentAge s c ≤ s.mono) || (c == 5 && s.trav.imageUrgent)

/-- The class that takes the next preempting slot of a shared resource: the next by class index, round-robin, of those at 2 x A
(04 R108). -/
def slotClass (s : State) (g : List Nat) : Option Nat :=
  let due := g.filter (overdue s)
  let after := due.filter (fun c => decide (tabGet s.trav.slotTurn (g.headD 0) 6 < c))
  (after ++ due).head?

/-- QUEUE_URGENT_PREEMPT: the oldest item of a class is at 2 x A, or PARCEL_IMAGE is raised under R100, and the one slot in sixteen of its
shared resource goes to the class whose turn it is (04 R108, R109; log 2). -/
def queuePreempt (c : Nat) (s : State) : State := match workOf s c with
  | [] => s
  | w :: ws =>
    let s := if c = 5 ∧ s.trav.imageUrgent then s else elapseTo (w.enqueued + 2 * urgentAge s c) s
    let g := sharers c
    let turn := match slotClass s g with | some k => tabPut s.trav.slotTurn (g.headD 0) k | none => s.trav.slotTurn
    setWork c ({ w with preempting := true } :: ws) { s with trav := { s.trav with preempts := s.trav.preempts + 1, slotTurn := turn } }

/-- QUEUE_AGE_MS of a class, saturating (04 Table 4.10). -/
def queueAge (s : State) (c : Nat) : U32 := match workOf s c with
  | [] => 0
  | w :: _ => u32 (satTo 4294967295 ((s.mono - w.enqueued) / 1000000))

end Sys2Proof.Machine
end

