-- ==== Sys2Proof/Machine/Flash.lean ====
section
/-! DEFINITION. Flash management: the NAND's areas and blocks, segments, reclamation, read retries, block failures, the journal
reserve and the parcel image (08 R189 to R202). -/

namespace Sys2Proof.Machine

/-- Change the flash state. -/
def modFlash (f : FlashSt → FlashSt) (s : State) : State := { s with flash := f s.flash }

/-! ### Page tags (08 R193, Table 8.6) -/

/-- The die temperature in whole degrees (08 R193, log 125). -/
def wholeDegrees (s : State) : Int := s.power.mainTemp / 10

/-- The tag of the next page of an area, with the sequence numbers of `n` pages taken (08 Table 8.6). -/
def newTag (area n segment logical : Nat) (data : List U8) (s : State) : PageTag × State :=
  let q := tabGet s.flash.seqs area 0
  ({ area := area, temp := wholeDegrees s, segment := segment, time := devTime s, seq := q, logical := logical, crc := crc32c data },
   modFlash (fun f => { f with seqs := tabPut f.seqs area (q + n) }) s)

/-- A reserve control record is written, to the control blocks in turn (08 Table 8.7). -/
def controlWrite (s : State) : State :=
  let c := s.flash.control
  let body := leBytes 4 c.format ++ leBytes 4 s.flash.ringPages ++ s.flash.retired.flatMap (leBytes 4) ++
    leBytes 8 ((s.keys.controlEnd.map (·.2)).getD 0) ++ leBytes 8 (lowMark s)
  let (t, s) := newTag 5 1 c.number ((c.number + 1) % 4) (pageFilled body) s
  modFlash (fun f => { f with control := { c with lowMark := lowMark s, number := c.number + 1, block := (c.number + 1) % 4, tag := t } }) s

/-! ### Population and areas (08 R191, Tables 8.7, 8.10) -/

/-- A number of the fitted population, in NAND_PROFILE order. -/
def nandNum (s : State) (i : Nat) : Nat := (s.flash.fitted.getD i 0).toNat

/-- Channels of a channel mask. -/
def maskChannels (m : Nat) : List Nat := (List.range 8).filter (fun k => m.testBit k)

/-- LUNs of all populated channels. -/
def lunCount (s : State) : Nat := (maskChannels (nandNum s 0)).length * nandNum s 1 * nandNum s 2

/-- Pages of a block in native mode. -/
def pagesPerBlock (s : State) : Nat := max 2 (nandNum s 4)

/-- Journal pages one ring block holds in SLC mode (08 R201). -/
def ringPagesPerBlock (s : State) : Nat := max 1 (pagesPerBlock s / max 1 (nandNum s 3) / 4)

/-- The channel of a block: blocks are numbered so that consecutive ones lie on consecutive LUNs. -/
def channelOfBlock (s : State) (b : Nat) : Nat :=
  let l := b % max 1 (lunCount s)
  (maskChannels (nandNum s 0)).getD (l / max 1 (nandNum s 1 * nandNum s 2)) 0

/-- Does the population match NAND_PROFILE and R191? -/
def nandMatches (s : State) : Bool := match cadRows s 0x0401 with
  | [r] => r == s.flash.fitted && decide (1472 ≤ nandNum s 5)
  | _ => false

/-- Number of indices in ranges. -/
def rangesCount (l : List (Nat × Nat)) : Nat := (l.map (fun r => r.2 - r.1)).sum

/-- Lay out the areas: control, ring, ring spares, image, spare pool, archive, in ascending block numbers (08 Table 8.7, R198,
R202). -/
def flashFormat (s : State) : State :=
  let total := lunCount s * nandNum s 6
  let per := ringPagesPerBlock s
  let ring := min ((1048576 + per - 1) / per) (total - min total 4)
  let spares := (ring * 2 + 99) / 100
  let image := ((5 * capacityOf s.ecc.dramGib + 3) / 4 + pagesPerBlock s - 1) / pagesPerBlock s
  let used := min total (4 + ring + spares + image)
  let rest := total - used
  let pool := rest * cadNum s 0x0409 0 / 1000
  controlWrite <| modFlash (fun f => { f with formatted := true, control := { f.control with format := f.control.format + 1 }, ringPages := min 1048576 (ring * per), ringSpares := spares, archGood := rest - pool,
                                              spare := if pool = 0 then [] else [(used, used + pool)],
                                              free := if rest = pool then [] else [(used + pool, total)] }) s

/-- The spare pool's floor: two blocks per LUN (08 R199). -/
def spareFloor (s : State) : Nat := 2 * lunCount s

/-- FREE_PERMILLE (08 Table 8.8). -/
def freePermille (s : State) : Nat := rangesCount s.flash.free * 1000 / max 1 s.flash.archGood

/-- Take the first index of ranges. -/
def rangesTake : List (Nat × Nat) → Option (Nat × List (Nat × Nat))
  | [] => none
  | (a, b) :: l => if b ≤ a then rangesTake l else some (a, if a + 1 < b then (a + 1, b) :: l else l)

/-- A block for the archive: a free one, or one of the spare pool above its floor (08 R198, R199). -/
def takeArchiveBlock (s : State) : Option (Nat × State) := match rangesTake s.flash.free with
  | some (b, l) => some (b, modFlash (fun f => { f with free := l }) s)
  | none =>
    if spareFloor s < rangesCount s.flash.spare then
      (rangesTake s.flash.spare).map (fun x => (x.1, modFlash (fun f => { f with spare := x.2, archGood := f.archGood + 1 }) s))
    else none

/-- The segment of a serial. -/
def segOf (s : State) (n : Nat) : Option Segment := s.flash.segments.find? (fun g => g.serial == n)

/-- Change a segment. -/
def modSeg (n : Nat) (f : Segment → Segment) (s : State) : State :=
  modFlash (fun v => { v with segments := v.segments.map (fun g => if g.serial = n then f g else g) }) s

/-- Valid pages of a segment (08 R190). -/
def validPages (g : Segment) : Nat := (g.pages.filter (·.valid)).length

/-- Pages of a segment's summary, one 24-byte entry per chunk (08 R190). -/
def summaryPages (chunks : Nat) : Nat := (24 * chunks + 16383) / 16384

/-- Chunks of a segment. -/
def segChunks (g : Segment) : Nat := (g.pages.map (fun p => p.chunks.length)).sum

/-- Seal a segment: its sorted summary is written at its end (08 R190). -/
def sealSeg (n : Nat) (s : State) : State :=
  let l := segSummary (((segOf s n).map (·.pages)).getD [])
  let (t, s) := newTag 3 (summaryPages l.length) n (((segOf s n).map (·.pages.length)).getD 0) (pageFilled ((l.take 682).flatMap summaryBytes)) s
  modSeg n (fun g => { g with sealedAt := some (devTime s), summary := l, summaryTag := t }) s

/-- The open segment. -/
def openSeg (s : State) : Option Segment := s.flash.segments.find? (fun g => g.sealedAt.isNone)

/-- Do two chunks have one identity (08 R189)? -/
def sameChunk (a b : Chunk) : Bool :=
  a.parcel == b.parcel && a.generation == b.generation && a.channel == b.channel && a.base == b.base &&
    (a.channel != 0xFF || a.present == b.present)

/-- A page without the chunks that have a copy among `cs`; one left with none becomes invalid (08 R189). -/
def pageWithout (cs : List Chunk) (p : SegPage) : SegPage :=
  let l := p.chunks.filter (fun c => !cs.any (sameChunk c))
  { p with chunks := l, valid := p.valid && !l.isEmpty }

/-- Only the copies `cs` are kept, in the segments and in the copy under way (08 R189). -/
def dropDuplicates (cs : List Chunk) (s : State) : State :=
  modFlash (fun f => { f with segments := f.segments.map (fun g => { g with pages := g.pages.map (pageWithout cs) }),
                              job := f.job.map (fun j => { j with copied := j.copied.map (pageWithout cs) }) }) s

/-- A segment leaves the table, and its block is erased, unless it was retired (08 R195, R198). -/
def dropSeg (n : Nat) (s : State) : State := match segOf s n with
  | none => s
  | some g => modFlash (fun f => { f with segments := f.segments.filter (fun x => x.serial != n), erasing := if f.retired.contains g.block then f.erasing else f.erasing ++ [g.block],
                                          relocate := f.relocate.filter (fun x => x != n) }) s

/-! ### Full and worn (08 R199) -/

/-- The acknowledged epoch (12 R281): the lowest ACK_THROUGH among head ends with ACK_COUNTS; none where there is no such head end
or one has sent none. -/
def ackedEpoch (s : State) : Option Int :=
  let hs := (cadRows s 0x0702).filter (fun r => (r.getD 2 0).toNat.testBit 2)
  match hs.map (fun r => tabFind s.hx.acks (r.getD 0 0).toNat) with
  | [] => none
  | a :: l => l.foldl (fun x y => match x, y with
    | some x, some y => some (min x y)
    | _, _ => none) a

/-- Sealed segments, oldest seal first. -/
def sealedOldest (l : List Segment) : Option Segment :=
  (l.filter (·.sealedAt.isSome)).foldl (fun a g => match a with
    | none => some g
    | some x => if g.sealedAt.getD 0 < x.sealedAt.getD 0 then some g else some x) none

/-- Is the archive without any room (08 R199)? -/
def archiveStuck (s : State) : Bool :=
  rangesCount s.flash.free == 0 && !s.flash.segments.any (fun g => g.pages.any (fun p => !p.valid)) &&
    decide (rangesCount s.flash.spare ≤ spareFloor s)

/-- Release a segment (08 R199). -/
def releaseSeg (n : Nat) (s : State) : State :=
  dropSeg n (modFlash (fun f => { f with released := f.released + 1 }) s)

/-- Records of a chunk: its verbatim records, or the instants that hold a sample (08 Table 8.3). -/
def chunkRecords (c : Chunk) : Nat := if c.kind = 3 then c.count else ((List.range 16).filter (fun j => c.present.testBit j)).length

/-- Drop a chunk that cannot be written (08 R199, KEEP). -/
def dropChunk (c : Chunk) (s : State) : State :=
  let p := parcelOf s c.parcel
  let n := chunkRecords c
  let s := if p.generation = c.generation then
      setParcel c.parcel { p with archive := { p.archive with notArchived := satTo 4294967295 (p.archive.notArchived + n) } } s else s
  let s := modFlash (fun f => { f with notArchived := f.notArchived + u32 n }) s
  addItemAt s.epoch.current 5 0 [16, (devTime s : Int), (c.parcel : Int), c.channel, c.base, n] s

/-- A chunk must be written and there is no room: SQUEEZE, the write completes with OC_ARCH_FULL, and ARCHIVE_RETENTION's policy follows. While
a block is being erased the retry of PRUNE waits for it (08 R199, log 125). -/
def archiveSqueeze (s : State) : State := match s.flash.waiting with
  | [] => s
  | c :: cs =>
    let s := modFlash (fun f => { f with squeeze := true, writeCode := OC_ARCH_FULL }) s
    let ok : List Segment := match ackedEpoch s with
      | some a => s.flash.segments.filter (fun g => decide (g.epoch ≤ a))
      | none => []
    match (if cadNum s 0x0405 0 = 1 then sealedOldest ok else none) with
    | some g => if s.flash.erasing.isEmpty then releaseSeg g.serial s else s
    | none => workServe 0 1 (dropChunk c (modFlash (fun f => { f with waiting := cs }) s))

/-- Segments older than RETAIN_DAYS whose epochs are acknowledged are released (08 R199). -/
def retainRelease (s : State) : State :=
  let days := cadNum s 0x0405 2
  if days = 0 then s
  else match ackedEpoch s with
    | none => s
    | some a =>
      let old := s.flash.segments.filter (fun g => decide (g.epoch ≤ a) && (match g.sealedAt with
        | some t => decide (t + days * 86400000000000 < devTime s)
        | none => false))
      forEach old (fun g t => releaseSeg g.serial t) s

/-! ### Programming (08 R190) -/

/-- Chunks of the queue that fit one page. -/
def pageFit : Nat → List Chunk → List Chunk
  | _, [] => []
  | n, c :: cs => if c.length ≤ n then c :: pageFit (n - c.length) cs else []

/-- Add a page to a segment, sealing it when no further page and its summary fit (08 R190). -/
def addPage (n : Nat) (cs : List Chunk) (s : State) : State :=
  let (t, s) := newTag 1 1 n (((segOf s n).map (·.pages.length)).getD 0) (archivePage cs) s
  let s := modSeg n (fun g => { g with pages := g.pages ++ [{ page := g.pages.length, chunks := cs, tag := t }],
                                       firstBase := if g.pages.isEmpty then (cs.map (·.base)).foldl min ((cs.head?.map (·.base)).getD 0)
                                                    else (cs.map (·.base)).foldl min g.firstBase,
                                       lastBase := (cs.map (·.base)).foldl max g.lastBase,
                                       epoch := max g.epoch s.epoch.current }) s
  match segOf s n with
  | some g => if pagesPerBlock s ≤ g.pages.length + 1 + summaryPages (segChunks g + 1) then sealSeg n s else s
  | none => s

/-- Open a segment in a block (08 R190). -/
def newSeg (b : Nat) (s : State) : State :=
  modFlash (fun f => { f with segments := f.segments ++ [{ serial := f.nextSerial, block := b, openedAt := s.mono, epoch := s.epoch.current }],
                              nextSerial := f.nextSerial + 1 }) s

/-! ### Reclamation (08 R195 to R197) -/

/-- Score of a victim (08 R196). -/
def victimScore (s : State) (g : Segment) : Nat :=
  let w (i : Nat) : Nat := cadNum s 0x0407 i
  let p := max 1 g.pages.length
  let days := (devTime s - g.sealedAt.getD 0) / 86400000000000
  let peMax := (s.flash.pe.map (·.2)).foldl max 0
  let pe := tabGet s.flash.pe g.block 0
  w 0 * 1000 * (g.pages.length - validPages g) / p + w 1 * 1000 * min days 365 / 365 +
    (if peMax = 0 then 0 else w 2 * 1000 * (peMax - pe) / peMax)

/-- Are victims chosen by score now: from step 12 until HEALTHY, and after a C3 reset of the NAND (08 R196)? -/
def scoredNow (s : State) : Bool := s.flash.scored || s.flash.untilHealthy

/-- The victim: a segment queued for relocation, else by R195 or R196. -/
def victim (s : State) : Option Segment :=
  let sealed := s.flash.segments.filter (·.sealedAt.isSome)
  match s.flash.relocate.filterMap (segOf s) with
  | g :: _ => some g
  | [] =>
    if scoredNow s then
      sealed.foldl (fun a g => match a with
        | none => some g
        | some x =>
          let m := victimScore s g
          let n := victimScore s x
          if n < m ∨ (n = m ∧ g.block < x.block) then some g else some x) none
    else
      (sealed.filter (fun g => decide (validPages g < g.pages.length))).foldl (fun a g => match a with
        | none => some g
        | some x =>
          let m := validPages g
          let n := validPages x
          if m < n ∨ (m = n ∧ g.sealedAt.getD 0 < x.sealedAt.getD 0) then some g else some x) none

/-- What follows the number of free blocks: foreground reclamation below GC_LOW_PERMILLE; background reclamation below GC_BG_PERMILLE until 5
permille above it, while the load test of the last boundary holds; and the end of SQUEEZE at GC_LOW_PERMILLE (08 R195, R199). -/
def fgTest (s : State) : State :=
  let n := freePermille s
  modFlash (fun f => { f with fg := decide (n < cadNum s 0x0406 1) && f.formatted,
                              bg := f.formatted && f.calm && (decide (n < cadNum s 0x0406 0) || (f.bg && decide (n < cadNum s 0x0406 0 + 5))),
                              squeeze := f.squeeze && decide (n < cadNum s 0x0406 1) }) s

/-- Does reclamation have cause to run? -/
def gcWanted (s : State) : Bool := s.flash.fg || s.flash.bg || scoredNow s || !s.flash.relocate.isEmpty

/-- A reclamation copy begins, where one is wanted, none runs and a victim and a target exist; an empty victim is erased at once
(08 R195); none begins while the block drains for a quiescent value (02 R50). -/
def gcStart (s : State) : State :=
  let s := fgTest s
  if !gcWanted s || s.flash.job.isSome || s.cad.draining.contains 0x0406 then s
  else match victim s with
    | none => s
    | some g =>
      if validPages g = 0 then dropSeg g.serial s
      else
        let t := match takeArchiveBlock s with
          | some x => some x
          | none => (rangesTake s.flash.spare).map (fun x => (x.1, modFlash (fun f => { f with spare := x.2, archGood := f.archGood + 1 }) s))
        match t with
        | none => s
        | some (b, s) => workPush 2 (modFlash (fun f => { f with job := some { victim := g.serial, target := b } }) s)

/-- Background reclamation's test at a boundary: `load` is the closed epoch's Traverse load in percent (08 R195). -/
def gcBackground (load : Nat) (s : State) : State :=
  gcStart (modFlash (fun f => { f with calm := decide (load < 20) && s.trav.staged.isEmpty }) s)

/-- A block is retired and listed in the reserve control record (08 R198). -/
def retireBlock (b : Nat) (s : State) : State :=
  if s.flash.retired.contains b then s else controlWrite (modFlash (fun f => { f with retired := f.retired ++ [b] }) s)

/-- The archive area loses a block and takes a replacement of the spare pool while that stands above its floor (08 R198, R199). -/
def archiveReplace (s : State) : State := match rangesTake s.flash.spare with
  | some (b, l) =>
    if spareFloor s < rangesCount s.flash.spare then modFlash (fun f => { f with spare := l, free := rangesAdd b f.free }) s
    else modFlash (fun f => { f with archGood := f.archGood - 1 }) s
  | none => modFlash (fun f => { f with archGood := f.archGood - 1 }) s

/-- The copy of victim `g` ends with the pages verified: they stand in the target as a segment, the victim is erased, and the next copy may
begin (08 R195, R197); a target that took no page is erased too. -/
def gcFinish (j : GcJob) (g : Segment) (done : List SegPage) (s : State) : State :=
  let new : Segment := { g with serial := s.flash.nextSerial, block := j.target, pages := done.zipIdx.map (fun e => { e.1 with page := e.2, valid := true }),
                                sealedAt := if scoredNow s then g.sealedAt else some (devTime s) }
  let s := dropSeg j.victim s
  let s := if done.isEmpty then modFlash (fun f => { f with erasing := f.erasing ++ [j.target], job := none }) s
    else modFlash (fun f => { f with segments := f.segments ++ [new], nextSerial := f.nextSerial + 1, job := none }) s
  workServe 2 1 (gcStart s)

/-- The target of a copy failed: it is retired, the sources of its pages are valid again, and the copy restarts to a fresh target (08 R197). -/
def gcRestart (j : GcJob) (s : State) : State :=
  let s := archiveReplace (retireBlock j.target (modFlash (fun f => { f with targetFails := f.targetFails + 1 }) s))
  let s := modSeg j.victim (fun g => { g with pages := g.pages.map (fun p => if j.copied.any (fun c => c.page == p.page) then { p with valid := !p.chunks.isEmpty } else p) }) s
  match takeArchiveBlock s with
  | some (b, s) => modFlash (fun f => { f with job := some { victim := j.victim, target := b } }) s
  | none => modFlash (fun f => { f with job := none }) s

/-- GC_COPY_VERIFIED: the target page of the copy under way was read back: `ok` where every codeword corrects with at most
VERIFY_MAX_BITS errors (08 R197). -/
def gcCopyVerified (ok : Bool) (s : State) : State := match s.flash.job with
  | none => s
  | some j => match segOf s j.victim with
    | none => modFlash (fun f => { f with job := none, erasing := f.erasing ++ [j.target] }) s
    | some g =>
      if !ok then gcRestart j s
      else match g.pages.filter (·.valid) with
        | [] => gcFinish j g j.copied s
        | p :: rest =>
          let s := modFlash (fun f => { f with gcCopied := f.gcCopied + 1, gcSlots := min 15 (f.gcSlots + 1) }) s
          let s := modSeg j.victim (fun g => { g with pages := g.pages.map (fun x => if x.page = p.page then { x with valid := false } else x) }) s
          let (t, s) := newTag 1 1 s.flash.nextSerial j.copied.length (archivePage p.chunks) s
          let done := j.copied ++ [{ p with tag := t }]
          if rest.isEmpty then gcFinish j g done s
          else modFlash (fun f => { f with job := some { j with copied := done } }) s

/-- CHUNK_PROGRAM_DONE: the next page of waiting chunks is programmed into the open segment (08 R190, R195, R199). -/
def chunkProgramDone (s : State) : State :=
  let s := fgTest s
  if s.flash.waiting = [] ∨ (s.flash.fg ∧ s.flash.job.isSome ∧ s.flash.gcSlots < cadNum s 0x0406 2) then s
  else
    let s1 : Option State := match openSeg s with
      | some _ => some s
      | none => (takeArchiveBlock s).map (fun x => newSeg x.1 x.2)
    match s1 with
    | none => if archiveStuck s then archiveSqueeze s else gcStart s
    | some s => match openSeg s with
      | none => s
      | some g =>
        let cs := pageFit 16384 s.flash.waiting
        let s := dropDuplicates cs s
        let s := addPage g.serial cs s
        gcStart (workServe 0 cs.length (modFlash (fun f => { f with waiting := f.waiting.drop cs.length, gcSlots := 0, writeCode := OC_OK,
                                                                    chunksWritten := f.chunksWritten + u32 cs.length }) s))

/-- SEGMENT_SEAL_TIMEOUT: the open segment has been open for 600 s (08 R190). -/
def segmentSealTimeout (s : State) : State := match openSeg s with
  | none => s
  | some g => sealSeg g.serial (elapseTo (g.openedAt + 600000000000) s)

/-- NAND_ERASE_DONE: an erase completes; the block joins the free blocks, unless it was retired meanwhile, which may end SQUEEZE
(08 R195, R198, R199). -/
def nandEraseDone (b : Nat) (s : State) : State :=
  if !s.flash.erasing.contains b then s
  else
    gcStart (modFlash (fun f => { f with erasing := f.erasing.filter (fun x => x != b),
                                         free := if f.retired.contains b then f.free else rangesAdd b f.free, pe := tabMod f.pe b 0 (· + 1) }) s)

/-! ### Replacement blocks (08 R200) -/

/-- A released segment's block is forced from the archive (08 R200). -/
def forceSegment (s : State) : Option State := match sealedOldest s.flash.segments with
  | none => none
  | some g =>
    let s := record 13 OC_ARCH_FORCED [lo32 g.firstBase, hi32 g.firstBase, lo32 g.lastBase, hi32 g.lastBase] s
    let s := addItemAt s.epoch.current 5 0 [17, (devTime s : Int), (g.firstBase : Int), g.lastBase] s
    some (modFlash (fun f => { f with segments := f.segments.filter (fun x => x.serial != g.serial), released := f.released + 1,
                                      archGood := f.archGood - 1 }) s)

/-- The reserve, its ring or its control blocks, or the image area loses a block (08 R200, Table 8.7): the reserve's own spares first, then the spare pool, the free blocks, and the
oldest sealed segment; with none left the ring is shorter. -/
def reserveReplace (ring : Bool) (s : State) : State :=
  if ring && decide (0 < s.flash.ringSpares) then modFlash (fun f => { f with ringSpares := f.ringSpares - 1 }) s
  else match rangesTake s.flash.spare with
    | some (_, l) => modFlash (fun f => { f with spare := l }) s
    | none => match rangesTake s.flash.free with
      | some (_, l) => modFlash (fun f => { f with free := l, archGood := f.archGood - 1 }) s
      | none => match forceSegment s with
        | some t => t
        | none =>
          if ring then
            let s := modFlash (fun f => { f with ringPages := f.ringPages - ringPagesPerBlock s }) s
            if s.flash.ringPages < 16384 then c4Fault 13 OC_RESERVE_SHORT [u32 s.flash.ringPages] s else s
          else s

/-- Copy the earlier valid pages of a failed archive block: its segment is queued for relocation (08 R197, R198). -/
def moveBlock (b : Nat) (s : State) : State := match s.flash.segments.find? (fun g => g.block == b) with
  | none => s
  | some g =>
    let s := sealSeg g.serial s
    gcStart (workPushAt 1 2 (modFlash (fun f => { f with relocate := if f.relocate.contains g.serial then f.relocate else f.relocate ++ [g.serial] }) s))

/-- NAND_PROGRAM_FAIL on a block of an area (08 Table 8.6): rewritten elsewhere, its valid pages copied, the block retired
(08 R198, R200). -/
def nandProgramFail (area block page : Nat) (s : State) : State :=
  let s := modFlash (fun f => { f with programFails := f.programFails + 1 }) s
  let s := containError 2 (.op 13 block) OC_NAND_PROGRAM_FAIL [u32 block, u32 page] s
  let s := retireBlock block s
  if area = 1 ∨ area = 3 then
    let target := match s.flash.job with
      | some j => j.target == block
      | none => false
    if target then gcCopyVerified false s else archiveReplace (moveBlock block s)
  else reserveReplace (decide (area = 4 ∨ area = 5)) s

/-- NAND_ERASE_FAIL on a block of an area: the block is retired (08 R198, R200). -/
def nandEraseFail (area block : Nat) (s : State) : State :=
  let s := modFlash (fun f => { f with eraseFails := f.eraseFails + 1, erasing := f.erasing.filter (fun x => x != block) }) s
  let s := record 13 OC_NAND_ERASE_FAIL [u32 block] s
  match s.flash.job.filter (fun j => j.target == block) with
  | some j => gcRestart j s
  | none =>
    let s := retireBlock block s
    if area = 1 ∨ area = 3 then fgTest (archiveReplace s) else reserveReplace (decide (area = 4 ∨ area = 5)) s

/-! ### Reads (08 R192 to R194) -/

/-- Band of an age in seconds (08 Table 8.5). -/
def ageBand (t : Nat) : Nat :=
  if t < 86400 then 0 else if t < 7 * 86400 then 1 else if t < 30 * 86400 then 2 else if t < 180 * 86400 then 3
  else if t < 365 * 86400 then 4 else 5

/-- Band of a temperature difference in whole degrees (08 Table 8.5). -/
def tempBand (d : Int) : Nat := if d < -30 then 0 else if d < -10 then 1 else if d ≤ 10 then 2 else if d ≤ 30 then 3 else 4

/-- Band of wear (08 Table 8.5). -/
def wearBand (pe rated : Nat) : Nat :=
  if 4 * pe < rated then 0 else if 2 * pe < rated then 1 else if 4 * pe < 3 * rated then 2 else if pe ≤ rated then 3 else 4

/-- The offset set selected for a read (08 R193). -/
def offsetSet (s : State) (age : Nat) (dt : Int) (pe rated : Nat) : Nat :=
  let i := 25 * ageBand age + 5 * tempBand dt + wearBand pe rated
  match cadRows s 0x0403 with
  | r :: _ => (r.getD i 0).toNat
  | [] => Config.readSet i

/-- The offset sets of the retries (08 R194): s + 1, s - 1, s + 2 and so on within 0 to 63, at most `n` reads. -/
def retrySets (n st : Nat) : List Nat :=
  ((List.range 63).flatMap (fun k => (if st + k + 1 ≤ 63 then [st + k + 1] else []) ++ (if k + 1 ≤ st then [st - (k + 1)] else []))).take n

/-- The levels of an offset set (08 R193, READ_OFFSET_SETS). -/
def offsetLevels (s : State) (k : Nat) : List Int := match cadRows s 0x0402 with
  | [] => Config.readLevels k
  | l => l.getD k []

/-- The segment in a block. -/
def segInBlock (s : State) (block : Nat) : Option Segment := s.flash.segments.find? (fun g => g.block == block)

/-- The tag of a page: of a segment's page or summary, of the image record of parcel `page`, of page `page` of the ring, or of the control
record (08 Table 8.6). -/
def pageTagOf (s : State) (area block page : Nat) : PageTag := match area with
  | 2 => tabGet s.flash.imageTags page {}
  | 3 => ((segInBlock s block).map (·.summaryTag)).getD {}
  | 4 => ((s.flash.ringTags[page]?).map (·.2)).getD {}
  | 5 => s.flash.control.tag
  | _ => (((segInBlock s block).bind (fun g => g.pages.find? (fun p => p.page == page))).map (·.tag)).getD {}

/-- The offset set a read of a page begins with (08 R193). -/
def readSetOf (s : State) (area block page : Nat) : Nat :=
  let t := pageTagOf s area block page
  offsetSet s ((devTime s - t.time) / 1000000000) (wholeDegrees s - t.temp) (tabGet s.flash.pe block 0)
    (if area = 4 ∨ area = 5 then nandNum s 9 else nandNum s 8)

/-- Does a codeword correct with at most VERIFY_MAX_BITS errors under an offset set (08 R192)? `errors` holds, by set, the errors corrected, or
none where it does not correct. -/
def cleanUnder (s : State) (errors : List (Option Nat)) (k : Nat) : Bool := match errors.getD k none with
  | some e => decide (e ≤ cadNum s 0x040C 0)
  | none => false

/-- The sets of the retries a failing codeword takes: up to the first under which it is clean (08 R194). -/
def triedSets (s : State) (errors : List (Option Nat)) (st : Nat) : List Nat :=
  let l := retrySets (cadNum s 0x040B 0) st
  match l.findIdx? (cleanUnder s errors) with
  | some k => l.take (k + 1)
  | none => l

/-- The segment in a block is queued for relocation at MID (08 R194, R198). -/
def relocateSeg (block : Nat) (s : State) : State := match segInBlock s block with
  | some g => gcStart (workPushAt 1 2 (modFlash (fun f => { f with relocate := if f.relocate.contains g.serial then f.relocate else f.relocate ++ [g.serial] }) s))
  | none => s

/-- A codeword of a page is lost: its chunks, or the entries of its journal page (08 R192, 04 R103). -/
def codewordLost (area block page codeword : Nat) (s : State) : State :=
  if area = 1 then match segInBlock s block with
    | none => s
    | some g =>
      let pg := (g.pages.find? (fun p => p.page == page)).getD {}
      let offs := pg.chunks.foldl (fun (acc : Nat × List (Chunk × Bool)) c =>
        (acc.1 + c.length, acc.2 ++ [(c, decide (acc.1 < 2048 * (codeword + 1) ∧ 2048 * codeword < acc.1 + c.length))])) (0, [])
      let kept := (offs.2.filter (fun e => !e.2)).map (·.1)
      let lost := pg.chunks.length - kept.length
      let s := modSeg g.serial (fun g => { g with pages := g.pages.map (fun p =>
        if p.page = page then { p with chunks := kept, valid := p.valid && !kept.isEmpty } else p) }) s
      addItemAt s.epoch.current 5 0 [18, (devTime s : Int), (block : Int), page, lost] s
  else if area = 4 then
    let lo := if page = 0 then 0 else s.jrn.reserve.getD (page - 1) 0
    match s.jrn.reserve[page]? with
    | none => s
    | some hi =>
      let s := record 16 OC_JOURNAL_CORRUPT [lo32 (lo + 1), hi32 (lo + 1)] s
      { s with jrn := { s.jrn with entries := s.jrn.entries.filter (fun e => !(decide (lo < e.jsn) && decide (e.jsn ≤ hi))),
                                   losses := s.jrn.losses ++ [(19, lo + 1, 0xFFFFFF)] } }
  else s

/-- NAND_READ_RETRY: the FTL reads a codeword of a page under the offset set of its band, and where it fails R192 under further sets (08 R192 to
R194). A segment read under another set is queued for relocation. A codeword that after all retries corrects with more than VERIFY_MAX_BITS
errors is read all the same; one that corrects under none of the sets is lost (log 125). -/
def nandReadRetry (area block page codeword : Nat) (errors : List (Option Nat)) (s : State) : State :=
  let st := readSetOf s area block page
  let tried := if cleanUnder s errors st then [] else triedSets s errors st
  let s := forEach (st :: tried) (fun k t => emit (.nandOffsets block page (offsetLevels t k)) t) s
  if tried = [] ∧ cleanUnder s errors st then containC1 s
  else
    let s := modFlash (fun f => { f with readRetries := f.readRetries + u32 tried.length }) s
    if (st :: tried).any (fun k => (errors.getD k none).isSome) then
      (if area = 1 ∨ area = 3 then relocateSeg block (containC1 s) else containC1 s)
    else
      codewordLost area block page codeword (containError 2 (.op 13 block) OC_NAND_UNCORRECTABLE [u32 block, u32 page]
        (modFlash (fun f => { f with uncorrectable := f.uncorrectable + 1 }) s))

/-! ### Journal reserve (08 R201, 04 R99, R100) -/

/-- The LUN of a page of the ring: consecutive journal pages go to LUNs in round-robin order (08 R201). -/
def ringLun (s : State) (k : Nat) : Nat := k % max 1 (lunCount s)

/-- A journal page whose entries follow JSN `lo` up to `hi`, filled to its end with PAD (04 R94). -/
def journalPage (s : State) (lo hi : Nat) : List U8 :=
  let l := (s.jrn.entries.filter (fun e => decide (lo < e.jsn ∧ e.jsn ≤ hi))).flatMap entryBytes
  l ++ padEntry (65536 - l.length)

/-- The data bytes of the first NAND page of a journal page (08 R201). -/
def journalPageHead (s : State) (lo hi : Nat) : List U8 := (journalPage s lo hi).take 16384

/-- The oldest page of a full ring is overwritten: its entries leave the journal, and with them what only they could rebuild
(04 R100, 12 R282). -/
def ringOverwrite (s : State) : State := match s.jrn.reserve with
  | [] => s
  | j :: l =>
    if s.jrn.reserve.length < ringPages s then s
    else modFlash (fun f => { f with ringTags := f.ringTags.drop 1 })
      { s with jrn := { s.jrn with reserve := l, entries := s.jrn.entries.filter (fun e => decide (j < e.jsn)) } }

/-- A journal page whose last JSN is `j` goes to the next place of the ring: four NAND pages of one LUN. A lap is counted as it ends, with a
control record (08 R201, Tables 8.6, 8.7). -/
def ringWrite (j : Nat) (s : State) : State :=
  let s := ringOverwrite s
  let k := s.flash.ringPos
  let (t, s) := newTag 4 4 s.flash.laps k (journalPageHead s (s.jrn.reserve.getLastD 0) j) s
  let s := { s with jrn := { s.jrn with reserve := s.jrn.reserve ++ [j], durable := max s.jrn.durable j } }
  let s := modFlash (fun f => { f with ringTags := f.ringTags ++ [(ringLun s k, t)] }) s
  if ringPages s ≤ k + 1 then controlWrite (modFlash (fun f => { f with ringPos := 0, laps := f.laps + 1, reservePasses := f.reservePasses + 1 }) s)
  else modFlash (fun f => { f with ringPos := k + 1 }) s

/-- A full page is written to the reserve: the tail shrinks and its entries are durable (04 R99). While it would overwrite a page at
or above the low mark it waits, with the image writer preempting (04 R100). -/
def pageToReserve (s : State) : State := match s.jrn.pages with
  | [] => s
  | j :: l =>
    let blocked : Bool := decide (ringPages s ≤ s.jrn.reserve.length) && (match s.jrn.reserve.head? with
      | some x => decide (lowMark s ≤ x)
      | none => true)
    if blocked then { s with trav := { s.trav with imageUrgent := true } }
    else
      ringWrite j { s with jrn := { s.jrn with pages := l }, trav := { s.trav with imageUrgent := false } }

/-! ### The parcel image (08 R202, 03 R68) -/

/-- May the image record of a parcel be written: it changed since its last record, and every entry committed for it has been applied
and its chunks programmed? -/
def imageDue (s : State) (i : Nat) (p : Parcel) : Bool :=
  let changed := match tabFind s.store.image i with
    | some (q, _) => q != p
    | none => p != {}
  changed && !s.trav.tags.any (fun t => t.parcel == some i && t.state == .committed) && !s.flash.waiting.any (fun c => c.parcel == i)

/-- The next parcel the writer comes to, in ascending order from `a`. -/
def imageNextOf (s : State) (a : Nat) : Option (Nat × Parcel) := s.store.parcels.find? (fun e => decide (a ≤ e.1) && imageDue s e.1 e.2)

/-- Write the further sections of the image area, each with the JSN of now (08 R202, 12 R281, 03 R73). -/
def imageSections (s : State) : State :=
  let j := s.jrn.lastJsn
  let s := { s with store := { s.store with imageFree := (s.store.free, j), imageCapacity := s.store.capacity },
                    billing := { s.billing with saved := (s.billing.cals, j) }, hx := { s.hx with acksSaved := s.hx.acks } }
  modFlash (fun f => { f with imageSteel := s.steel, imageMarks := [(0, j), (1, j), (2, j), (3, tabGet s.jrn.marks 3 0)] }) s

/-- Has every committed tag passed stages 8 to 10? The writer waits for that, so that its sections stand at one JSN (log 24). -/
def enginesIdle (s : State) : Bool :=
  s.trav.tags.all (fun t => t.state != .committed || (t.regDone && t.steelDone && t.archDone)) && (engineQueue s 1).isEmpty && (engineQueue s 2).isEmpty

/-- JSN of the last entry applied to a parcel (08 R202): of those bound to it and of its campaign's order, or of its record. -/
def lastApplied (s : State) (i : Nat) (p : Parcel) : Nat :=
  let old := ((tabFind s.store.image i).map (·.2)).getD 0
  let camp := ((tabFind s.hx.campaigns p.campaign.campaign).map (·.jsn)).getD 0
  ((s.jrn.entries.filter (fun e => e.parcel == some i)).map (·.jsn)).foldl max (max old camp)

/-- The data bytes of an image record (08 R202): header, parcel, ring, zero fill. -/
def imageRecord (s : State) (i j : Nat) (p : Parcel) : List U8 :=
  let body := parcelBytes (devTime s) i p ++ archRingBytes p.archive
  let head := leBytes 8 p.identity.toNat ++ leBytes 4 i ++ leBytes 2 p.generation ++ leBytes 8 j ++ leBytes 4 (crc32c body).toNat
  head ++ zeros (64 - head.length) ++ body ++ zeros (8192 - 64 - body.length)

/-- Write the record of one parcel. The writer reads its head through the head cache, which stays as it is (03 R68). -/
def imageWriteOne (i : Nat) (p : Parcel) (s : State) : State :=
  let (t, s) := newTag 2 1 0 i (imageRecord s i (lastApplied s i p) p) s
  let s := modFlash (fun f => { f with imageTags := tabPut f.imageTags i t }) s
  { s with store := { s.store with image := tabPut s.store.image i (p, lastApplied s i p) } }

/-- PARCEL_IMAGE_WRITE: the writer writes the record of the next changed parcel; at the end of a pass it writes the further sections
and begins again (08 R202). -/
def parcelImageWrite (s : State) : State := if !enginesIdle s then s else match imageNextOf s s.flash.imageNext with
  | some (i, p) => imageSections (modFlash (fun f => { f with imageNext := i + 1 }) (workServe 5 1 (imageWriteOne i p s)))
  | none =>
    let s := modFlash (fun f => { f with imageNext := 0, imageSince := s.mono, imagePassS := u32 ((s.mono - f.imageSince) / 1000000000) }) s
    let s := imageSections s
    match imageNextOf s 0 with
    | some (i, p) => modFlash (fun f => { f with imageNext := i + 1 }) (imageWriteOne i p s)
    | none => s

/-! ### Registers -/

/-- ARCH_STATUS (08 Table 8.9). -/
def archStatus (s : State) : U32 :=
  bitAt s.flash.squeeze 31 ||| bitAt s.flash.fg 30 ||| bitAt s.flash.bg 29 ||| bitAt (scoredNow s) 28 |||
    bitAt (s.flash.formatted && decide (s.flash.ringPages < 1048576)) 27 ||| fieldAt s.flash.chUp.toNat 8

end Sys2Proof.Machine
end

