-- ==== Sys2Proof/Machine/Archive.lean ====
section
/-! DEFINITION. The interval archive: series samples, spans, staging rings, exact and grain coding, chunks, the archive sweep
(08 R181 to R188). -/

namespace Sys2Proof.Machine

/-! ### Coding (08 R185, R186) -/

/-- Zigzag of a value wrapped to 64 bits (08 R185). -/
def zigzag (z : Int) : Nat :=
  let w := wrapI64 z
  if w < 0 then (-2 * w - 1).toNat else (2 * w).toNat

/-- The `n` low bits of `v`, most significant first. -/
def bitsMsb : Nat → Nat → List Bool
  | 0, _ => []
  | n + 1, v => v.testBit n :: bitsMsb n v

/-- The Rice code of `u` with parameter `k` (08 R185). -/
def riceCode (k u : Nat) : List Bool :=
  let q := u / 2 ^ k
  if q < 32 then List.replicate q true ++ [false] ++ bitsMsb k u else List.replicate 32 true ++ bitsMsb 64 u

/-- Length of a Rice code in bits (08 R185). -/
def riceLen (k u : Nat) : Nat :=
  let q := u / 2 ^ k
  if q < 32 then q + 1 + k else 96

/-- Bits packed most significant first, padded with zero bits (08 R185). -/
def packBits : Nat → List Bool → List U8
  | 0, _ => []
  | n + 1, l =>
    let b := (l.take 8 ++ List.replicate 8 false).take 8
    BitVec.ofNat 8 (b.foldl (fun a x => 2 * a + (if x then 1 else 0)) 0) :: packBits n (l.drop 8)

/-- Bytes of the bitstream of values with parameter `k`. -/
def riceBytes (k : Nat) (us : List Nat) : Nat := ((us.map (riceLen k)).sum + 7) / 8

/-- The parameter that makes the chunk shortest, the lower among equals (08 R185). -/
def riceBest (us : List Nat) : Nat :=
  (List.range 64).foldl (fun b k => if riceBytes k us < riceBytes b us then k else b) 0

/-- The bitstream of values with parameter `k`. -/
def riceStream (k : Nat) (us : List Nat) : List U8 := packBits (riceBytes k us) (us.flatMap (riceCode k))

/-- Coded values of exact mode: first difference, then differences of differences, wrapping (08 R185). -/
def exactCodes : List Int → List Nat
  | a :: b :: l =>
    let d := b - a
    zigzag d :: go b d l
  | _ => []
where
  /-- after value `p`, reached by difference `d` -/
  go (p d : Int) : List Int → List Nat
    | [] => []
    | v :: l => zigzag (v - p - d) :: go v (v - p) l

/-- Coded values of grain mode: `p` the value before, `e` the carried error, `c` the last code, `h` half the grain; the last interval
is not coded (08 R186). -/
def grainCodes (h : Nat) : Int → Int → Int → List Int → List Nat
  | p, e, c, v :: w :: l =>
    let x := v - p
    let k := roundDiv (x + e) h
    zigzag (k - c) :: grainCodes h v (x + e - k * h) k (w :: l)
  | _, _, _, _ => []

/-! ### Spans (08 R182) -/

/-- The local civil day of an instant: the instant at 24:00 closes its day (08 R182). -/
def archDay (s : State) (p : Parcel) (t : Nat) : Int :=
  (localSec (imageAt (calOf s p.calendar) t) (utcSec s.ptp.utc t) - 1) / 86400

/-- Offset between device time and local civil time at an instant, in s. -/
def archOffset (s : State) (p : Parcel) (t : Nat) : Int :=
  (t : Int) / 1000000000 - localSec (imageAt (calOf s p.calendar) t) (utcSec s.ptp.utc t)

/-- The instants of the local civil day of `t`, in device-time order (08 R182). -/
def dayInstants (s : State) (p : Parcel) (iv t : Nat) : List Nat :=
  let h := 27 * 3600000000000
  (estInstants s p (t - h) (t + h) iv).filter (fun x => archDay s p x == archDay s p t)

/-- The span of an instant: its instants (08 R182); empty where `t` is no instant. -/
def spanOf (s : State) (p : Parcel) (iv t : Nat) : List Nat :=
  let l := dayInstants s p iv t
  match l.idxOf? t with
  | none => []
  | some n =>
    let g := (l.drop (16 * (n / 16))).take 16
    let o := archOffset s p t
    let before := ((g.take (n % 16)).reverse.takeWhile (fun x => archOffset s p x == o)).reverse
    before ++ (g.drop (n % 16)).takeWhile (fun x => archOffset s p x == o)

/-! ### Chunks (08 R188) -/

/-- Bit mask of places. -/
def maskOf (l : List Nat) : Nat := l.foldl (fun m k => m ||| 2 ^ k) 0

/-- Tuples of present samples that differ from the one before, and QMASK (08 R188). -/
def qmaskOf (l : List (Nat × ArchSample)) : Nat × List (Nat × Nat × Nat) :=
  let r := l.foldl (fun (acc : (Nat × Nat × Nat) × Nat × Nat × List (Nat × Nat × Nat)) e =>
    let t := (e.2.quality, e.2.edit, e.2.tq)
    let j := acc.2.1
    if t = acc.1 then (t, j + 1, acc.2.2) else (t, j + 1, acc.2.2.1 ||| 2 ^ j, acc.2.2.2 ++ [t])) ((0, 0, 0), 0, 0, [])
  r.2.2

/-- Is a slot coded in grain mode (08 R186)? -/
def grainMode (x : ArchSlot) : Bool :=
  x.grain != 0 && x.kind == 0 && x.anchor.isSome && x.samples.length == x.count && !x.rollover && !x.reset

/-- The chunk of a closed slot (08 R185, R186, R188). -/
def seriesChunk (i gen ch : Nat) (x : ArchSlot) : Chunk :=
  let vs := x.samples.map (·.2.value)
  let g := grainMode x
  let us := if g then grainCodes (x.grain / 2) (x.anchor.getD 0) 0 0 vs else exactCodes vs
  let k := riceBest us
  let q := qmaskOf x.samples
  { kind := if g then 2 else 1, channel := ch, length := 48 + riceBytes k us + 4 * q.2.length, parcel := i, count := x.count,
    generation := gen, present := maskOf (x.samples.map (·.1)), interval := x.interval, base := x.base, riceK := k,
    anchorPresent := x.anchor.isSome, qmask := q.1, grain := if g then x.grain else 0,
    first := if g then x.anchor.getD 0 else vs.headD 0, checkpoint := if g then vs.getLastD 0 else 0,
    bits := riceStream k us, tuples := q.2 }

/-- The RECORDS chunk of verbatim records (08 R188). -/
def recordsChunk (i gen : Nat) (rs : List Rec) : Chunk :=
  let r := rs.headD {}
  { kind := 3, length := 24 + 64 * rs.length, parcel := i, count := rs.length, generation := gen, present := r.seq, base := r.arrival,
    records := rs }

/-- A chunk is written: it waits for its page; where there is no room at all, SQUEEZE applies (08 R183, R199). -/
def putChunk (c : Chunk) (s : State) : State :=
  let s := workPush 0 (modFlash (fun f => { f with waiting := f.waiting ++ [c] }) s)
  if s.flash.formatted && archiveStuck s && (openSeg s).isNone then archiveSqueeze s else s

/-- Change a parcel's archive state. -/
def modArch (i : Nat) (f : ArchState → ArchState) (s : State) : State :=
  let p := parcelOf s i
  setParcel i { p with archive := f p.archive } s

/-- Close the open slot of a channel (08 R183). -/
def archClose (i ch : Nat) (s : State) : State :=
  let p := parcelOf s i
  match tabFind p.archive.slots ch with
  | none => s
  | some x =>
    if !x.isOpen then s
    else
      let c := seriesChunk i p.generation ch x
      putChunk c (modArch i (fun a => { a with slots := tabPut a.slots ch { x with isOpen := false }, chunks := a.chunks + 1 }) s)

/-- Write out the verbatim area as one RECORDS chunk (08 R183). -/
def flushVerbatim (i : Nat) (s : State) : State :=
  let p := parcelOf s i
  if p.archive.verbatim = [] then s
  else putChunk (recordsChunk i p.generation p.archive.verbatim)
    (modArch i (fun a => { a with verbatim := [], chunks := a.chunks + 1 }) s)

/-- Archive a record verbatim (08 R181, R183). -/
def putVerbatim (i : Nat) (r : Rec) (s : State) : State :=
  let s := modArch i (fun a => { a with verbatim := a.verbatim ++ [r] }) s
  if 10 ≤ (parcelOf s i).archive.verbatim.length then flushVerbatim i s else s

/-- GRAIN of a channel from the ARCHIVE_GRAIN rows of an entry (08 R186). -/
def grainOf (rows : List (List Int)) (profile ch : Nat) : Nat :=
  match rows.find? (fun r => r.getD 0 (-1) == (profile : Int) && r.getD 1 (-1) == (ch : Int)) with
  | some r => (r.getD 3 0).toNat
  | none => 0

/-- Open a slot of a parcel for a span (08 R183); the anchor is the sample of the last instant of the span just before, with no instant
between. -/
def openSlot (s : State) (p : Parcel) (grain kind tag iv : Nat) (span : List Nat) (old : Option ArchSlot) : ArchSlot :=
  let b := span.headD 0
  let anchor : Option Int := match old with
    | some x => if x.tag = tag ∧ x.interval = iv ∧ x.base < b ∧ estInstants s p (x.base + (x.count - 1) * iv * 1000000000) b iv = [] then
        (tabFind x.samples (x.count - 1)).map (·.value) else none
    | none => none
  { anchor := anchor, base := b, grain := grain, count := span.length, isOpen := true, tag := tag, interval := iv, kind := kind }

/-- Close the open slot of a channel whose DEF_TAG or INTERVAL_S has changed, to 0 too (08 R183). -/
def closeChanged (i ch : Nat) (d : ChanDef) (tag : Nat) (s : State) : State := match tabFind (parcelOf s i).archive.slots ch with
  | some x => if x.isOpen ∧ (x.tag ≠ tag ∨ x.interval ≠ d.intervalS) then archClose i ch s else s
  | none => s

/-- Stage a sample at an instant of its span, or answer that its span is closed already (08 R183). `grain` is the channel's GRAIN. -/
def stageSample (i ch : Nat) (d : ChanDef) (grain tag t : Nat) (v : ArchSample) (s : State) : State × Bool :=
  let p := parcelOf s i
  let span := spanOf s p d.intervalS t
  let b := span.headD 0
  match span with
  | [] => (s, false)
  | _ =>
    let s := match tabFind p.archive.slots ch with
      | some x => if x.isOpen ∧ x.base < b then archClose i ch s else s
      | none => s
    let old := tabFind (parcelOf s i).archive.slots ch
    let late : Bool := match old with
      | some x => if x.isOpen then decide (b < x.base) else decide (b ≤ x.base)
      | none => false
    if late then (s, false)
    else
      let x := match old with
        | some x => if x.isOpen then x else openSlot s p grain d.kind tag d.intervalS span old
        | none => openSlot s p grain d.kind tag d.intervalS span none
      let j := (t - x.base) / (max 1 d.intervalS * 1000000000)
      if (tabFind x.samples j).isSome then (s, false)
      else
        let x := { x with samples := tabPut x.samples j v, reset := x.reset || v.quality.testBit 10, rollover := x.rollover || v.quality.testBit 2 }
        (modArch i (fun a => { a with slots := tabPut a.slots ch x }) s, true)

/-- The estimated values formed with a record: instant and value (05 R132). -/
def estimatesOf (s : State) (jsn seq : Nat) : List (Nat × Int) :=
  s.hx.items.filterMap (fun x => if x.sec = 0 ∧ x.jsn = jsn ∧ x.nums.getD 0 (-1) = (seq : Int) then some ((x.nums.getD 1 0).toNat, x.nums.getD 2 0) else none)

/-- The archive compressor applies one record of an entry, after the values estimated with it (08 R181, R183). -/
def archRecord (i : Nat) (e : JEntry) (r : Rec) (s : State) : State :=
  let d? := (profileIn e.profiles r.veeProfile).bind (fun f => f.channels[r.channel]?)
  match d? with
  | none => putVerbatim i r s
  | some d =>
    let tag := defTag r.codeKind r.kind r.code r.nunit
    let series := decide (d.kind ≤ 1) && d.intervalS != 0
    let grain := grainOf e.grains r.veeProfile r.channel
    let s := closeChanged i r.channel d tag s
    let s := if series then forEach (estimatesOf s e.jsn r.seq) (fun x s =>
        let (s, ok) := stageSample i r.channel d grain tag x.1 { value := x.2, quality := 128, edit := 0, tq := r.tq } s
        if ok then s else putVerbatim i (estimatedLeaf r x.1 x.2) s) s else s
    if series && !hasQ 0 r && !hasQ 14 r && !hasQ 13 r then
      let (s, ok) := stageSample i r.channel d grain tag r.sourceTime
        { value := r.value, quality := r.quality, edit := r.editReason, tq := r.tq } s
      if ok then s else putVerbatim i r s
    else putVerbatim i r s

/-! ### The archive sweep (08 R183, R184) -/

/-- The epoch of the latest sweep visit of a parcel index, up to epoch `n`: block k of 65,536 indices is visited in the epochs that leave k
modulo 256, so that the visits are a function of the journal's epochs (08 R184, log 125). -/
def visitEpoch (i : Nat) (n : Int) : Int := n - (n - (i / 65536 : Nat)) % 256

/-- The visit of one parcel in epoch `v`, which began at `t`, once: spans due by billing time then are closed, and verbatim records written
out (08 R183). -/
def archSweepParcel (i : Nat) (v : Int) (t : Nat) (s : State) : State :=
  let p := parcelOf s i
  if !inUse p || p.archive.sweepEpoch == BitVec.ofInt 32 v then s
  else
    let lim := cadNum s 0x040A 0 * 1000000000
    let due := p.archive.slots.filter (fun e => e.2.isOpen &&
      decide (e.2.base + (e.2.count - 1) * e.2.interval * 1000000000 + lim < min t s.billing.time))
    let s := flushVerbatim i (forEach due (fun e t => archClose i e.1 t) s)
    modArch i (fun a => { a with sweepEpoch := BitVec.ofInt 32 v }) s

/-- The epoch in whose journal range an entry lies; a replay takes that of its admission for what no seal has closed (04 R454). -/
def commitEpoch (s : State) (e : JEntry) : Int := match s.hx.ranges.find? (fun r => decide (e.jsn ≤ r.2.1)) with
  | some r => r.1
  | none => if s.jrn.replaying then e.epoch else openEpoch s

/-- The sweep visit that came before an entry, where the parcel has not had it (08 R184). -/
def sweepBefore (i : Nat) (e : JEntry) (s : State) : State :=
  let v := visitEpoch i (commitEpoch s e)
  archSweepParcel i v (((e.admitAt / epochLen s : Nat) + (v - e.epoch)) * (epochLen s : Int)).toNat s

/-- The archive compressor applies an entry's records in RECORD_SEQ order (08 R183, R184). -/
def archEntry (i : Nat) (e : JEntry) (rs : List Rec) (s : State) : State := forEach rs (archRecord i e) (sweepBefore i e s)

/-- ARCHIVE_APPLY: the archive compressor takes a frame's records from its input queue (08 R183, 04 R101). -/
def archiveApply (asn : Nat) (s : State) : State := match engineFirst s 2 13 asn with
  | none => s
  | some x =>
    let t := if x.entry.generation = (parcelOf s x.parcel).generation then archEntry x.parcel x.entry x.records s else s
    setMarks (engineTake 2 asn t)

/-- Does a committed entry of a parcel still wait for the archive compressor? -/
def archPending (s : State) (i : Nat) : Bool :=
  (engineQueue s 2).any (fun x => x.parcel == i) || s.trav.tags.any (fun t => t.parcel == some i && t.state == .committed && !t.archDone)

/-- ARCHIVE_SWEEP_VISIT: the sweep visits the 65,536 parcel indices of the running epoch (08 R183). A parcel with entries still to apply is left to
them, which visit it before a later epoch's records come. -/
def archiveSweepVisit (s : State) : State :=
  let n := s.epoch.current
  let a := 65536 * (n % 256).toNat
  forEach ((s.store.parcels.filter (fun e => decide (a ≤ e.1) && decide (e.1 < a + 65536) && !archPending s e.1)).map (·.1))
    (fun i t => archSweepParcel i n (epochEnd s (n - 1)) t) s

end Sys2Proof.Machine
end

