-- ==== Sys2Proof/Machine/ActLayout.lean ====
section
/-! DEFINITION. Capsules of cell transport as bytes, big-endian: the header, the bodies of every type, and the keys that seal them
(11 Tables 11.1 to 11.10, R249 to R251, R256, R260). -/

namespace Sys2Proof.Machine

/-! ### Capsules received -/

/-- Capsule types (11 Table 11.2). -/
inductive CapType
  | hello | helloAck | frames | downlink | confirm | beacon | credit | close
deriving DecidableEq, Repr

/-- TYPE of a capsule (11 Table 11.2). -/
def capCode : CapType → Nat
  | .hello => 1 | .helloAck => 2 | .frames => 3 | .downlink => 4 | .confirm => 5 | .beacon => 6 | .credit => 7 | .close => 8

/-- CELL of a capsule (11 Table 11.1). -/
def capCell (k : Capsule) : Nat := beAt k.head 4 2

/-- VERSION of a capsule. -/
def capVersion (k : Capsule) : Nat := beAt k.head 2 1

/-- SESSION of a capsule. -/
def capSession (k : Capsule) : Nat := beAt k.head 8 4

/-- SEQ of a capsule. -/
def capSeq (k : Capsule) : Nat := beAt k.head 12 8

/-- ITEMS of a capsule. -/
def capItems (k : Capsule) : Nat := beAt k.head 20 2

/-- Does a body have a length that its type can have (11 Tables 11.2 to 11.10)? -/
def bodyFits (t : CapType) (n items : Nat) : Bool := match t with
  | .hello => n == 48
  | .helloAck => n == 96
  | .frames => decide (8 ≤ n)
  | .downlink => true
  | .confirm => n == 16 * items
  | .beacon => n == 24
  | .credit => n == 24
  | .close => n == 8

/-- Do MAGIC, major version, TYPE and LENGTH of a capsule hold to Tables 11.1 and 11.2 (11 R249)? -/
def capOk (t : CapType) (k : Capsule) : Bool :=
  k.head.length == 32 && beAt k.head 0 2 == 0x4143 && capVersion k / 16 == 1 && beAt k.head 3 1 == capCode t &&
    beAt k.head 6 2 == 48 + k.body.length && decide (48 + k.body.length ≤ 9000) &&
    bodyFits t k.body.length (capItems k)

/-- N_CELL, MIN_VERSION, RX_MAX, DL_SLOTS and CELL_UID of a HELLO (11 Table 11.3). -/
def helloNonce (k : Capsule) : Nat := beAt k.body 0 32
def helloMin (k : Capsule) : Nat := beAt k.body 32 1
def helloRxMax (k : Capsule) : Nat := beAt k.body 34 2
def helloSlots (k : Capsule) : Nat := beAt k.body 36 2
def helloUid (k : Capsule) : Nat := beAt k.body 40 8

/-- The items of a FRAMES body after FIRST_FRAME, up to one whose lengths are inconsistent or whose FORMAT is reserved; none stands for it
(11 R256, Table 11.6). -/
def frameItems : Nat → List U8 → List (Option CellItem)
  | 0, _ => []
  | n + 1, b =>
    let len := beAt b 0 2
    let f := beAt b 4 2
    let format := beAt b 2 1
    let flags := beAt b 3 1
    if f = 0 ∨ 8912 < f ∨ len ≠ (32 + f + 3) / 4 * 4 ∨ b.length < len ∨ format = 0 ∨ 2 < format then [none]
    else some { format := format, relayed := flags.testBit 0, rxTimeValid := flags.testBit 1, length := f, rssi := beAt b 6 1, lqi := beAt b 7 1,
                rxTime := beAt b 8 8, localAddr := BitVec.ofNat 64 (beAt b 16 8), hops := beAt b 24 1 } :: frameItems n (b.drop len)

/-- The entries of a CONFIRM body: DL_ID and RESULT (11 R261). -/
def confirmEntries (k : Capsule) : List (Nat × Nat) :=
  (List.range (capItems k)).map (fun i => (beAt k.body (16 * i) 4, beAt k.body (16 * i + 4) 1))

/-! ### Capsules sent -/

/-- The 32-byte header of a capsule whose body has `n` bytes (11 Table 11.1). -/
def capHeader (t : CapType) (cell version session seq items lastRx n : Nat) : List U8 :=
  beBytes 2 0x4143 ++ beBytes 1 version ++ beBytes 1 (capCode t) ++ beBytes 2 cell ++ beBytes 2 (48 + n) ++ beBytes 4 session ++ beBytes 8 seq ++
    beBytes 2 items ++ zeros 2 ++ beBytes 4 lastRx ++ zeros 4

/-- Body of a HELLO_ACK (11 Table 11.4). -/
def helloAckBody (nDev nCell session version beacon time limit : Nat) : List U8 :=
  beBytes 32 nDev ++ beBytes 32 nCell ++ beBytes 4 session ++ beBytes 1 version ++ beBytes 1 beacon ++ beBytes 2 9000 ++ beBytes 8 time ++
    beBytes 8 limit ++ zeros 8

/-- Body of a CREDIT (11 Table 11.2). -/
def creditBody (limit received : Nat) : List U8 := beBytes 8 limit ++ beBytes 8 received ++ zeros 8

/-- Body of a CLOSE (11 Table 11.2). -/
def closeBody (code : U16) : List U8 := beBytes 2 code.toNat ++ zeros 6

/-- Body of the device's BEACON (11 Table 11.10). -/
def beaconBody (time limit beacon : Nat) (bp : Bool) : List U8 :=
  beBytes 8 time ++ beBytes 8 limit ++ beBytes 1 beacon ++ beBytes 1 (if bp then 1 else 0) ++ zeros 2 ++ zeros 4

/-- A DOWNLINK item up to its FRAME of `n` bytes (11 Table 11.8). -/
def downItem (format id localAddr expiry priority n : Nat) : List U8 :=
  beBytes 2 ((24 + n + 3) / 4 * 4) ++ beBytes 1 format ++ zeros 1 ++ beBytes 4 id ++ beBytes 8 localAddr ++ beBytes 2 expiry ++ beBytes 1 priority ++
    zeros 1 ++ beBytes 2 n ++ zeros 2

/-! ### Keys (11 R251) -/

/-- Key of the HELLO capsules of a cell, upward or downward. -/
def helloKey (psk cell : Nat) (up : Bool) : Nat :=
  beNat (hkdfExpand (hkdfExtract (zeros 32) (beBytes 32 psk)) (asciiBytes (if up then "ACT hello up" else "ACT hello down") ++ beBytes 2 cell))

/-- Key of a session's capsules, upward or downward. -/
def sessionKey (psk nCell nDev cell session version : Nat) (up : Bool) : Nat :=
  beNat (hkdfExpand (hkdfExtract (beBytes 32 nCell ++ beBytes 32 nDev) (beBytes 32 psk))
    (asciiBytes (if up then "ACT up" else "ACT down") ++ beBytes 2 cell ++ beBytes 4 session ++ beBytes 1 version))

end Sys2Proof.Machine
end

