-- ==== Sys2Proof/Machine/Steelyard.lean ====
section
/-! DEFINITION. The Steelyard engine: topology, shares, interval closure, suspicion, outages; and Theodolite: phases, passes and
proposals (chapter 07). -/

namespace Sys2Proof.Machine

/-- Change the Steelyard state. -/
def modSteel (f : SteelSt → SteelSt) (s : State) : State := { s with steel := f s.steel }

/-! ### Topology (07 R160 to R162) -/

/-- Apply node records in order (07 R160). -/
def applyNodes (rows : List (List Int)) (t : Tab BalNode) : Tab BalNode :=
  rows.foldl (fun t r =>
    let n (i : Nat) : Nat := (r.getD i 0).toNat
    if n 6 = 1 then tabDel t (n 0)
    else tabPut t (n 0) { parent := n 1, check := BitVec.ofNat 64 (n 2), kind := n 3, medium := n 4, loss := n 5 }) t

/-- Loss class 0 where BALANCE_LOSS_CLASSES is absent (07 R167). -/
def lossDefault : List (List Int) := [[0, 4, 8, 0, 0, 0, 20000, 30000, 500000, 0, 0]]

/-- The topology and loss classes of a set of cadastre values, in force from an instant. -/
def topoOf (since : Nat) (nodeRows lossRows : List (List Int)) : TopoVer :=
  { since := since, nodes := applyNodes nodeRows [], losses := if lossRows.isEmpty then lossDefault else lossRows }

/-- The topology that governs an interval that starts at `t` (07 R162). -/
def topoAt (s : State) (t : Nat) : TopoVer :=
  match s.steel.topos.find? (fun v => decide (v.since ≤ t)) with
  | some v => v
  | none => s.steel.topos.getLastD { losses := lossDefault }

/-- The topology in force now. -/
def topoNow (s : State) : TopoVer := s.steel.topos.headD { losses := lossDefault }

/-- A topology after further node records and loss classes, in force from an instant (07 R160, R162). -/
def topoAmend (since : Nat) (nodeRows lossRows : List (List Int)) (t : TopoVer) : TopoVer :=
  { since := since, nodes := applyNodes nodeRows t.nodes, losses := if lossRows.isEmpty then t.losses else lossRows }

/-- A topology takes effect where it differs from the one in force (07 R162). -/
def topoPush (t : TopoVer) (s : State) : State :=
  if (topoNow s).nodes = t.nodes ∧ (topoNow s).losses = t.losses ∧ !s.steel.topos.isEmpty then s
  else modSteel (fun v => { v with topos := t :: v.topos }) s

/-- Does every chain of parents reach a root within `f` steps (07 R161)? -/
def reachesRoot : Nat → Tab BalNode → Nat → Bool
  | 0, _, _ => false
  | f + 1, t, n => match tabFind t n with
    | none => false
    | some x => x.parent == 0xFFFFFFFF || reachesRoot f t x.parent

/-- The rules of a topology (07 R161). -/
def topoRules (t : Tab BalNode) : Bool :=
  t.all (fun e => (e.2.parent == 0xFFFFFFFF || (match tabFind t e.2.parent with
    | some x => x.medium == e.2.medium
    | none => false)) && reachesRoot 9 t e.1) &&
  distinctNats ((t.map (fun e => e.2.check.toNat)).filter (· != 0))

/-- The ancestors of a node, itself first. -/
def nodeChain : Nat → Tab BalNode → Nat → List Nat
  | 0, _, _ => []
  | f + 1, t, n => match tabFind t n with
    | none => []
    | some x => n :: (if x.parent = 0xFFFFFFFF then [] else nodeChain f t x.parent)

/-- The node and its ancestors. -/
def ancestors (t : Tab BalNode) (n : Nat) : List Nat := nodeChain 9 t n

/-- Length I of a balance interval, ns (07 R163). -/
def balI (s : State) : Nat := max 1 (cadNum s 0x0303 0) * 60000000000

/-- The node whose child endpoint `i` is for an interval that starts at `st`: an interval before a move keeps the old node (07 R176). -/
def nodeFor (s : State) (i : Nat) (p : Parcel) (st : Nat) : Nat :=
  match s.steel.moved.find? (fun m => m.parcel == i && m.gen == p.generation && decide (st < m.since)) with
  | some m => m.node
  | none => if p.steel.nextFrom ≠ 0 ∧ p.steel.nextFrom * 1000000000 ≤ st then p.steel.nextNode else p.balanceNode

/-! ### Records the engine recognises -/

/-- A voltage record and its phase, 0 where it names none (07 R171, R174). -/
def voltageOf (r : Rec) : Option Nat :=
  if r.nunit ≠ 8 then none
  else if r.codeKind = 1 ∧ r.code.getD 3 0 = 7 then
    (match r.code.getD 2 0 with
    | 32 => some 1
    | 52 => some 2
    | 72 => some 3
    | _ => none)
  else if r.codeKind = 2 ∧ r.code.getD 0 0 = 0x7D ∧ r.code.getD 1 0 = 0x40 then some 0
  else none

/-- A current record and its phase (07 R167). -/
def currentOf (r : Rec) : Option Nat :=
  if r.nunit = 9 ∧ r.codeKind = 1 ∧ r.code.getD 3 0 = 7 then
    (match r.code.getD 2 0 with
    | 31 => some 1
    | 51 => some 2
    | 71 => some 3
    | _ => none)
  else none

/-- Is a record's code listed in a field of (CODE_KIND, x, CODE) rows; the x of the row. -/
def codeIn (s : State) (tag : Nat) (r : Rec) : Option Nat :=
  ((cadRows s tag).find? (fun row => row.getD 0 0 == (r.codeKind : Int) && (row.drop 2).take 6 == r.code.map Int.ofNat)).map (fun row => (row.getD 1 0).toNat)

/-- Good readings that change channel state (05 R130). -/
def changesChannel (r : Rec) : Bool := !(r.kind == 3 || hasQ 0 r || hasQ 14 r || hasQ 13 r)

/-! ### Shares (07 R164, R165, R172) -/

/-- Intervals that a span overlaps, with their shares, the last one taking the rest (07 R164). -/
def splitShares (iv a b : Nat) (d : Int) : List (Nat × Int) :=
  let kl := (b - 1) / iv
  if b ≤ a then [(kl, d)]
  else
    let k0 := a / iv
    let l := (List.range (kl - k0)).map (fun j =>
      let k := k0 + j
      (k, d * ((min b ((k + 1) * iv) - max a (k * iv) : Nat) : Int) / ((b - a : Nat) : Int)))
    l ++ [(kl, d - (l.map (·.2)).sum)]

/-- Saturating u32. -/
def sat32 (n : Nat) : Nat := satTo 4294967295 n

/-- The slot of an endpoint for the interval that ends at second `endS`, taken if there is none (07 R172); true where one was
evicted. -/
def takeSlot (endS : Nat) (t : SteelState) : Nat × SteelState × Bool :=
  let a := tabGet t.slots 0 {}
  let b := tabGet t.slots 1 {}
  if a.endS = endS then (0, t, false)
  else if b.endS = endS then (1, t, false)
  else
    let n := if a.endS = 0 then 0 else if b.endS = 0 then 1 else if b.endS < a.endS then 1 else 0
    let x := tabGet t.slots n {}
    (n, { t with slots := tabPut t.slots n { endS := endS } }, x.endS != 0)

/-- Change the slot of interval `k`. -/
def withSlot (iv k : Nat) (f : SteelSlot → SteelSlot) (i : Nat) (s : State) : State :=
  let p := parcelOf s i
  let (n, t, ev) := takeSlot ((k + 1) * iv / 1000000000) p.steel
  let t := { t with slots := tabMod t.slots n {} f }
  modSteel (fun x => { x with evict := if ev then countUp s x.evict else x.evict }) (setParcel i { p with steel := t } s)

/-- Is interval `k` still open (07 R164, R166)? -/
def intervalOpen (s : State) (k : Nat) : Bool := match s.steel.nextK with
  | some n => decide (n ≤ k)
  | none => true

/-- The first share routed to NEXT_NODE makes it the endpoint's node; open intervals before NEXT_FROM keep the node before (07 R176). -/
def moveEndpoint (i st : Nat) (s : State) : State :=
  let p := parcelOf s i
  if p.steel.nextFrom = 0 ∨ st < p.steel.nextFrom * 1000000000 then s
  else
    let m : NodeMove := { parcel := i, gen := p.generation, since := p.steel.nextFrom * 1000000000, node := p.balanceNode }
    setParcel i { p with balanceNode := p.steel.nextNode, steel := { p.steel with nextFrom := 0, nextNode := 0xFFFFFFFF } }
      (modSteel (fun v => { v with moved := m :: v.moved }) s)

/-- One share of a record of entry `j` for interval `k` (07 R164, R176). -/
def putShare (iv k i j : Nat) (v : Int) (export_ : Bool) (s : State) : State :=
  if !intervalOpen s k then modSteel (fun x => { x with late := countUp s x.late }) s
  else
    let p := parcelOf s i
    let st := k * iv
    let node := nodeFor s i p st
    let s := moveEndpoint i st s
    let h : Share := { k := k, parcel := i, gen := p.generation, node := node, imp := if export_ then 0 else v, exp := if export_ then v else 0, jsn := j }
    let s := modSteel (fun x => { x with shares := x.shares ++ [h] }) s
    withSlot iv k (fun z => if export_ then { z with exp := sat32 ((z.exp : Int) + v).toNat } else { z with imp := sat32 ((z.imp : Int) + v).toNat }) i s

/-- Keep a current record of an open interval and a voltage record, suspect or not, for the engines that use them later (07 R167, R174). -/
def keepSamples (iv i j : Nat) (r : Rec) (s : State) : State :=
  let x (ph : Nat) : Sample := { parcel := i, gen := (parcelOf s i).generation, phase := ph, time := r.sourceTime, value := r.value, jsn := j }
  let s := match currentOf r with
    | some ph => if intervalOpen s (r.sourceTime / iv) then modSteel (fun v => { v with currents := v.currents ++ [x ph] }) s else s
    | none => s
  match voltageOf r with
  | some ph => modSteel (fun v => { v with volts := v.volts ++ [x ph] }) s
  | none => s

/-- The Steelyard's work on one record of an entry (07 R164, R165, R171). -/
def steelRecord (i : Nat) (e : JEntry) (r : Rec) (prev : Nat) (s : State) : State :=
  let iv := balI s
  let target : Nat := match profileIn e.profiles r.veeProfile with
    | some f => ((f.channels[r.channel]?).map (·.target)).getD 0
    | none => 0
  let b := min r.sourceTime e.admitAt
  let s := if target ≠ 1 ∧ target ≠ 3 then s
    else
      let s := if r.delta ≠ 0 ∧ prev ≠ 0 then
          forEach (splitShares iv prev b r.delta) (fun x t => putShare iv x.1 i e.jsn x.2 (target == 3) t) s else s
      if changesChannel r then
        let p := parcelOf s i
        let st := { p.steel with coveredThrough := b / 1000000000,
                                 coveredFrom := if hasQ 11 r || hasQ 10 r then (b + 999999999) / 1000000000 else p.steel.coveredFrom }
        setParcel i { p with steel := st } s
      else s
  let s := keepSamples iv i e.jsn r s
  let k := r.sourceTime / iv
  let open_ := intervalOpen s k
  let s := if r.kind = 3 ∧ (codeIn s 0x0307 r).isSome ∧ open_ then withSlot iv k (fun z => { z with tamper := true }) i s else s
  if (voltageOf r).isSome ∧ (cadInt s 0x0306 0 10 ≤ r.value) ∧ open_ then withSlot iv k (fun z => { z with voltage := true }) i s else s

/-! ### Outages (07 R177, R178) -/

/-- Is an endpoint OUT? -/
def endpointOut (s : State) (i : Nat) : Bool := s.steel.outs.any (fun o => o.id == i && o.finish.isNone)

/-- Is a node OUT? -/
def nodeOut (s : State) (n : Nat) : Bool := s.steel.nodeOuts.any (fun o => o.id == n && o.finish.isNone)

/-- The children of a node for an interval that starts at `st`: indices of endpoints in use. -/
def childrenOf (s : State) (n st : Nat) : List Nat :=
  (s.store.parcels.filter (fun e => inUse e.2 && nodeFor s e.1 e.2 st == n)).map (·.1)

/-- The index of the parcel in use that is a node's check meter (07 R160). -/
def checkIndex (s : State) (x : BalNode) : Option Nat :=
  if x.check = 0 then none else (s.store.parcels.find? (fun e => inUse e.2 && e.2.identity == x.check)).map (·.1)

/-- Was a cell DARK at any time in [a, b)? -/
def darkIn (s : State) (cell a b : Nat) : Bool :=
  s.steel.darks.any (fun d => d.1 == cell && decide (d.2.1 < b) && (match d.2.2 with
    | some u => decide (a < u)
    | none => true))

/-- Endpoints among `ch` with a last gasp within the window from `f`, whether or not they have returned since, and those silent in it
(07 R177). -/
def gaspsFrom (s : State) (ch : List Nat) (w f : Nat) : List Nat × List Nat :=
  (sortNats ((s.steel.outs.filter (fun o => ch.contains o.id && decide (f ≤ o.start ∧ o.start ≤ f + w))).map (·.id)),
   ch.filter (fun i => let p := parcelOf s i
    p.path == 3 && !endpointOut s i && s.steel.darks.any (fun d => d.1 == p.cell && decide (f ≤ d.2.1 ∧ d.2.1 ≤ f + w))))

/-- When a node last returned; 0 where it has not. A last gasp up to then does not make it OUT again (07 R177, log 124). -/
def lastReturn (s : State) (n : Nat) : Nat :=
  (s.steel.nodeOuts.filter (fun o => o.id == n)).foldl (fun m o => max m (o.finish.getD 0)) 0

/-- Judge whether a node is OUT (07 R177): at the first last gasp whose window holds enough of them, or its check meter's. -/
def judgeNode (now n : Nat) (s : State) : State :=
  if nodeOut s n then s
  else match tabFind (topoNow s).nodes n with
    | none => s
    | some x =>
      let ch := childrenOf s n now
      let w := cadNum s 0x0309 0 * 1000000000
      let after := lastReturn s n
      let firsts := sortNats ((s.steel.outs.filter (fun o => ch.contains o.id && decide (after < o.start))).map (·.start))
      let chk : Option OutRec := match checkIndex s x with
        | some c => s.steel.outs.find? (fun (o : OutRec) => o.finish.isNone && o.id == c && decide (after < o.start))
        | none => none
      let enough (f : Nat) : Bool := let g := gaspsFrom s ch w f
        decide (cadNum s 0x0309 2 * ch.length ≤ (g.1.length + g.2.length) * 1000000)
      let at_ : Option Nat := match chk with
        | some c => some ((firsts.find? (fun f => decide (f ≤ c.start ∧ c.start ≤ f + w))).getD c.start)
        | none => firsts.find? enough
      match at_ with
      | none => s
      | some f =>
        let g := gaspsFrom s ch w f
        let cells := sortNats (g.2.map (fun i => (parcelOf s i).cell))
        modSteel (fun v => { v with nodeOuts := v.nodeOuts ++ [{ id := n, start := f, gasps := g.1.length, silent := g.2.length, cells := cells }] }) s

/-- Judge whether a node that is OUT returns at `t`, by entry `j` (07 R177). -/
def judgeReturn (j t n : Nat) (s : State) : State :=
  match s.steel.nodeOuts.find? (fun o => o.id == n && o.finish.isNone) with
  | none => s
  | some o =>
    let ch := childrenOf s n t
    let was := s.steel.outs.filter (fun x => ch.contains x.id && (x.finish.isNone || decide (o.start ≤ x.finish.getD 0)))
    let back := was.filter (fun x => x.finish.isSome)
    let chk := match tabFind (topoNow s).nodes n with
      | some x => (match checkIndex s x with
        | some c => s.steel.outs.any (fun y => y.id == c && y.finish.isSome && decide (o.start ≤ y.start)) && !endpointOut s c
        | none => false)
      | none => true
    if chk || decide (back ≠ [] ∧ cadNum s 0x0309 3 * was.length ≤ back.length * 1000000) then
      let s := modSteel (fun v => { v with nodeOuts := v.nodeOuts.map (fun x =>
        if x.id = n ∧ x.finish.isNone then { x with finish := some t } else x) }) s
      if o.reported then addEvent 11 j t [n, t] s else s
    else s

/-- Outage work of one record of entry `j` (07 R177). -/
def outageRecord (i j : Nat) (r : Rec) (s : State) : State :=
  let role := if r.kind = 3 then (codeIn s 0x0308 r).getD 0 else 0
  let p := parcelOf s i
  let chain := ancestors (topoNow s).nodes p.balanceNode
  let chk := ((topoNow s).nodes.filter (fun e => e.2.check == p.identity)).map (·.1)
  if role = 1 then
    let s := if endpointOut s i then s
      else modSteel (fun v => { v with outs := v.outs ++ [{ id := i, start := r.sourceTime }] }) s
    forEach (chk ++ chain) (fun n s => judgeReturn j r.sourceTime n (judgeNode r.sourceTime n s)) s
  else
    match s.steel.outs.find? (fun o => o.id == i && o.finish.isNone) with
    | none => s
    | some o =>
      if role = 2 ∨ o.start < r.sourceTime then
        let s := modSteel (fun v => { v with outs := v.outs.map (fun x => if x.id = i ∧ x.finish.isNone then { x with finish := some r.sourceTime } else x) }) s
        forEach (chk ++ chain) (judgeReturn j r.sourceTime) s
      else s

/-- At the seal of JSN `j`: outages whose window is over at `b` are reported, the topmost node only: a node that is OUT absorbs what begins at its
descendants within its window, even where it has returned since; single endpoints as ENDPOINT_OUT (07 R178). -/
def outageReport (j b : Nat) (s : State) : State :=
  let w := cadNum s 0x0309 0 * 1000000000
  let nodes := (topoNow s).nodes
  let s := forEach (s.steel.nodeOuts.filter (fun o => !o.reported && decide (o.start + w ≤ b))) (fun o t =>
    let top := !((ancestors nodes o.id).drop 1).any (fun a => t.steel.nodeOuts.any (fun x => x.id == a &&
      decide (x.start ≤ o.start ∧ o.start ≤ x.start + w)))
    let t := modSteel (fun v => { v with nodeOuts := v.nodeOuts.map (fun x => if x.id = o.id ∧ x.start = o.start then { x with reported := top || x.reported } else x) }) t
    if top then
      let t := addEvent 10 j o.start ([(o.id : Int), (o.start : Int), (o.gasps : Int), (o.silent : Int)] ++ o.cells.map Int.ofNat) t
      let t := modSteel (fun v => { v with outageEvents := countUp t v.outageEvents }) t
      match o.finish with
      | some f => addEvent 11 j f [o.id, f] t
      | none => t
    else t) s
  forEach (s.steel.outs.filter (fun o => !o.reported && decide (o.start + w ≤ b))) (fun o t =>
    let under := (ancestors nodes (parcelOf t o.id).balanceNode).any (fun a => t.steel.nodeOuts.any (fun x => x.id == a &&
      decide (x.start ≤ o.start + w) && (match x.finish with
        | some f => decide (o.start ≤ f)
        | none => true)))
    let t := modSteel (fun v => { v with outs := v.outs.map (fun x => if x.id = o.id ∧ x.start = o.start then { x with reported := true } else x) }) t
    if under then t else addEvent 12 j o.start [o.id, o.start] t) s

/-- A cell goes DARK or UP at `t` (07 R177, 11 R264). -/
def cellTransition (cell : Nat) (dark : Bool) (t : Nat) (s : State) : State :=
  if dark then
    let s := modSteel (fun v => { v with darks := v.darks ++ [(cell, t, none)] }) s
    forEach ((topoNow s).nodes.map (·.1)) (fun n u => if u.steel.outs.isEmpty then u else judgeNode t n u) s
  else modSteel (fun v => { v with darks := v.darks.map (fun d => if d.1 = cell ∧ d.2.2.isNone then (d.1, d.2.1, some t) else d) }) s

/-! ### Phase identification (07 R173) -/

/-- PHASE code of a sector under a rotation (07 R173, Table 7.7). -/
def sectorPhase (rotation j : Nat) : Nat :=
  let base := [1, 7, 2, 5, 3, 6].getD j 0
  if rotation = 1 then (match base with
    | 2 => 3
    | 3 => 2
    | 6 => 7
    | 7 => 6
    | x => x) else base

/-- PHASE and PHASE_SOURCE from the two methods (07 R173). -/
def phaseJoin (zc volt : Nat) : Nat × Nat :=
  if zc ≠ 0 ∧ volt ≠ 0 then (zc, if zc % 4 = volt % 4 then 3 else 7)
  else if zc ≠ 0 then (zc, 1)
  else if volt ≠ 0 then (volt, 2)
  else (0, 0)

/-- Set an endpoint's phase; a change is a PHASE event of instant `at_`: the frame's admission, or the pass (07 R173, log 124). -/
def setPhase (i j at_ : Nat) (zc volt : Nat) (s : State) : State :=
  let p := parcelOf s i
  let (ph, src) := phaseJoin zc volt
  let changed := p.theo.phase ≠ ph ∨ p.theo.source ≠ src
  let s := setParcel i { p with theo := { p.theo with phase := ph, source := src, voltPhase := volt } } s
  if changed then addEvent 7 j at_ [i, ph, src, volt] s else s

/-- The zero-crossing angle of an accepted frame (09 Table 9.3). -/
def frameAngle (t : ReadTail) : Option Nat :=
  if t.path ≠ 1 then none
  else
    let a := t.linkState.getD 4 255 + 256 * t.linkState.getD 5 255
    if a < 36000 then some a else none

/-- Votes of a frame with an angle, admitted at `at_` (07 R173). -/
def phaseVote (i j at_ : Nat) (t : ReadTail) (s : State) : State := match frameAngle t with
  | none => s
  | some a =>
    let ref := (cadInt s 0x0312 0 (3 * t.port)).toNat
    let rot := (cadInt s 0x0312 0 (3 * t.port + 1)).toNat
    let th := (a + 36000 - ref % 36000) % 36000
    let sec := ((th + 3000) / 6000) % 6
    let c := sec * 6000
    let dist := let x := (th + 36000 - c) % 36000; min x (36000 - x)
    if cadNum s 0x0312 18 < dist then s
    else
      let p := parcelOf s i
      let v := tabMod p.theo.votes sec 0 (· + 1)
      let v := if tabGet v sec 0 = 65535 then v.map (fun e => (e.1, e.2 / 2)) else v
      let s := modSteel (fun x => { x with phaseVotes := countUp s x.phaseVotes }) (setParcel i { p with theo := { p.theo with votes := v } } s)
      let total := (v.map (·.2)).sum
      let n := tabGet v sec 0
      if cadNum s 0x0312 19 ≤ n ∧ 9 * total ≤ 10 * n then setPhase i j at_ (sectorPhase rot sec) p.theo.voltPhase s else s

/-- IS_CHECK of a parcel: whether its identity is the check meter of a defined node, as the last applied entry found it (07 Table 7.6). -/
def markCheck (i : Nat) (s : State) : State :=
  let p := parcelOf s i
  let c := (topoNow s).nodes.any (fun e => e.2.check != 0 && e.2.check == p.identity)
  if p.steel.isCheck = c then s else setParcel i { p with steel := { p.steel with isCheck := c } } s

/-- The Steelyard's work on a READING entry (07 R164 to R179). -/
def steelEntry (i : Nat) (e : JEntry) (rs : List Rec) (t : ReadTail) (prevs : List Nat) (s : State) : State :=
  let s := forEach (rs.zip prevs) (fun x s => outageRecord i e.jsn x.1 (steelRecord i e x.1 x.2 s)) (markCheck i s)
  phaseVote i e.jsn e.admitAt t s

/-- STEELYARD_APPLY: the Steelyard engine takes a frame's records from its input queue (07 R164, 04 R101). -/
def steelyardApply (asn : Nat) (s : State) : State := match engineFirst s 1 17 asn with
  | none => s
  | some x =>
    let t := if x.entry.generation = (parcelOf s x.parcel).generation then steelEntry x.parcel x.entry x.records x.tail x.prevs s else s
    setMarks (engineTake 1 asn t)

/-! ### Closing intervals (07 R166 to R172) -/

/-- Sum of squares over count of a check meter's current records of a phase in [a, b), from entries up to JSN `limit` (07 R166, R167). -/
def meanSquare (s : State) (i ph a b limit : Nat) : Option Int :=
  let g := (parcelOf s i).generation
  let vs := (s.steel.currents.filter (fun r => r.parcel == i && r.gen == g && r.phase == ph &&
    decide (r.jsn ≤ limit ∧ a ≤ r.time ∧ r.time < b))).map (·.value)
  if vs.isEmpty then none else some ((vs.map (fun v => v * v)).sum / vs.length)

/-- A row of the loss class of a node (07 Table 7.2). -/
def lossRow (t : TopoVer) (c : Nat) : List Int := (t.losses.find? (fun r => r.getD 0 (-1) == (c : Int))).getD (lossDefault.headD [])

/-- Is an endpoint covered for [a, b), not having retired before its end (07 R165)? -/
def isCovered (p : Parcel) (a b : Nat) : Bool :=
  !(p.state == .retiring && decide (p.retireTime < b)) &&
  decide (p.steel.coveredThrough ≠ 0 ∧ p.steel.coveredFrom * 1000000000 ≤ a ∧ b ≤ p.steel.coveredThrough * 1000000000)

/-- The result of closing one node's interval (07 R166 to R168). -/
structure NodeClose where
  state : Nat := 0
  model : Nat := 1
  x : Int := 0
  y : Int := 0
  z : Int := 0
  children : Nat := 0
  uncovered : Nat := 0
deriving DecidableEq, Repr, Inhabited

/-- Import minus export shares of interval `k` chosen by `f`, of entries up to JSN `limit` (07 R166). -/
def netShares (s : State) (k limit : Nat) (f : Share → Bool) : Int :=
  ((s.steel.shares.filter (fun h => h.k == k && decide (h.jsn ≤ limit) && f h)).map (fun h => h.imp - h.exp)).sum

/-- The children of a node for the interval [a, b): those enrolled before its end (07 R165). -/
def intervalChildren (s : State) (n a b : Nat) : List Nat := (childrenOf s n a).filter (fun i => decide ((parcelOf s i).enrolTime < b))

/-- Endpoints released since, which were children of a node in the interval [a, b): they retired before its end (07 R165). -/
def goneChildren (s : State) (n a b : Nat) : List Parcel :=
  (s.steel.gone.filter (fun g => decide (a < g.2.1) && decide (g.2.2.enrolTime < b) && nodeFor s g.1 g.2.2 a == n)).map (·.2.2)

/-- Judge one node for interval `k`, with entries up to JSN `limit` (07 R166 to R168). -/
def judgeInterval (s : State) (k limit n : Nat) (x : BalNode) : NodeClose :=
  let iv := balI s
  let a := k * iv
  let b := a + iv
  let t := topoAt s a
  let sec := iv / 1000000000
  let loss := lossRow t x.loss
  let chk := checkIndex s x
  let ch := (intervalChildren s n a b).map (parcelOf s) ++ goneChildren s n a b
  let unc := ch.filter (fun p => !isCovered p a b)
  let xin := match chk with
    | some c => netShares s k limit (fun h => h.parcel == c && h.gen == (parcelOf s c).generation)
    | none => 0
  let y := netShares s k limit (fun h => h.node == n)
  let fixed : Int := loss.getD 4 0 * sec / 3600
  let ms := match chk with
    | some c => [1, 2, 3].map (fun ph => meanSquare s c ph a b limit)
    | none => [none]
  let cur := x.medium = 0 ∧ loss.getD 5 0 ≠ 0 ∧ ms.all Option.isSome
  let var : Int := if cur then loss.getD 5 0 * (ms.map (fun m => m.getD 0)).sum * sec / 3600000000000
    else max xin 0 * loss.getD 6 0 / 1000000
  let z := fixed + var
  let u := xin - y - z
  let dark (p : Parcel) : Bool := p.path == 3 && darkIn s p.cell a b
  let out := (ancestors t.nodes n).any (fun m => s.steel.nodeOuts.any (fun o => o.id == m && decide (o.start < b) && (match o.finish with
    | some f => decide (a < f)
    | none => true)))
  let gone : Bool := match chk with
    | some c => (parcelOf s c).state != .active
    | none => true
  let st := if out || (match chk with
      | some c => dark (parcelOf s c)
      | none => false) || unc.any dark then 3
    else if gone then 4
    else if (match chk with
      | some c => !isCovered (parcelOf s c) a b
      | none => true) || decide ((loss.getD 9 0).toNat * ch.length / 1000000 < unc.length) then 2
    else if (0 < xin ∧ loss.getD 8 0 < u ∧ loss.getD 7 0 * xin < u * 1000000) ∨ (xin ≤ 0 ∧ loss.getD 8 0 < u) then 1
    else 0
  { state := st, model := if cur then 0 else 1, x := xin, y := y, z := z, children := ch.length, uncovered := unc.length }

/-- Terms of an endpoint's score as bits of Table 7.5 rows, its new run of zero intervals (07 R171). -/
def scoreTerms (s : State) (flagged : Bool) (st : SteelState) (slot : Option SteelSlot) : Nat × Nat :=
  let prm (i : Nat) : Nat := cadNum s 0x0306 i
  let bit (b : Bool) (k : Nat) : Nat := if b then 2 ^ k else 0
  match slot with
  | none => (bit flagged 0, 0)
  | some z =>
    let run := if z.imp = 0 ∧ z.voltage then satTo 255 (st.zeroRun + 1) else 0
    let rev := (decide (0 < z.exp) && !st.producer) || decide (z.imp < z.exp)
    let prof := decide (st.shortMean * 100 < st.longMean * prm 7 ∧ prm 11 ≤ st.longMean)
    (bit flagged 0 + bit z.tamper 1 + bit rev 2 + bit (decide (prm 6 ≤ run ∧ run ≠ 0)) 3 + bit prof 4, run)

/-- A slot without the shares of entries above JSN `limit`, which the closure of interval `k` does not see (07 R166). -/
def slotSeen (s : State) (k limit i : Nat) (z : SteelSlot) : SteelSlot :=
  let late := s.steel.shares.filter (fun h => h.k == k && h.parcel == i && h.gen == (parcelOf s i).generation && decide (limit < h.jsn))
  { z with imp := ((z.imp : Int) - (late.map (·.imp)).sum).toNat, exp := ((z.exp : Int) - (late.map (·.exp)).sum).toNat }

/-- Score one child endpoint at the closure of interval `k` by the seal of JSN `limit` (07 R171, R172). -/
def scoreChild (iv k limit : Nat) (flagged : Bool) (e : Int) (i : Nat) (s : State) : State :=
  let p := parcelOf s i
  let endS := (k + 1) * iv / 1000000000
  let hit := [0, 1].find? (fun n => (tabGet p.steel.slots n {}).endS == endS)
  let slot := hit.map (fun n => slotSeen s k limit i (tabGet p.steel.slots n {}))
  let (terms, run) := scoreTerms s flagged p.steel slot
  let add := ((List.range 5).filter (fun b => terms.testBit b)).map (fun b => cadNum s 0x0306 b)
  let score := min 1000 (p.steel.score * cadNum s 0x0306 5 / 256 + add.sum)
  let x : Int := (slot.map (·.imp)).getD 0
  let mean (m : Nat) (d : Int) : Nat := sat32 ((m : Int) + (x - m) / d).toNat
  let at_ := cadNum s 0x0306 9
  let rep := decide (at_ ≤ score) && !p.steel.reported
  let reported := if rep then true else if score < at_ - 100 then false else p.steel.reported
  let st := { p.steel with score := score, zeroRun := run, shortMean := mean p.steel.shortMean 16, longMean := mean p.steel.longMean 512,
                           reported := reported, slots := match hit with
                             | some n => tabDel p.steel.slots n
                             | none => p.steel.slots }
  let s := setParcel i { p with steel := st } s
  if rep then
    addItemAt e 5 limit [6, (k + 1) * iv, i, p.generation, score, terms] (modSteel (fun v => { v with suspects := countUp s v.suspects }) s)
  else s

/-- Close the interval of one node; results go into the sheet of epoch `e` (07 R166 to R172). -/
def closeNode (k limit : Nat) (e : Int) (n : Nat) (x : BalNode) (s : State) : State :=
  let iv := balI s
  let r := judgeInterval s k limit n x
  let loss := lossRow (topoNow s) x.loss
  let fn := (loss.getD 1 4).toNat
  let fm := (loss.getD 2 8).toNat
  let w0 := tabGet s.steel.windows n []
  let w := (if r.state = 0 ∨ r.state = 1 then (r.state == 1) :: w0 else w0).take fm
  let bad := (w.filter id).length
  let flag := decide (fn ≤ bad)
  let was := s.steel.flagged.contains n
  let s := modSteel (fun v => { v with windows := tabPut v.windows n w,
                                       flagged := if flag then (if was then v.flagged else v.flagged ++ [n]) else v.flagged.filter (· != n),
                                       closed := countUp s v.closed,
                                       invalid := if r.state = 2 ∨ r.state = 4 then countUp s v.invalid else v.invalid,
                                       suspended := if r.state = 3 then countUp s v.suspended else v.suspended }) s
  let s := if flag && !was then addItemAt e 5 limit [4, (k * iv : Nat), n, (k * iv : Nat)] s
    else if was && !flag then addItemAt e 5 limit [5, (k * iv : Nat), n, (k * iv : Nat)] s else s
  let s := if cadNum s 0x0305 0 = 1 ∨ r.state = 1 ∨ flag then
      addItemAt e 3 limit [n, x.kind, (k * iv : Nat), r.state, r.model, r.x, r.y, r.z, r.x - r.y - r.z, r.children, r.uncovered,
        if flag then 1 else 0, bad] s else s
  if r.state = 3 then s else forEach (intervalChildren s n (k * iv) ((k + 1) * iv)) (scoreChild iv k limit flag e) s

/-- Record a check meter whose BALANCE_NODE is not its node's parent, once per node (07 R162). -/
def checkParents (s : State) : State :=
  forEach (topoNow s).nodes (fun e t => match checkIndex t e.2 with
    | some c =>
      let p := parcelOf t c
      if p.balanceNode ≠ e.2.parent ∧ !t.steel.mismatch.contains e.1 then
        record 17 OC_CHECK_PARENT_MISMATCH [u32 e.1, u32 p.balanceNode] (modSteel (fun v => { v with mismatch := v.mismatch ++ [e.1] }) t)
      else t
    | none => t) s

/-- Close interval `k` for every node; shares of entries above JSN `limit` come late (07 R166). -/
def closeInterval (k limit : Nat) (e : Int) (s : State) : State :=
  let t := topoAt s (k * balI s)
  let s := forEach t.nodes (fun x u => closeNode k limit e x.1 x.2 u) s
  let late := (s.steel.shares.filter (fun h => decide (h.k ≤ k ∧ limit < h.jsn))).length
  modSteel (fun v => { v with nextK := some (k + 1), shares := v.shares.filter (fun h => decide (k < h.k)),
                              currents := v.currents.filter (fun r => decide ((k + 1) * balI s ≤ r.time)),
                              moved := v.moved.filter (fun m => decide ((k + 1) * balI s < m.since)),
                              gone := v.gone.filter (fun g => decide ((k + 1) * balI s < g.2.1)),
                              late := if s.jrn.replaying then v.late else v.late + u32 late }) s

/-- The last sealed epoch, and its last JSN. -/
def lastSealed (s : State) : Option (Int × Nat) := s.jrn.sealed.map (fun x => (x.1, s.jrn.lastSeal))

/-- W, ns (07 R166). -/
def balWait (s : State) : Nat := cadNum s 0x0304 0 * 1000000000

/-- The first interval to close where none was closed before the seal of an epoch that ends at `b`: the first whose wait is not over then, or an
earlier one with a share (07 R166, log 124). -/
def firstFrom (s : State) (b : Nat) : Nat := s.steel.shares.foldl (fun a h => min a h.k) ((b - balWait s) / balI s)

/-- The first interval to close, by the last sealed epoch (07 R166). -/
def firstInterval (s : State) (n : Int) : Nat := firstFrom s (epochEnd s n)

/-- At the seal of an epoch that ends at `b` the Steelyard knows which interval it closes first (07 R166). -/
def steelSeal (b : Nat) (s : State) : State :=
  if s.steel.nextK.isSome then s else modSteel (fun v => { v with nextK := some (firstFrom s b) }) s

/-- BALANCE_INTERVAL_CLOSE: the next due interval of the last sealed epoch is closed (07 R166). While the block is in a C3 handling the work
waits (04 R110). -/
def balanceClose (s : State) : State := match lastSealed s with
  | none => s
  | some (n, j) =>
    let k := s.steel.nextK.getD (firstInterval s n)
    if (k + 1) * balI s + balWait s ≤ epochEnd s n ∧ !blockHeld s 17 then checkParents (closeInterval k j (n + 2) s) else s

/-- The closures that the seal of epoch `n`, of JSN `j`, made, where the Steelyard's image does not hold them: replay reaches the same ones
(07 R166, 04 R101). `b` is the end of the epoch. -/
def sealReplay (n : Int) (b j : Nat) (s : State) : State :=
  let s := steelSeal b (outageReport j b s)
  let first := s.steel.nextK.getD 0
  forEach (List.range ((b - balWait s) / balI s - first)) (fun k s => closeInterval (first + k) j (n + 2) s) s

/-! ### Theodolite passes (07 R174 to R176) -/

/-- The endpoints of a candidate set, ascending. -/
def setMembers (s : State) (k : Nat) : List Nat :=
  (s.store.parcels.filter (fun e => inUse e.2 &&
    (if k < 4096 then e.2.path == 3 && e.2.cell == k
     else if k < 4102 then e.2.path == 1 && e.2.port == k - 4096
     else e.2.path == 2 && e.2.port == k - 4102))).map (·.1)

/-- P, the time between the passes of a set, ns (07 R174). -/
def passPeriod (s : State) : Nat := max 1 (cadNum s 0x0310 3) * 3600000000000

/-- The instant of the latest pass of a set not after `t` (07 R174). -/
def passInstant (s : State) (k t : Nat) : Nat :=
  let p := passPeriod s
  let o := k * p / 4110
  if t < o then 0 else (t - o) / p * p + o

/-- Voltage samples of an endpoint and phase (`none` any) by slot index: the first committed record of each slot (07 R174). -/
def samples (s : State) (i : Nat) (ph : Option Nat) (slot first count limit : Nat) : Tab Int :=
  let g := (parcelOf s i).generation
  s.steel.volts.foldl (fun t r =>
    let x := r.time / slot
    if r.parcel = i ∧ r.gen = g ∧ r.jsn ≤ limit ∧ (ph = none ∨ ph = some r.phase ∨ (r.phase = 0 ∧ ph = some 1)) ∧ first ≤ x ∧ x < first + count ∧
        (tabFind t x).isNone then tabPut t x r.value else t) []

/-- The Pearson coefficient in thousandths, truncated toward zero (07 R174). -/
def pearson (xs ys : List Int) : Int :=
  let n : Int := xs.length
  let sx := xs.sum
  let sy := ys.sum
  let num := n * ((xs.zip ys).map (fun p => p.1 * p.2)).sum - sx * sy
  let dx := n * (xs.map (fun x => x * x)).sum - sx * sx
  let dy := n * (ys.map (fun y => y * y)).sum - sy * sy
  if dx * dy = 0 then Config.flatCoeff xs ys
  else
    let q := Nat.sqrt ((1000000 * num * num / (dx * dy)).toNat)
    if num < 0 then -(q : Int) else q

/-- The coefficient of two sample series over their common slots, if there are enough (07 R174). -/
def coefficient (minCommon : Nat) (a b : Tab Int) : Option Int :=
  let c := a.filterMap (fun e => (tabFind b e.1).map (fun y => (e.2, y)))
  if c.length < minCommon then none else some (pearson (c.map (·.1)) (c.map (·.2)))

/-- The transformers above a node, itself included, nearest first (07 R174). -/
def transformersAbove (t : Tab BalNode) (n : Nat) : List Nat :=
  (ancestors t n).filter (fun m => match tabFind t m with
    | some x => x.kind == 1
    | none => false)

/-- First ancestor of KIND 1 of a node, itself included (07 R175). -/
def transformerOf (t : Tab BalNode) (n : Nat) : Option Nat := (transformersAbove t n).head?

/-- The candidate transformers of a pass, at most 16 (07 R174). -/
def candidates (s : State) (set : Nat) (ids : List Nat) : List Nat :=
  let t := (topoNow s).nodes
  let own := ids.flatMap (fun i => transformersAbove t (parcelOf s i).balanceNode)
  let near := match (cadRows s 0x0311).find? (fun r => r.getD 0 (-1) == (set : Int)) with
    | some r => (r.drop 1).filterMap (fun n => if n = 0xFFFFFFFF then none else some n.toNat)
    | none => []
  let all := sortNats (own ++ near)
  if all.length ≤ 16 then all
  else
    let cnt (n : Nat) : Nat := own.count n
    let ins (l : List Nat) (n : Nat) : List Nat := l.filter (fun m => decide (cnt n ≤ cnt m)) ++ [n] ++ l.filter (fun m => decide (cnt m < cnt n))
    sortNats ((all.foldl ins []).take 16)

/-- What a pass finds for one endpoint (07 R174). -/
def passRow (s : State) (first count slot minC limit : Nat) (profs : List (Nat × List (Nat × Tab Int))) (i : Nat) : PassRow :=
  let mine := samples s i none slot first count limit
  let scored := profs.filterMap (fun c =>
    let rs := c.2.filterMap (fun q => (coefficient minC mine q.2).map (fun r => (q.1, r)))
    match rs with
    | [] => none
    | x :: xs => let b := xs.foldl (fun a y => if a.2 < y.2 then y else a) x; some (c.1, b.2, b.1))
  match scored with
  | [] => { parcel := i, generation := (parcelOf s i).generation }
  | x :: xs =>
    let b := xs.foldl (fun a y => if a.2.1 < y.2.1 then y else a) x
    let r2 := (scored.filter (fun y => y.1 != b.1)).foldl (fun a y => max a y.2.1) (-1000)
    { parcel := i, generation := (parcelOf s i).generation, best := b.1, r1 := b.2.1, r2 := r2, phase := b.2.2 }

/-- The sealed epoch that contains the latest instant of a candidate set, that instant, and the last JSN of the epoch (07 R174). -/
def passDue (s : State) (k : Nat) : Option (Int × Nat × Nat) := match lastSealed s with
  | none => none
  | some (last, _) =>
    let inst := passInstant s k (epochEnd s last - 1)
    if 4110 ≤ k ∨ inst = 0 ∨ inst ≤ tabGet s.steel.lastPass k 0 ∨ blockHeld s 17 then none
    else (s.hx.ranges.find? (fun r => r.1 == epochAt s inst)).map (fun r => (r.1, inst, r.2.1))

/-- THEO_PASS: the pass of candidate set `k`, at the seal of the epoch that contains its instant (07 R174). -/
def theoPass (k : Nat) (s : State) : State := match passDue s k with
  | none => s
  | some (n, inst, j) =>
    let mem := setMembers s k
    let last := tabGet s.steel.lastIndex k 0
    let ordered := if (tabFind s.steel.lastIndex k).isSome then mem.filter (fun i => decide (last < i)) ++ mem.filter (fun i => decide (i ≤ last)) else mem
    let ids := ordered.take 4096
    let slot := max 1 (cadNum s 0x0310 0) * 1000000000
    let count := cadNum s 0x0310 1
    let first := inst / slot + 1 - count
    let t := (topoNow s).nodes
    let profs := (candidates s k ids).map (fun c => (c, match (tabFind t c).bind (checkIndex s) with
        | some m => [1, 2, 3].filterMap (fun ph => let p := samples s m (some ph) slot first count j; if p.isEmpty then none else some (ph, p))
        | none => []))
    let rows := ids.map (passRow s first count slot (cadNum s 0x0310 2) j profs)
    modSteel (fun v => { v with lastPass := tabPut v.lastPass k inst,
                                lastIndex := match ids.getLast? with
                                  | some i => tabPut v.lastIndex k i
                                  | none => v.lastIndex,
                                volts := v.volts.filter (fun r => decide (epochEnd s n ≤ r.time + passPeriod s + (count + 1) * slot)),
                                passes := v.passes ++ [{ set := k, epoch := n, instant := inst, rows := rows }] }) s

/-- Withdraw an open proposal (07 R175). -/
def withdrawProposal (inst i : Nat) (s : State) : State :=
  let p := parcelOf s i
  if p.theo.proposal = 0 then s
  else addEvent 9 (itemJsn s) inst [i, p.generation, p.theo.proposal] (setParcel i { p with theo := { p.theo with proposal := 0 } } s)

/-- An accepted proposal moves the endpoint at the next balance interval (07 R176). -/
def applyTopology (i node inst t : Nat) (s : State) : State :=
  let p := parcelOf s i
  let iv := balI s
  setParcel i { p with steel := { p.steel with nextNode := node, nextFrom := (t / iv + 1) * iv / 1000000000 },
                       theo := { p.theo with proposal := 0, accepted := inst } }
    (modSteel (fun v => { v with applied := countUp s v.applied }) s)

/-- Checks of a TOPOLOGY_ACCEPT order (07 R176). -/
def topologyCheck (i gen inst node : Nat) (s : State) : U16 :=
  let p := parcelOf s i
  if inst ≠ 0 ∧ p.theo.accepted = inst ∧ p.generation = gen then OC_TOPO_ALREADY
  else if !inUse p ∨ p.generation ≠ gen ∨ p.theo.proposal ≠ inst ∨ inst = 0 ∨ p.theo.candidate ≠ node ∨
      (tabFind (topoNow s).nodes node).isNone then OC_TOPO_STALE
  else OC_OK

/-- Numbers of a TOPOLOGY_ACCEPT body (12 Table 12.6). -/
def topologyNums (i gen inst node : Nat) : List Int := [i, gen, inst, node]

/-- Does a TOPOLOGY_ACCEPT entry of a parcel wait in its domain? -/
def topologyWaits (s : State) (i : Nat) : Bool := s.trav.items.any (fun x => x.parcel == i && (match x.body with
  | .order k _ _ _ _ _ => k == 9
  | _ => false))

/-- An open proposal is applied by the device itself where THEO_AUTO is set and the coefficient of the pass reaches THEO_AUTO_R (07 R176). -/
def autoTopology (i : Nat) (r1 : Int) (s : State) : State :=
  let p := parcelOf s i
  if p.theo.proposal ≠ 0 ∧ cadNum s 0x0310 8 = 1 ∧ (cadNum s 0x0310 7 : Int) ≤ r1 ∧ makesEntries s ∧ !topologyWaits s i then
    let t := devTime s
    commitInDomain i p.generation (.order 9 1 0 0 0 (topologyNums i p.generation p.theo.proposal p.theo.candidate))
      (applyTopology i p.theo.candidate p.theo.proposal t) s
  else s

/-- Judge one endpoint after a pass (07 R175, R176). -/
def judgeEndpoint (inst : Nat) (r : PassRow) (s : State) : State :=
  let p := parcelOf s r.parcel
  if !inUse p ∨ p.generation ≠ r.generation then s
  else
    let th := p.theo
    let i := r.parcel
    let cur := (transformerOf (topoNow s).nodes p.balanceNode).getD 0xFFFFFFFF
    let decisive := decide (r.best ≠ 0xFFFFFFFF ∧ (cadNum s 0x0310 5 : Int) ≤ r.r1 ∧ (cadNum s 0x0310 6 : Int) ≤ r.r1 - r.r2)
    let th := { th with rBest := r.r1, rSecond := r.r2, lastPass := inst / 1000000000 }
    let s := setParcel i { p with theo := th } s
    let s := if r.best = 0xFFFFFFFF then s else
      let zc := if th.source % 4 = 1 ∨ th.source % 4 = 3 then th.phase else 0
      setPhase i (itemJsn s) inst zc r.phase s
    let upd (f : TheoState → TheoState) (s : State) : State :=
      let p := parcelOf s i
      setParcel i { p with theo := f p.theo } s
    let s := if decisive then
        if r.best = cur then upd (fun t => { t with agree := 0 }) (withdrawProposal inst i s)
        else if r.best = th.candidate then upd (fun t => { t with agree := satTo 255 (t.agree + 1) }) s
        else upd (fun t => { t with candidate := r.best, agree := 1 }) (withdrawProposal inst i s)
      else upd (fun t => { t with agree := 0 }) (withdrawProposal inst i s)
    let p := parcelOf s i
    let s := if cadNum s 0x0310 4 ≤ p.theo.agree ∧ p.theo.proposal = 0 then
        let s := setParcel i { p with theo := { p.theo with proposal := inst } } (modSteel (fun v => { v with proposals := countUp s v.proposals }) s)
        addEvent 8 (itemJsn s) inst [i, p.generation, inst, p.balanceNode, p.theo.candidate, r.r1, r.r2] s
      else s
    autoTopology i r.r1 s

/-- THEO_PASS_APPLY: the results of the oldest pass whose epoch n + 64 has come are applied, which completes the pass (07 R174, R175,
Table 7.8). -/
def theoPassApply (s : State) : State := match s.steel.passes with
  | [] => s
  | p :: ps =>
    if s.epoch.current < p.epoch + 64 ∨ blockHeld s 17 then s
    else forEach p.rows (judgeEndpoint p.instant) (modSteel (fun v => { v with passes := ps, theoPasses := countUp s v.theoPasses }) s)

/-- SY_STATUS (07 Table 7.9). -/
def syStatus (s : State) : U32 :=
  let due := match lastSealed s with
    | some (n, _) => decide ((s.steel.nextK.getD (firstInterval s n) + 1) * balI s + balWait s ≤ epochEnd s n)
    | none => false
  bitAt due 31 ||| bitAt (!s.steel.passes.isEmpty) 30 ||| bitAt (cadNum s 0x0310 8 == 1) 29 |||
    fieldAt (satTo 8191 (s.store.parcels.filter (fun e => inUse e.2 && e.2.theo.proposal != 0)).length) 0

/-- NODES_FLAGGED: defined nodes that are flagged (07 Table 7.8). -/
def nodesFlagged (s : State) : Nat := (s.steel.flagged.filter (fun n => (tabFind (topoNow s).nodes n).isSome)).length

/-- OUTAGES_OPEN (07 Table 7.8). -/
def outagesOpen (s : State) : Nat :=
  (s.steel.nodeOuts.filter (fun o => o.finish.isNone && !((ancestors (topoNow s).nodes o.id).drop 1).any (nodeOut s))).length

end Sys2Proof.Machine
end

