-- ==== Sys2Proof/Machine/Act.lean ====
section
/-! DEFINITION. Askong Cell Transport: sessions of cell nodes, credit, frames, downlink, and the states of cells (chapter 11). -/

namespace Sys2Proof.Machine

/-- Change the cell transport's state. -/
def modAct (f : ActSt → ActSt) (s : State) : State := { s with act := f s.act }

/-- A cell. -/
def cellOf (s : State) (c : Nat) : ActCell := tabGet s.act.cells c {}

/-- Change a cell. -/
def modCell (c : Nat) (f : ActCell → ActCell) (s : State) : State :=
  modAct (fun a => { a with cells := tabMod a.cells c {} f }) s

/-- Change the current session of a cell. -/
def modSession (c : Nat) (f : ActSession → ActSession) (s : State) : State :=
  modCell c (fun x => { x with current := x.current.map f }) s

/-- The record of a cell in ACT_CELLS (11 Table 11.16): CELL, ENABLE, reserved, KEY_VERSION, CELL_UID, PSK. -/
def cellRow (s : State) (c : Nat) : Option (List Int) := (cadRows s 0x0602).find? (fun r => r.getD 0 (-1) == (c : Int))

/-- Is a cell enabled (11 R253, R266)? -/
def cellEnabled (s : State) (c : Nat) : Bool := match cellRow s c with
  | some r => r.getD 1 0 == 1
  | none => false

/-- KEY_VERSION and PSK in force for a cell (14 R329): of the last KEYLOAD entry, or of its record, wrapped under CDST_KEK (14 Table 14.6). -/
def cellPsk (s : State) (c : Nat) : Nat × Option Nat := match tabFind s.act.psk c with
  | some (v, k, _) => (v, k)
  | none => match cellRow s c with
    | some r => ((r.getD 3 0).toNat, (tabFind s.keys.vault 2).bind (fun k => keyUnwrap k.key (beBytes 40 (r.getD 5 0).toNat)))
    | none => (0, none)

/-- BEACON_S, BEACON_GRACE_MS, DL_TIMEOUT_S, TAKEOVER_GRACE_S and SESSION_IDLE_S stand at sub-fields 0, 2, 3, 4, 5 of ACT_TIMERS. -/
def actTimer (s : State) (i : Nat) : Nat := cadNum s 0x0603 i

/-- CREDIT_FRAMES, DL_QUEUE and CELL_ENDPOINT_IDLE_H: sub-fields 0 to 2 of ACT_FLOW. -/
def actFlow (s : State) (i : Nat) : Nat := cadNum s 0x0604 i

/-- The beacon period by which the device judges beacons, in seconds: the larger of the old and the new one for three beacon
periods after a change (11 R262). -/
def beaconPeriod (s : State) : Nat :=
  let b := actTimer s 0
  match s.act.beaconOld with
  | some (o, t) => if s.mono < t + 3 * max o b * 1000000000 then max o b else b
  | none => b

/-- BEACON_S changes from `old` at an epoch boundary (11 R262). -/
def beaconChanged (old : Nat) (s : State) : State :=
  if old = actTimer s 0 then s else modAct (fun a => { a with beaconOld := some (old, s.mono) }) s

/-- Does the device take ACT capsules (11 R248)? -/
def actListening (s : State) : Bool := s.act.listening && makesEntries s

/-! ### Credit (11 R257) -/

/-- Outstanding credit of a session. -/
def sessionCredit (x : ActSession) : Nat := x.limit - x.h

/-- Total outstanding credit (11 R257, Table 11.13). -/
def creditOut (s : State) : Nat := (s.act.cells.map (fun e =>
  ((e.2.current.map sessionCredit).getD 0) + ((e.2.pending.map sessionCredit).getD 0))).sum

/-- Is a raise of a cell's limit due? -/
def raiseDue (s : State) (c : Nat) : Bool := match (cellOf s c).current with
  | some x => decide (2 * sessionCredit x ≤ actFlow s 0)
  | none => false

/-- May a session's limit rise now? -/
def raiseFits (s : State) (x : ActSession) : Bool :=
  !s.trav.bpAct && decide (creditOut s + (x.h + actFlow s 0 - x.limit) ≤ 250000)

/-- A capsule goes to an address, sealed under a key: the address, the key, and the capsule's bytes before the tag (11 R248 to R250). -/
def capSend (c peer key : Nat) (name : String) (bytes : List U8) (s : State) : State :=
  send (.act c) name ([(peer : Int), (key : Int)] ++ byteNums bytes) s

/-- Send a capsule of a session: the next SEQ of its direction, to the address the session was last heard from
(11 R248, R249, R251). -/
def actSend (c : Nat) (t : CapType) (name : String) (items : Nat) (body : List U8) (s : State) : State := match (cellOf s c).current with
  | none => s
  | some x =>
    capSend c x.peer x.down name
      (capHeader t c x.version x.number (x.txSeq + 1) items (x.high % 4294967296) body.length ++ body)
      (modSession c (fun y => { y with txSeq := y.txSeq + 1 }) s)

/-- Send a capsule with SESSION 0 and a random SEQ to `src` under the cell's downward hello key (11 R251). -/
def actSendHello (c src version : Nat) (t : CapType) (name : String) (body : List U8) (s : State) : State :=
  let (q, s) := draw s
  capSend c src (helloKey ((cellPsk s c).2.getD 0) c false) name
    (capHeader t c version 0 (q % 18446744073709551616) 0 0 body.length ++ body) s

/-- CREDIT_RAISE: the next cell in cell-number order whose raise is due and fits gets its limit raised to h + CREDIT_FRAMES, with a
CREDIT capsule no sooner than 10 ms after its last (11 R257). -/
def creditRaise (s : State) : State :=
  let due := (s.act.cells.map (·.1)).filter (fun c => raiseDue s c && ((cellOf s c).current.map (raiseFits s)).getD false)
  match (due.filter (fun c => decide (s.act.served < c)) ++ due).head? with
  | none => s
  | some c =>
    let wait := ((cellOf s c).current.bind (·.creditAt)).map (· + 10000000)
    let s := elapseTo (wait.getD 0) s
    let s := modSession c (fun x => { x with limit := x.h + actFlow s 0, creditAt := some s.mono }) (modAct (fun a => { a with served := c }) s)
    let x := ((cellOf s c).current).getD {}
    actSend c .credit "CREDIT" 0 (creditBody x.limit x.h) s

/-- CREDIT_HELD: some raise is due and waits (11 Table 11.14). -/
def creditHeld (s : State) : Bool := s.act.cells.any (fun e => raiseDue s e.1 && !((e.2.current.map (raiseFits s)).getD true))

/-! ### States of cells (11 R263 to R267) -/

/-- Commit a CELL_STATE entry and apply it: the sheet event, Steelyard, and the counter (11 R264, R265). -/
def cellState (c : Nat) (dark : Bool) (cause heard : Nat) (s : State) : State :=
  let now := devTime s
  let x := cellOf s c
  let sess := (((x.current.orElse (fun _ => x.pending)).map (·.number)).getD 0)
  let s := modCell c (fun y => { y with link := if dark then 3 else 2, darkAt := if dark then s.mono else y.darkAt, grace := false }) s
  let s := deviceOrder 0x80 [c, if dark then 2 else 1, cause, sess, now, heard, nextAsn s] s
  let j := if s.glob.ingest then s.jrn.lastJsn else itemJsn s
  let s := addEvent (if dark then 1 else 2) j now (if dark then [(c : Int), cause, heard] else [(c : Int), cause]) s
  let s := cellTransition c dark now s
  if dark then modAct (fun a => { a with darkEvents := a.darkEvents + 1 }) s else s

/-- A cell returns to UP where it is not (11 R263), or completes its handshake in the takeover grace (11 R267). -/
def cellHeard (c : Nat) (made : Bool) (s : State) : State :=
  let now := devTime s
  let s := modCell c (fun y => { y with heardAt := some s.mono, heard := now }) s
  let x := cellOf s c
  if s.act.grace.isSome && made && (x.grace || x.link != 2) then cellState c false 4 now s
  else if x.link ≠ 2 then cellState c false 3 now s
  else s

/-! ### Downlink (11 R260, R261) -/

/-- A downlink item ends with a code for its sender (11 R261). -/
def actDlEnd (d : ActDl) (code : U16) (s : State) : State :=
  let s := if code = OC_OK then s else modAct (fun a => { a with dlFailed := a.dlFailed + 1 }) s
  if d.down.kind = 0 then s else { s with hx := { s.hx with ended := s.hx.ended ++ [(d.down, code)] } }

/-- A downlink for a cell joins its queue (11 R260). -/
def actEnqueue (d : Down) (s : State) : State :=
  let x := cellOf s d.cell
  let item : ActDl := { down := d }
  if !cellEnabled s d.cell ∨ x.link = 0 then actDlEnd item OC_ACT_CELL_UNKNOWN s
  else if actFlow s 1 ≤ x.queue.length then actDlEnd item OC_ACT_DL_QUEUE_FULL s
  else modCell d.cell (fun y => { y with queue := y.queue ++ [item] }) s

/-- ACT_DOWNLINK_SEND: the oldest queued item of an UP cell goes in a DOWNLINK capsule while the cell holds fewer than DL_SLOTS
unconfirmed items (11 R260, Table 11.8). -/
def actDownlinkSend (c : Nat) (s : State) : State :=
  let x := cellOf s c
  match x.current, x.queue with
  | some y, d :: ds =>
    if x.link ≠ 2 ∨ y.dlSlots ≤ (x.sent.filter (fun e => e.session == y.number)).length ∨ !actListening s then s
    else
      let d := { d with session := y.number, id := y.nextDl, sentAt := s.mono }
      let s := modCell c (fun x => { x with queue := ds, sent := x.sent ++ [d] }) s
      let s := modSession c (fun y => { y with nextDl := y.nextDl + 1 }) s
      let s := modAct (fun a => { a with dlSent := a.dlSent + 1 }) s
      let used := y.version = 0x12
      let n := d.down.length
      actSend c .downlink "DOWNLINK" 1
        (downItem d.down.format d.id d.down.localAddr (if used then d.down.expiry else 0) (if used then d.down.priority else 0) n ++
          d.down.content ++ zeros ((24 + n + 3) / 4 * 4 - 24 - d.down.content.length)) s
  | _, _ => s

/-- An item sent ends, by its session and DL_ID; an unknown or reported one is ignored (11 R261). -/
def actReport (c n id : Nat) (code : U16) (s : State) : State := match (cellOf s c).sent.find? (fun d => d.session == n && d.id == id) with
  | none => s
  | some d => actDlEnd d code (modCell c (fun x => { x with sent := x.sent.filter (fun e => !(e.session == n && e.id == id)) }) s)

/-- The outcome of a RESULT (11 Table 11.9). -/
def resultCode (r : Nat) : U16 :=
  if r = 0 then OC_OK else if r = 2 then OC_ACT_DL_TIMEOUT else if r = 4 then OC_BUDGET else OC_ACT_DL_FAILED

/-- ACT_DL_TIMEOUT: DL_TIMEOUT_S has passed since the oldest unreported item of a cell was sent (11 R261). -/
def actDlTimeout (c : Nat) (s : State) : State := match (cellOf s c).sent with
  | [] => s
  | d :: _ => actReport c d.session d.id OC_ACT_DL_TIMEOUT (elapseTo (d.sentAt + actTimer s 3 * 1000000000) s)

/-! ### Sessions (11 R250 to R254) -/

/-- A capsule fails authentication (11 R250). -/
def actAuthFail (c : Nat) (count : Bool) (s : State) : State :=
  record 16 OC_AUTH [u32 c] (if count then modAct (fun a => { a with authFail := a.authFail + 1 }) s else s)

/-- A malformed capsule or item, counted `n` times (11 R249, R256). -/
def actFormat (n : Nat) (s : State) : State := modAct (fun a => { a with format := a.format + u32 n }) s

/-- ACT_CAPSULE_MALFORMED: a capsule that breaks the header, or a datagram over 9,000 bytes (11 R248, R249). -/
def actCapsuleMalformed (dt : Nat) (s : State) : State :=
  let s := elapse dt s
  if actListening s then actFormat 1 s else s

/-- Window and highest SEQ after a fresh SEQ, or none for a replay (11 R252). -/
def windowStep (high : Nat) (w : U64) (seq : Nat) : Option (Nat × U64) :=
  if high < seq then
    let n := seq - high
    some (seq, if high = 0 ∨ 64 < n then 0 else if n = 64 then 1#64 <<< 63 else (w <<< n) ||| (1#64 <<< (n - 1)))
  else if high = seq ∨ seq + 64 < high then none
  else if w.getLsbD (high - 1 - seq) then none
  else some (high, w ||| (1#64 <<< (high - 1 - seq)))

/-- A pending session becomes current; a session it replaces ends, its unconfirmed items queued again in order (11 R253, R254). -/
def sessionCurrent (c : Nat) (s : State) : State :=
  let x := cellOf s c
  let old := x.current
  let mine (d : ActDl) : Bool := (old.map (·.number)) == some d.session
  let s := modCell c (fun x => { x with current := x.pending, pending := none, queue := x.sent.filter mine ++ x.queue,
                                        sent := x.sent.filter (fun d => !mine d) }) s
  let s := modAct (fun a => { a with handshakes := a.handshakes + 1 }) s
  if old.isNone then s
  else addEvent 3 (itemJsn s) (devTime s) [(c : Int)] (modAct (fun a => { a with replaced := a.replaced + 1 }) s)

/-- Does a datagram reach the cell transport: the device listens, on the port, Ethernet port and address family of ACT_TRANSPORT (11 R248)? -/
def actReaches (s : State) (k : Capsule) : Bool :=
  actListening s && k.udp == cadNum s 0x0601 0 && decide (k.eth < 4) && (cadNum s 0x0601 1).testBit k.eth &&
    (cadNum s 0x0601 2).testBit (if k.ipv6 then 1 else 0)

/-- A capsule of a session: well formed, authenticated, judged for replay, making a pending session current, and counted as a beacon (11 R249,
R250, R252 to R254, R263); `work` is what an accepted capsule does. -/
def capsule (t : CapType) (k : Capsule) (work : State → State) (s : State) : State :=
  let s := elapse k.dt s
  let c := capCell k
  if !actReaches s k then s
  else if !capOk t k then actFormat 1 s
  else
    let x := cellOf s c
    let inCur := (x.current.map (·.number)) == some (capSession k)
    let inPend := (x.pending.map (·.number)) == some (capSession k)
    let y := (if inCur then x.current else x.pending).getD {}
    if !(inCur || inPend) ∨ k.key ≠ y.up then actAuthFail c true s
    else match windowStep y.high y.window (capSeq k) with
      | none =>
        let s := record 16 OC_ACT_REPLAY [u32 c] (modAct (fun a => { a with replays := a.replays + 1 }) s)
        if inCur then cellHeard c false (modSession c (fun y => { y with peer := k.src }) s) else s
      | some (hi, w) =>
        let s := if inCur then s else sessionCurrent c s
        work (cellHeard c (!inCur) (modSession c (fun y => { y with high := hi, window := w, peer := k.src }) s))

/-- A HELLO is answered with HELLO_ACK, and its session waits for its first capsule (11 R251, R253, R257). -/
def helloAnswer (c v psk : Nat) (k : Capsule) (s : State) : State :=
  let cur := ((cellOf s c).current.map (·.number)).getD 0
  let (r, s) := draw s
  let n := r % 4294967294 + 1
  let n := if cur ≠ 0 ∧ cur ≤ n then n + 1 else n
  let (dev, s) := draw s
  let dev := dev % 2 ^ 256
  let s := modCell c (fun x => { x with pending := none }) s
  let key (up : Bool) : Nat := sessionKey psk (helloNonce k) dev c n v up
  let y : ActSession := { number := n, version := v, up := key true, down := key false, rxMax := helloRxMax k, dlSlots := helloSlots k, peer := k.src,
                          since := s.mono }
  let y := if raiseFits s y then { y with limit := actFlow s 0 } else y
  let s := modCell c (fun x => { x with pending := some y }) s
  actSendHello c k.src v .helloAck "HELLO_ACK" (helloAckBody dev (helloNonce k) n v (actTimer s 0) (devTime s) y.limit) s

/-- ACT_HELLO: a HELLO is dropped, refused with CLOSE, or answered with HELLO_ACK and held as a pending session (11 R253, R257). -/
def actHello (k : Capsule) (s : State) : State :=
  let s := elapse k.dt s
  let c := capCell k
  if !actReaches s k then s
  else if !capOk .hello k then actFormat 1 s
  else if !cellEnabled s c then modAct (fun a => { a with helloDrop := a.helloDrop + 1 }) s
  else
    let soon : Bool := match (cellOf s c).helloAt with
      | some t => decide (s.mono < t + 1000000000)
      | none => false
    let s := modCell c (fun x => { x with helloAt := some s.mono }) s
    let psk := (cellPsk s c).2
    let v := min (capVersion k) 0x12
    if soon then modAct (fun a => { a with helloDrop := a.helloDrop + 1 }) s
    else if psk.map (fun p => helloKey p c true) ≠ some k.key then actAuthFail c true s
    else if ((cellRow s c).getD []).getD 4 0 ≠ (helloUid k : Int) then actAuthFail c false s
    else if v < max (helloMin k) 0x10 then actSendHello c k.src v .close "CLOSE" (closeBody OC_VERSION) s
    else if helloRxMax k < 1280 ∨ 9000 < helloRxMax k ∨ helloSlots k = 0 ∨ 1024 < helloSlots k then actFormat 1 s
    else helloAnswer c v (psk.getD 0) k s

/-- ACT_PENDING_SESSION_EXPIRY: 10 s have passed since a HELLO_ACK (11 R253). -/
def actPendingExpiry (c : Nat) (s : State) : State := match (cellOf s c).pending with
  | none => s
  | some y => modCell c (fun x => { x with pending := none }) (elapseTo (y.since + 10000000000) s)

/-! ### Frames (11 R256 to R259) -/

/-- LINK_STATE of a frame from a cell (11 Table 11.7). -/
def cellLinkState (version stamp : Nat) (f : CellItem) : List Nat :=
  let old := version = 0x10
  let d := if !f.rxTimeValid ∨ stamp < f.rxTime then 0xFFFF else satTo 0xFFFE ((stamp - f.rxTime) / 1000000)
  (leBytes 8 f.localAddr.toNat).map (·.toNat) ++
    [if old then 0x80 else f.rssi, if old then 0 else f.lqi, if old then 0xFF else f.hops, f.format, d % 256, d / 256,
     (if f.relayed then 1 else 0) + (if f.rxTimeValid then 2 else 0), 0]

/-- Is a LOCAL_ADDR known to a cell, or is there room for it (11 R258)? Addresses not heard within CELL_ENDPOINT_IDLE_H no longer count. -/
def addrFits (s : State) (c : Nat) (a : Nat) : Bool :=
  let live := (cellOf s c).endpoints.filter (fun e => decide (s.mono ≤ e.2 + actFlow s 2 * 3600000000000))
  (tabFind live a).isSome || decide (live.length < 8192)

/-- One item of a FRAMES capsule: its number, against the limit at the capsule's arrival (11 R256 to R259). -/
def cellFrame (c limit stamp n : Nat) (f : CellItem) (r : Arrival) (s : State) : State :=
  let y := ((cellOf s c).current).getD {}
  if limit ≤ n then
    { s with act := { s.act with overCredit := s.act.overCredit + 1 }, trav := { s.trav with stagingFull := s.trav.stagingFull + 1 } }
  else
    let s := modAct (fun a => { a with gaps := a.gaps + u32 (n - y.h) }) s
    let s := modSession c (fun y => { y with h := max y.h (n + 1) }) s
    let a := f.localAddr.toNat
    if !addrFits s c a then modAct (fun v => { v with cellFull := v.cellFull + 1 }) s
    else
      let s := modCell c (fun x => { x with endpoints := tabPut (x.endpoints.filter (fun e =>
        decide (s.mono ≤ e.2 + actFlow s 2 * 3600000000000))) a s.mono }) s
      arriveAt stamp { r with length := f.length, path := 3, port := 0xFF, cell := c, shortAddr := 0xFFFF, linkState := cellLinkState y.version stamp f }
        (modAct (fun v => { v with frames := v.frames + 1 }) s)

/-- The items of a FRAMES body in order, each with the frame that it carries, up to one whose lengths or FORMAT are wrong, which ends the rest;
`left` items remain (11 R256). -/
def cellItems (c limit stamp : Nat) : Nat → Nat → List (Option CellItem) → List Arrival → State → State
  | _, _, [], _, s => s
  | _, left, none :: _, _, s => actFormat left s
  | n, left, some f :: fs, rs, s => cellItems c limit stamp (n + 1) (left - 1) fs (rs.drop 1) (cellFrame c limit stamp n f (rs.headD {}) s)

/-- ACT_FRAMES: a FRAMES capsule, with what admission sees of the frame of each item (11 R256, 04 R83). -/
def actFrames (k : Capsule) (frames : List Arrival) (s : State) : State :=
  capsule .frames k (fun s => cellItems (capCell k) (((cellOf s (capCell k)).current.map (·.limit)).getD 0) (devTime s) (beAt k.body 0 8) (capItems k)
    (frameItems (capItems k) (k.body.drop 8)) frames s) s

/-- ACT_CONFIRM: a CONFIRM capsule with its entries of DL_ID and RESULT (11 R261). -/
def actConfirm (k : Capsule) (s : State) : State :=
  capsule .confirm k (fun s => forEach (confirmEntries k) (fun e s => actReport (capCell k) (capSession k) e.1 (resultCode e.2) s) s) s

/-- ACT_BEACON: a BEACON is answered with the device's own (11 R262, Table 11.10). -/
def actBeacon (k : Capsule) (s : State) : State :=
  capsule .beacon k (fun s => actSend (capCell k) .beacon "BEACON" 0
    (beaconBody (devTime s) (((cellOf s (capCell k)).current.map (·.limit)).getD 0) (actTimer s 0) s.trav.bpAct) s) s

/-- ACT_CLOSE_RECEIVED: a CLOSE makes the cell DARK at once and ends the session (11 R263). -/
def actCloseReceived (k : Capsule) (s : State) : State :=
  capsule .close k (fun s =>
    let s := if (cellOf s (capCell k)).link = 2 then cellState (capCell k) true 1 (devTime s) s else s
    modCell (capCell k) (fun x => { x with current := none }) s) s

/-- CELL_DARK_TIMEOUT: three beacon periods plus BEACON_GRACE_MS have passed since a cell was last heard (11 R263). A new active commits
no DARK transition before the end of its grace (11 R267). -/
def cellDarkTimeout (c : Nat) (s : State) : State :=
  let x := cellOf s c
  match x.heardAt with
  | none => s
  | some t =>
    if x.link ≠ 2 ∨ x.grace ∨ !actListening s then s
    else
      let z := t + 3 * beaconPeriod s * 1000000000 + actTimer s 2 * 1000000
      let held : Bool := match s.act.grace with
        | some (g, _) => decide (max s.mono z < g)
        | none => false
      if held then elapseTo z s else cellState c true 0 x.heard (elapseTo z s)

/-- ACT_SESSION_IDLE_EXPIRY: a cell DARK for SESSION_IDLE_S loses its session (11 R265). -/
def actSessionIdle (c : Nat) (s : State) : State :=
  let x := cellOf s c
  if x.link ≠ 3 ∨ x.current.isNone then s
  else modCell c (fun x => { x with current := none })
    (elapseTo (x.darkAt + actTimer s 5 * 1000000000) s)

/-- TAKEOVER_GRACE_EXPIRY: cells that completed no handshake since the takeover are committed DARK (11 R267). -/
def takeoverGraceExpiry (s : State) : State := match s.act.grace with
  | none => s
  | some (t, e) =>
    let s := modAct (fun a => { a with grace := none }) (elapseTo t s)
    let l := (s.act.cells.filter (fun x => x.2.grace && x.2.link == 2)).map (·.1)
    let s := forEach l (fun c s => cellState c true 4 e s) s
    modAct (fun a => { a with cells := a.cells.map (fun x => (x.1, { x.2 with grace := false })) }) s

/-- A new active has no sessions, and waits TAKEOVER_GRACE_S before any DARK transition (11 R267). -/
def actTakeover (e : Nat) (s : State) : State :=
  modAct (fun a => { a with listening := true, grace := some (s.mono + actTimer s 4 * 1000000000, e),
                            cells := a.cells.map (fun x => (x.1, { x.2 with current := none, pending := none, grace := x.2.link != 0 })) }) s

/-- ACT opens its port at start: no session survives, and a cell the journal holds as UP counts as heard now (11 R248, R263). -/
def actStart (s : State) : State :=
  let now := devTime s
  modAct (fun a => { a with listening := true, cells := a.cells.map (fun x =>
    (x.1, { x.2 with heardAt := if x.2.link = 2 then some s.mono else x.2.heardAt, heard := if x.2.link = 2 then now else x.2.heard })) }) s

/-- A cell is disabled at an epoch boundary (11 R266). -/
def cellDisable (c : Nat) (s : State) : State :=
  let x := cellOf s c
  let s := actSend c .close "CLOSE" 0 (closeBody OC_ACT_CELL_UNKNOWN) s
  let s := if x.link = 2 then cellState c true 2 x.heard s else s
  let items := x.sent ++ x.queue
  let s := modCell c (fun x => { x with current := none, pending := none, queue := [], sent := [] }) s
  forEach items (fun d s => actDlEnd d OC_ACT_CELL_UNKNOWN s) s

/-- ACT_CELLS takes effect at an epoch boundary: cells disabled, and amended PSKs in force again over older KEYLOADs (11 R266, 14 R329).
`old` holds the rows in force before. -/
def cellsAmended (old : List (List Int)) (s : State) : State :=
  let new := cadRows s 0x0602
  if old = new then s
  else
    let off := (old.filter (fun r => r.getD 1 0 == 1)).map (fun r => (r.getD 0 0).toNat)
    let s := forEach (off.filter (fun c => !cellEnabled s c)) cellDisable s
    let rowIn (l : List (List Int)) (c : Nat) : Option (List Int) := l.find? (fun r => r.getD 0 (-1) == (c : Int))
    modAct (fun a => { a with psk := a.psk.filter (fun e => rowIn old e.1 == rowIn new e.1 || decide (a.cellsJsn < e.2.2.2)) }) s

/-! ### Registers (11 Tables 11.13 to 11.15) -/

/-- ACT_STATUS. -/
def actStatus (s : State) : U32 :=
  let n (k : Nat) : Nat := (s.act.cells.filter (fun e => e.2.link == k)).length
  bitAt (actListening s) 31 ||| bitAt (creditHeld s) 30 ||| bitAt s.act.grace.isSome 29 ||| fieldAt (n 3) 13 ||| fieldAt (n 2) 0

/-- Counters at 0x404 to 0x434, in order. -/
def actCounters (a : ActSt) : List U32 :=
  [a.helloDrop, a.handshakes, a.replaced, a.authFail, a.replays, a.format, a.frames, a.gaps, a.overCredit, a.cellFull, a.dlSent, a.dlFailed,
   a.darkEvents]

/-- CELL_STATUS[c]. -/
def cellStatus (s : State) (c : Nat) : U32 :=
  let x := cellOf s c
  let st := if (cellRow s c).isSome && !cellEnabled s c then 4 else if x.link ≠ 0 then x.link else if x.pending.isSome then 1 else 0
  let silent : Nat := match x.heardAt with
    | some t => satTo 0xFFFF ((s.mono - t) / 1000000000)
    | none => 0
  fieldAt st 29 ||| fieldAt ((x.current.map (·.version)).getD 0) 16 ||| fieldAt silent 0

end Sys2Proof.Machine
end

