-- ==== Sys2Proof/Machine/Scripts.lean ====
section
/-! DEFINITION. The register scripts of a radio profile: their operations, the checks of 10 R231, and the SPI transactions that a run puts out
(10 R228, Table 10.3). -/

namespace Sys2Proof.Machine

/-- A script operation with its operands (10 Table 10.3). -/
inductive SpiOp
  | wr (out : List Nat)
  | rd (out : List Nat) (dst : Nat)
  | wrCh (pre : List Nat)
  | fifoTx (pre : List Nat)
  | fifoRx (pre : List Nat) (idx : Nat)
  | poll (out : List Nat) (idx mask value timeout : Nat)
  | waitIrq (timeout : Nat)
  | delay (us : Nat)
  | rst (level : Nat)
deriving DecidableEq, Repr, Inhabited

/-- The operations of a script up to its END, and what follows it; absent where the script runs past its bytes or holds a reserved code
(10 Table 10.3, R231). -/
def scriptOps : Nat → List Nat → Option (List SpiOp × List Nat)
  | 0, _ => none
  | _, [] => none
  | f + 1, c :: l =>
    let n := l.headD 0
    let out := (l.drop 1).take n
    let at2 (k : Nat) : Nat := l.getD k 0 + 256 * l.getD (k + 1) 0
    let next (k : Nat) (op : SpiOp) : Option (List SpiOp × List Nat) :=
      if l.length < k then none else (scriptOps f (l.drop k)).map (fun r => (op :: r.1, r.2))
    match c with
    | 0 => some ([], l)
    | 1 => next (n + 1) (.wr out)
    | 2 => next (n + 2) (.rd out (l.getD (n + 1) 0))
    | 3 => next (n + 1) (.wrCh out)
    | 4 => next (n + 1) (.fifoTx out)
    | 5 => next (n + 2) (.fifoRx out (l.getD (n + 1) 0))
    | 6 => next (n + 6) (.poll out (l.getD (n + 1) 0) (l.getD (n + 2) 0) (l.getD (n + 3) 0) (at2 (n + 4)))
    | 7 => next 2 (.waitIrq (at2 0))
    | 8 => next 2 (.delay (at2 0))
    | 9 => next 1 (.rst n)
    | _ => none

/-- Do the indices of an operation lie inside scratch, and inside what a POLL receives (10 R231)? -/
def opOk : SpiOp → Bool
  | .rd out dst => decide (dst + out.length ≤ 32)
  | .fifoRx _ idx => decide (idx < 32)
  | .poll out idx _ _ _ => decide (idx < out.length)
  | .rst level => decide (level ≤ 1)
  | _ => true

/-- Does a script of Table 10.3 end within the area, with no reserved code and every index inside scratch (10 R231)? -/
def scriptOk (fuel : Nat) (l : List Nat) : Bool := match scriptOps fuel l with
  | some (ops, _) => ops.all opOk
  | none => false

/-- Script bytes of a profile row: 16 header numbers, then 10 numbers a channel. -/
def scriptArea (r : List Int) : List Nat := (r.drop (16 + 10 * (r.getD 6 0).toNat)).map Int.toNat

/-- The bytes of script `k` of a profile: 0 INIT, 1 RX_ARM, 2 RX_READ, 3 TX_LOAD, 4 TX_DONE, 5 SLEEP. -/
def scriptAt (a : List Nat) (k : Nat) : List Nat := a.drop (a.getD (2 * k) 0 + 256 * a.getD (2 * k + 1) 0)

/-- Are the six scripts of a profile well formed (10 R231)? -/
def scriptsOk (r : List Int) : Bool :=
  let a := scriptArea r
  decide (12 ≤ a.length) && (List.range 6).all (fun k => !(scriptAt a k).isEmpty && scriptOk a.length (scriptAt a k))

/-- Bytes of a script area up to the end of the last of its six scripts; all of it where one of them has no end. -/
def scriptBytes (a : List Nat) : Nat :=
  (List.range 6).foldl (fun m k => match scriptOps a.length (scriptAt a k) with
    | some (_, rest) => max m (a.length - rest.length)
    | none => a.length) 12

/-- The bits of bytes on the wire, most significant first (10 R228). -/
def spiBits (l : List Nat) : List Bool := l.flatMap (fun b => (List.range 8).map (fun k => Nat.testBit b (7 - k)))

/-- The bytes that WR_CH takes from channel entry `c` of a profile row (10 Table 10.2): LENGTH of the seven it holds. -/
def channelBytes (r : List Int) (c : Nat) : List Nat :=
  (((r.drop (19 + 10 * c)).take 7).map Int.toNat).take (r.getD (18 + 10 * c) 0).toNat

/-- What one operation does to the 32 bytes of scratch, and the bytes that the RDs still to come receive: RD stores its own from `dst` onward
(10 Table 10.3). -/
def scratchStep (x : List Nat × List (List U8)) : SpiOp → List Nat × List (List U8)
  | .rd out dst => ((List.range 32).map (fun i =>
      if dst ≤ i ∧ i < dst + out.length then ((x.2.headD []).getD (i - dst) 0).toNat else x.1.getD i 0), x.2.drop 1)
  | _ => x

/-- Scratch after some operations whose RDs receive `miso`; it reads 0 at first (10 Table 10.3). -/
def scratchOf (ops : List SpiOp) (miso : List (List U8)) : List Nat := (ops.foldl scratchStep (List.replicate 32 0, miso)).1

/-- Scratch after script `k` of a profile row. -/
def scriptScratch (k : Nat) (miso : List (List U8)) (r : List Int) : List Nat :=
  match scriptOps (scriptArea r).length (scriptAt (scriptArea r) k) with
  | none => List.replicate 32 0
  | some (ops, _) => scratchOf ops miso

/-- The transaction of one operation: bytes sent, and bytes of the frame that follow them or are read. The channel entry's bytes are `chan`, the
frame to transmit has `len` bytes, a frame received those that scratch says. A POLL's repetitions are alike, and one stands for them. Waits put out
nothing; RST drives a pin. -/
def opSent (chan : List Nat) (len : Nat) (scratch : List Nat) : SpiOp → Option (List Nat × Nat × Nat)
  | .wr out => some (out, 0, 0)
  | .rd out _ => some (out, 0, 0)
  | .wrCh pre => some (pre ++ chan, 0, 0)
  | .fifoTx pre => some (pre, len, 0)
  | .fifoRx pre idx => some (pre, 0, scratch.getD idx 0)
  | .poll out _ _ _ _ => some (out, 0, 0)
  | .waitIrq _ => none
  | .delay _ => none
  | .rst _ => none

/-- One operation of a script runs on port `n` in an SPI mode at a clock: RPn_CS_N frames its transaction (10 R228), RST drives RADIO_RST_N. -/
def opRun (n mode khz : Nat) (chan : List Nat) (len : Nat) (scratch : List Nat) (op : SpiOp) (s : State) : State := match op with
  | .rst level => send (.radio n) "RST" [level] s
  | _ => match opSent chan len scratch op with
    | some (out, tx, rx) => emit (.spi n mode khz (spiBits out) tx rx) s
    | none => s

/-- The operations of a script in order on port `n`, with scratch as those before them left it. -/
def opsRun (n mode khz : Nat) (chan : List Nat) (len : Nat) (miso : List (List U8)) (ops : List SpiOp) (s : State) : State :=
  forEach ops.zipIdx (fun x s => opRun n mode khz chan len (scratchOf (ops.take x.2) miso) x.1 s) s

/-- Script `k` of a profile row runs on port `n`; `c` is the channel that WR_CH names, `len` the length of the frame to transmit, `miso` what its
RDs receive. -/
def scriptRun (n k c len : Nat) (miso : List (List U8)) (r : List Int) (s : State) : State :=
  match scriptOps (scriptArea r).length (scriptAt (scriptArea r) k) with
  | none => s
  | some (ops, _) => opsRun n (r.getD 1 0).toNat (r.getD 2 0).toNat (channelBytes r c) len miso ops s

end Sys2Proof.Machine
end

