-- ==== Sys2Proof/Machine/CadLayout.lean ====
section
/-! DEFINITION. Cadastre images and amendments as bytes: the header, the TLV records and the values of every field (02 R42, R43, R51, and the field
tables of every chapter). -/

namespace Sys2Proof.Machine

/-! ### Bytes as numbers -/

/-- Little-endian number of `n` bytes from an offset. -/
def leAt (l : List U8) (off n : Nat) : Nat := leNat ((l.drop off).take n)

/-- A number of a field: little-endian, signed where its width is given with a minus sign (00 R5). A string of more than 8 bytes, such as a key or
an address, is a number with its first byte the most significant. -/
def numOf (w : Int) (l : List U8) : Int :=
  if w < 0 then leSigned l else if w ≤ 8 then leNat l else beNat l

/-- Bytes of a list of widths. -/
def widthSum (ws : List Int) : Nat := (ws.map Int.natAbs).sum

/-- The numbers of an element. -/
def rowOf : List Int → List U8 → List Int
  | [], _ => []
  | w :: ws, l => numOf w (l.take w.natAbs) :: rowOf ws (l.drop w.natAbs)

/-- `k` elements of `n` bytes one after another. -/
def rowsFrom (ws : List Int) (n : Nat) : Nat → List U8 → List (List Int)
  | 0, _ => []
  | k + 1, l => rowOf ws l :: rowsFrom ws n k (l.drop n)

/-! ### Widths of the fields -/

/-- Widths in bytes of the numbers of an element of a field, reserved bytes as one number; a minus sign marks a signed number. -/
def fieldWidths : List (Nat × List Int) :=
  [(0x0010, [1]), (0x0011, [1]), (0x0012, [1]), (0x0020, [1, 1]), (0x0021, [1]), (0x0022, [2]), (0x0101, List.replicate 6 4),
   (0x0202, [2]), (0x0301, [4, 4, 8, 1, 1, 1, 1, 4]), (0x0302, [1, 1, 1, 1, 4, 4, 4, 4, 4, 4, 4]), (0x0303, [1]), (0x0304, [2]), (0x0305, [1]),
   (0x0306, [2, 2, 2, 2, 2, 1, 1, 1, 1, 2, 4, 4]), (0x0307, List.replicate 8 1), (0x0308, List.replicate 8 1), (0x0309, [2, 2, 4, 4]),
   (0x0310, [2, 2, 2, 1, 1, 2, 2, 2, 1, 1]), (0x0311, [2, 4, 4, 4]), (0x0312, (List.replicate 6 [2, 1, 1]).flatten ++ [2, 2]),
   (0x0401, [1, 1, 1, 1, 2, 2, 4, 2, 2, 4]), (0x0402, List.replicate 8 (-1)), (0x0403, List.replicate 150 1), (0x0404, [2, 1, 1, 4]),
   (0x0405, [1, 1, 2]), (0x0406, [2, 2, 1, 1]), (0x0407, [1, 1, 1]), (0x0408, [4]), (0x0409, [2]), (0x040A, [4]), (0x040B, [1]), (0x040C, [1])] ++
  [(0x0501, [1, 1, 1, 1, 2, 2]), (0x0502, [1, 1]), (0x0503, [2, 2]), (0x0504, [1, 1, 2, 2]), (0x0505, [2]), (0x0506, [1, 1]),
   (0x0510, [1, 1, 1, 1, 1, 1, 2]), (0x0512, [4, 4, 4]), (0x0513, [2, 2]), (0x0514, [2, 2]), (0x0515, [2]),
   (0x0601, [2, 1, 1]), (0x0602, [2, 1, 1, 4, 8, 40]), (0x0603, [1, 1, 2, 2, 2, 4]), (0x0604, [2, 2, 2, 2]),
   (0x0701, [2, 1, 1]), (0x0702, [8, 4, 1, 1, 2, 16, 60, 40, 4]), (0x0703, [1, 1, 2, 2, 2, 4]), (0x0704, [4]), (0x0710, [2, 1, 1]),
   (0x0801, [60]), (0x0802, [32]), (0x0803, [1]), (0x0804, [1]), (0x0810, [1, 1, 2, 2, 2, 8, 8])] ++
  [(0x0901, [1, 3]), (0x0910, [1, 1, 1, 1, 2, 2, 4]), (0x0911, [1, 1]), (0x0912, [4, 4]), (0x0913, [4, 2, 2, 1, 3]), (0x0914, [8, -2, 6]),
   (0x0915, [2, 2]), (0x0920, [1, 1, 2]), (0x0930, [1, -1, 1, 1, 4]), (0x0931, List.replicate 66 1 ++ [2]), (0x0932, [2, 2, 2, 2])]

/-- Widths of the header of a reading profile and of a channel definition (05 Tables 5.5, 5.6). -/
def profileWidths : List Int := [2, 1, 1, 4, 1, 1, 1, 1, 1, 3]
/-- Widths of a channel definition (05 Table 5.6). -/
def channelWidths : List Int := [1, 1, 1, 1, 1, 1, 1, 1, 1, 1, 1, 1, 4, 8, -8, -8, 8, 4, 1, 1, -1, 1, 4, 4]

/-- Reading profiles one after another, each as long as its CHANNELS says; absent where the last is cut short. -/
def profilesFrom : Nat → List U8 → Option (List (List Int))
  | _, [] => some []
  | 0, _ => none
  | f + 1, l =>
    let n := leAt l 2 1
    let size := 16 + 64 * n
    if l.length < size then none
    else (profilesFrom f (l.drop size)).map (fun rs =>
      (rowOf profileWidths l ++ (rowsFrom channelWidths 64 n (l.drop 16)).flatten) :: rs)

/-- Calendar images one after another, each of the length that its counts give (06 R138). -/
def calendarsFrom : Nat → List U8 → Option (List (List Int))
  | _, [] => some []
  | 0, _ => none
  | f + 1, l =>
    let size := calLength ((l.take 32).map (·.toNat))
    if l.length < 32 ∨ l.length < size then none
    else (calendarsFrom f (l.drop size)).map (fun rs => byteNums (l.take size) :: rs)

/-- Widths of the header of a radio profile and of a channel entry (10 Table 10.2). -/
def radioWidths : List Int := [1, 1, 2, 4, 4, 1, 1, 2, 4, 1, 1, 1, 1, 2, 2, 4]
/-- Widths of a channel entry (10 Table 10.2). -/
def entryWidths : List Int := [4, 4, 1, 1, 1, 1, 1, 1, 1, 1]

/-- Radio profiles one after another. A profile states no length: it ends where the last of its six scripts does (log 117). -/
def radiosFrom : Nat → List U8 → Option (List (List Int))
  | _, [] => some []
  | 0, _ => none
  | f + 1, l =>
    let n := leAt l 13 1
    let area := (l.drop (32 + 16 * n)).map (·.toNat)
    let size := 32 + 16 * n + scriptBytes area
    if l.length < size then none
    else (radiosFrom f (l.drop size)).map (fun rs =>
      (rowOf radioWidths l ++ (rowsFrom entryWidths 16 n (l.drop 32)).flatten ++ byteNums ((l.drop (32 + 16 * n)).take (scriptBytes area))) :: rs)

/-- The elements of a field's value, or nothing where its length does not suit its type (02 R43). -/
def fieldRows (f : FieldSpec) (l : List U8) : Option (List (List Int)) :=
  if f.tag = 0x0201 then profilesFrom l.length l
  else if f.tag = 0x0210 then calendarsFrom l.length l
  else if f.tag = 0x0511 then radiosFrom l.length l
  else
    let ws := (tabFind fieldWidths f.tag).getD []
    let n := max 1 (widthSum ws)
    if (if f.isList then l.length % n = 0 else l.length = n * f.rows) then some (rowsFrom ws n (l.length / n) l) else none

/-! ### TLV records (02 R43) -/

/-- A TLV record: its tag and the bytes of its value. -/
structure CadRecord where
  tag : Nat
  value : List U8
deriving DecidableEq, Repr, Inhabited

/-- The records of a TLV area; absent where one runs past its end or is not padded with zero bytes to 4. -/
def tlvParse : Nat → List U8 → Option (List CadRecord)
  | _, [] => some []
  | 0, _ => none
  | f + 1, l =>
    let n := leAt l 2 2
    let size := 4 + (n + 3) / 4 * 4
    if l.length < size ∨ ((l.drop (4 + n)).take (size - 4 - n)).any (fun b => b != 0) then none
    else (tlvParse f (l.drop size)).map (fun rs => { tag := leAt l 0 2, value := (l.drop 4).take n } :: rs)

/-- The records of an area, none where it cannot be walked. -/
def recordsOf (area : List U8) : List CadRecord := (tlvParse area.length area).getD []

/-- The value of a tag, its continuation records joined. -/
def tagValue (rs : List CadRecord) (tag : Nat) : List U8 := (rs.filter (fun r => r.tag == tag)).flatMap (·.value)

/-- The elements of a field among records, none where it is absent or unsuited. -/
def tagRows (rs : List CadRecord) (tag : Nat) : List (List Int) := match fieldSpec tag with
  | some f => (fieldRows f (tagValue rs tag)).getD []
  | none => []

/-! ### The header of an image (02 Table 2.8) -/

/-- TOTAL_LENGTH -/
def imgTotal (i : CadImage) : Nat := leAt i.bytes 8 4
/-- SIG_PRESENT -/
def imgSigned (i : CadImage) : Nat := leAt i.bytes 16 1
/-- TLV_LENGTH -/
def imgTlv (i : CadImage) : Nat := leAt i.bytes 20 4
/-- SERIAL -/
def imgSerial (i : CadImage) : Nat := leAt i.bytes 24 8
/-- BUILD_TIME, which informs and decides nothing -/
def imgBuildTime (i : CadImage) : Nat := leAt i.bytes 32 8
/-- SIGNER_HASH, as a number with its first byte the most significant -/
def imgSigner (i : CadImage) : Nat := beNat ((i.bytes.drop 40).take 16)
/-- The TLV area -/
def imgArea (i : CadImage) : List U8 := (i.bytes.drop 64).take (imgTlv i)
/-- SIG_LENGTH of the trailer -/
def imgSigLength (i : CadImage) : Nat := leAt i.bytes (64 + (imgTlv i)) 4
/-- CRC-32C over the header, with CRC32C set to 0, and the TLV area -/
def imgCrc (i : CadImage) : U32 := crc32c (i.bytes.take 12 ++ zeros 4 ++ ((i.bytes.drop 16).take 48) ++ imgArea i)
/-- Are the header's reserved bytes 0? SIGNER_HASH of an unsigned image must be 0 too (log 118). -/
def imgReservedOk (i : CadImage) : Bool :=
  decide (leAt i.bytes 17 3 = 0 ∧ leAt i.bytes 60 4 = 0 ∧ (imgSigned i = 0 → imgSigner i = 0))

/-! ### The header of an amendment (02 Table 2.11) -/

/-- BASE_SERIAL -/
def amdBase (a : Amendment) : Nat := leAt a.bytes 8 8
/-- SEQUENCE -/
def amdSequence (a : Amendment) : Nat := leAt a.bytes 16 4
/-- TLV_LENGTH -/
def amdTlv (a : Amendment) : Nat := leAt a.bytes 20 4
/-- The TLV area -/
def amdArea (a : Amendment) : List U8 := a.bytes.drop 24
/-- The records of an amendment -/
def amdRecords (a : Amendment) : List CadRecord := recordsOf (amdArea a)

end Sys2Proof.Machine
end

