-- ==== Sys2Proof/Machine/Keys.lean ====
section
/-! DEFINITION. Keys, roots and lifecycle: the vault, the identity, the leaf counter and lifecycle views (14 R314 to R337). -/

namespace Sys2Proof.Machine

/-- Change the key state. -/
def modKeys (f : KeySt → KeySt) (s : State) : State := { s with keys := f s.keys }

/-- The lifecycle code, MAINTENANCE counted (14 Table 14.2). -/
def lifecycleCode (s : State) : Nat := if s.keys.state = 3 ∧ s.keys.maintenance then 4 else s.keys.state

/-- May HX sessions be opened in this state (14 Table 14.2)? -/
def hxState (s : State) : Bool := s.keys.state == 2 || s.keys.state == 3

/-- The state-root label of a lifecycle state (14 Table 14.2). -/
def stateLabel (st : Nat) : String := match st with
  | 1 => "MANUFACTURE"
  | 2 => "PROVISION"
  | 3 => "DEPLOY"
  | _ => "RMA"

/-- The 8-byte device identifier, big-endian (14 R323). -/
def uidBytes (s : State) : List U8 := beBytes 8 s.keys.uid

/-- The state root of a lifecycle state (14 R323). -/
def stateRoot (s : State) (st : Nat) : List U8 :=
  kdf (beBytes 32 (if s.keys.rootSource = 2 then Config.fuseRoot else Config.pufRoot)) ("AKX-8000 LC " ++ stateLabel st) (uidBytes s)

/-- The identity public key of a lifecycle state: HSS with L = 2, both levels H20 with LMOTS W4 (14 Table 14.5, R332; RFC 8554). -/
def identityKey (s : State) (st : Nat) : List U8 :=
  let root := stateRoot s st
  let i := (kdf root "lms identity I" (uidBytes s)).take 16
  beBytes 4 2 ++ beBytes 4 8 ++ beBytes 4 3 ++ i ++ beBytes 32 (Config.lmsRoot (kdf root "lms identity seed" (uidBytes s)) i)

/-- The UNIT it has in a lifecycle state: the first 16 bytes of SHA-256 over the identity public key (12 R274). -/
def unitIn (s : State) (st : Nat) : Nat := beNat ((hashBytes (identityKey s st)).take 16)

/-- The UNIT of this device (12 R274). -/
def unitOf (s : State) : Nat := unitIn s s.keys.state

/-- The identity signature over bytes under a leaf (14 R332: 5,716 bytes). -/
def signature (l : List U8) (leaf : Nat) : List U8 := (List.range 5716).map (Config.signByte l leaf)

/-- The root source chosen under 02 R35 while OTP holds none: ROOT_SOURCE_INIT of the accepted cadastre, otherwise SP[3]. -/
def rootChosen (init : Nat) (s : State) : Nat := if init ≠ 0 then init else if s.glob.straps.getLsbD 3 then 2 else 1

/-- The key in a vault slot. -/
def vaultKey (s : State) (n : Nat) : Option VaultKey := tabFind s.keys.vault n

/-- Write a vault slot; every change of a slot from 0 to 27 writes the vault section (14 R326). -/
def vaultPut (n : Nat) (k : VaultKey) (s : State) : State := modKeys (fun v =>
  let t := tabPut v.vault n k
  { v with vault := t, vaultSaved := if n ≤ 27 then tabPut v.vaultSaved n k else v.vaultSaved }) s

/-- Erase a vault slot (14 R326). -/
def vaultDel (n : Nat) (s : State) : State := modKeys (fun v =>
  { v with vault := tabDel v.vault n, vaultSaved := if n ≤ 27 then tabDel v.vaultSaved n else v.vaultSaved }) s

/-- Role code of a slot (14 Table 14.6). -/
def slotRole (n : Nat) : Nat :=
  if n = 0 then 1 else if n = 2 then 2 else if n = 3 then 3 else if 4 ≤ n ∧ n ≤ 9 then 4 else if n = 26 then 6 else if n = 27 then 7 else 0

/-- Is a slot a pair slot (14 Table 14.6)? -/
def slotPair (n : Nat) : Bool := decide (n ≤ 27)

/-- The vault slot of a role, with its index (14 Table 14.6). -/
def roleSlot (role index : Nat) : Option Nat := match role with
  | 1 => some 0
  | 2 => some 2
  | 3 => some 3
  | 4 => if index ≤ 5 then some (4 + index) else none
  | 6 => some 26
  | 7 => some 27
  | _ => none

/-- Draw a key of the device's own and load it with KEY_VERSION 0 (14 R325). -/
def vaultDraw (n : Nat) (s : State) : State :=
  let (v, s) := draw s
  vaultPut n { role := slotRole n, version := 0, key := v } s

/-- The warden pair draws a new mask and rewrites every slot (14 R324). -/
def vaultRemask (s : State) : State :=
  let (v, s) := draw s
  modKeys (fun k => { k with mask := v }) s

/-- The generation of a PKEK, one above its KEY_VERSION, so that 0 names none (03 Table 3.4, log 110). -/
def kekGenOf (k : VaultKey) : Nat := k.version + 1

/-- A new PKEK: the current one moves to slot 1 and the background rewrap begins (14 Table 14.6, 03 R59). -/
def pkekLoad (k : VaultKey) (s : State) : State :=
  let s := match vaultKey s 0 with
    | some old => vaultPut 1 { old with role := 0 } s
    | none => s
  let s := vaultPut 0 k s
  let g := s.keys.pkekGen
  let s := modKeys (fun v => { v with pkekGen := kekGenOf k, pkekPrev := g }) s
  if g = 0 then s else { s with store := { s.store with rewrap := true } }

/-- PKEK_REWRAP_DONE: every parcel's slots, and the keys a tag in flight took from them, are wrapped under the current PKEK. The vault goes
on holding the one before it (03 R59). -/
def pkekRewrapDone (s : State) : State :=
  if !s.store.rewrap then s
  else
    let old := s.keys.pkekPrev
    let f (l : Tab KeySlot) : Tab KeySlot := l.map (fun k => (k.1, if k.2.kekGen == old then slotRewrap s k.2 else k.2))
    let ps := s.store.parcels.map (fun e => (e.1, { e.2 with keys := f e.2.keys }))
    let s := modTrav (fun v => { v with tags := v.tags.map (fun t => { t with keys := f t.keys }) }) s
    { s with store := { s.store with parcels := ps, rewrap := false } }

/-! ### The vault's registers (14 R326, R337) -/

/-- A write to KEY_DATA or KEY_CMD by another secure requester than the warden pair (14 R326). -/
def vaultRefuse (s : State) : State × U16 :=
  (modKeys (fun k => { k with refused := k.refused + 1 }) s, OC_AUTH)

/-- KEY_DATA[n] written (14 R326). -/
def keyDataWrite (req : Requester) (n : Nat) (v : U32) (s : State) : State × U16 :=
  if req = .warden then (modKeys (fun k => { k with keyData := tabPut k.keyData n v }) s, OC_OK) else vaultRefuse s

/-- The 256-bit value of KEY_DATA, least significant word first. -/
def keyDataValue (s : State) : Nat := ((List.range 8).map (fun k => (tabGet s.keys.keyData k 0).toNat * 2 ^ (32 * k))).sum

/-- KEY_CMD written: 1 LOAD, 2 ERASE of a slot (14 R326, Table 14.14). -/
def keyCmdWrite (req : Requester) (v : U32) (s : State) : State × U16 :=
  if req ≠ .warden then vaultRefuse s
  else if v &&& 0xFFFF00FC ≠ 0 then (s, OC_RESERVED_SET)
  else
    let n := field v 15 8
    match field v 1 0 with
    | 1 => if 64 ≤ n then (s, OC_RANGE)
      else (vaultPut n { role := slotRole n, version := 0, key := keyDataValue s } s, OC_OK)
    | 2 => if 64 ≤ n then (s, OC_RANGE) else (vaultDel n s, OC_OK)
    | _ => (s, OC_RANGE)

/-- VAULT_STATUS (14 Table 14.14); REMASKING falls within one command. -/
def vaultStatus (s : State) : U32 := bitAt s.store.rewrap 30 ||| fieldAt (s.keys.vault.filter (fun e => decide (e.1 < 64))).length 0

/-- SLOT_INFO of the selected slot (14 Table 14.14). -/
def slotInfo (s : State) : U32 :=
  let n := s.keys.slotSelect
  match vaultKey s n with
  | some k => bitAt true 31 ||| bitAt (slotPair n) 30 ||| fieldAt k.role 16 ||| fieldAt (k.version % 65536) 0
  | none => bitAt (slotPair n) 30

/-- SLOT_SELECT written (14 Table 14.14). -/
def slotSelectWrite (v : U32) (s : State) : State × U16 :=
  if v &&& 0xFFFFFF00 ≠ 0 then (s, OC_RESERVED_SET) else (modKeys (fun k => { k with slotSelect := v.toNat }) s, OC_OK)

/-- LIFECYCLE_VIEW (14 Table 14.13): ROOT_SOURCE reads 0 until OTP holds it. -/
def lifecycleView (s : State) : U32 :=
  let k := s.keys
  let jtag := if k.state ≤ 1 then 2 else if k.state = 2 then 1 else if k.state = 5 then (if k.challenge then 2 else 3) else 0
  fieldAt k.pufErrors 16 ||| fieldAt jtag 10 ||| fieldAt (if k.rootLocked then k.rootSource else 0) 8 ||| bitAt k.rootLocked 7 |||
    bitAt (k.maintenance && k.state == 3) 3 ||| fieldAt (lifecycleCode s) 0

/-! ### LMS leaves (14 R333 to R335) -/

/-- Where the leaf counter restarts (14 R335). -/
def leafRestart (s : State) : Nat :=
  let u := unitOf s
  let of (o : Option (Nat × Nat)) : Nat := match o with
    | some (w, e) => if w = u then e else 0
    | none => 0
  let j := s.jrn.entries.foldl (fun m x => match x.body with
    | .lmsReserve ns => if ns.getD 0 0 = (u : Int) then max m (ns.getD 2 0).toNat else m
    | _ => m) 0
  let m := max (max j (of s.keys.controlEnd)) (max (of s.keys.wardenA) (of s.keys.wardenB))
  let k := s.keys.rangeFuses
  if 1 ≤ k ∧ m < (k - 1) * 2 ^ 28 then k * 2 ^ 28 else m

end Sys2Proof.Machine
end

