-- ==== Sys2Proof/Machine/Plc.lean ====
section
/-! DEFINITION. The power-line ports: reception, tone maps, joining, group keys, routes, transmission, driver faults and zero
crossings (chapter 09). -/

namespace Sys2Proof.Machine

/-- A PLC port. -/
def plcOf (s : State) (n : Nat) : PlcPort := tabGet s.plc.ports n {}

/-- Change a PLC port. -/
def modPlc (n : Nat) (f : PlcPort → PlcPort) (s : State) : State :=
  { s with plc := { s.plc with ports := tabMod s.plc.ports n {} f } }

/-- Block number of a PLC port (09 R224). -/
def plcBlock (n : Nat) : Nat := 32 + n

/-- Sub-field `i` of a port's record in PLC_PORTS (09 Table 9.7). -/
def plcCfg (s : State) (n i : Nat) : Nat := (cadInt s 0x0501 n i).toNat

/-- Does the port receive and transmit: up, and in a unit that serves (09 R208, R223)? -/
def plcLive (s : State) (n : Nat) : Bool := (plcOf s n).up && !(plcOf s n).retired && makesEntries s

/-- Is a PLC port up (19 Table 19.1)? -/
def plcUp (s : State) (n : Nat) : Bool := (plcOf s n).up && !(plcOf s n).retired

/-- A broadcast or device-made frame sent in ROBO or Super-ROBO (09 R212). -/
def plcRobo (s : State) (n : Nat) : Nat := if (plcOf s n).neighbours.any (fun e => e.2.modulation == 4) then 4 else 0

/-- A zero-crossing input. -/
def zcOf (s : State) (k : Nat) : ZcInput := tabGet s.plc.zc k {}

/-- Store a zero-crossing input. -/
def setZc (k : Nat) (z : ZcInput) (s : State) : State := { s with plc := { s.plc with zc := tabPut s.plc.zc k z } }

/-- The phase detection counter of a frame that goes out now, as ns since the last zero crossing; 0 while ZC_VALID is clear (09 R220, R221). -/
def plcPhase (s : State) (n : Nat) : Int :=
  let z := zcOf s (plcCfg s n 2)
  if z.valid then (devTime s - z.last.getD 0 : Nat) else 0

/-- A frame goes out on the line with its phase detection counter: PLCn_TXEN rises before it and falls after it (09 R207, R221). -/
def plcLine (n : Nat) (name : String) (fields : List Int) (s : State) : State :=
  send (.plc n) "TXEN" [0] (send (.plc n) name (fields ++ [plcPhase s n]) (send (.plc n) "TXEN" [1] s))

/-- Send a frame of the device's own: TX_INHIBIT holds it, and a retired port sends nothing (09 R207, R212). -/
def plcEmit (n : Nat) (name : String) (fields : List Int) (s : State) : State :=
  if (plcOf s n).retired then s
  else if (plcOf s n).inhibit.isSome then modPlc n (fun p => { p with held := p.held ++ [(name, fields)] }) s
  else modPlc n (fun p => { p with txFrames := p.txFrames + 1 }) (plcLine n name fields s)

/-- The scheme that the device's own tone-map response names: ROBO, a differential scheme or Super-ROBO; D8PSK for any other (09 R205). -/
def ownScheme (md : Nat) : Nat := if md ≤ 4 then md else 3

/-! ### Zero crossings (09 R220, R221) -/

/-- Mean of accepted periods, rounded to nearest (09 R220). -/
def zcPeriod (z : ZcInput) : Nat := (2 * z.periods.sum + z.periods.length) / (2 * max 1 z.periods.length)

/-- Is a period within 45 to 65 Hz (09 R220)? -/
def zcInRange (t : Nat) : Bool := decide (15384615 ≤ t ∧ t ≤ 22222222)

/-- Are 16 periods in range and none more than 0.5 % from their mean (09 R220)? -/
def zcSteady (l : List Nat) : Bool :=
  l.length == 16 && l.all zcInRange && l.all (fun t => decide ((16 * t : Int) - l.sum ≤ l.sum / 200 ∧ (l.sum : Int) - 16 * t ≤ l.sum / 200))

/-- ZC_EDGE: a rising edge on input `k`, `dt` ns after the previous command (09 R220). -/
def zcEdge (k dt : Nat) (s : State) : State :=
  let s := elapse dt s
  let t := devTime s
  let z := zcOf s k
  match z.last with
  | none => setZc k { z with last := some t, stamp := bmInt s } s
  | some a =>
    if t < a + 8000000 then s
    else
      let p := t - a
      if zcInRange p then
        let l := (p :: z.periods).take 16
        setZc k { last := some t, prior := some a, periods := l, valid := z.valid || zcSteady l, stamp := bmInt s } s
      else setZc k { last := some t, prior := some a, periods := [], valid := false, stamp := bmInt s } s

/-- ZC_LOSS_TIMEOUT: no accepted edge on input `k` for 50 ms (09 R220). -/
def zcLossTimeout (k : Nat) (s : State) : State :=
  let z := zcOf s k
  match z.last with
  | none => s
  | some a =>
    let s := elapseDev (a + 50000000) s
    setZc k { z with valid := false, periods := [] } s

/-- Is ZC_VALID set for a port's input (09 R220)? -/
def plcZcValid (s : State) (n : Nat) : Bool := (zcOf s (plcCfg s n 2)).valid

/-- The latest accepted edge at or before `t`, going back over the periods held. -/
def zcBefore (t : Nat) : Nat → List Nat → Option Nat
  | e, [] => if e ≤ t then some e else none
  | e, p :: ps => if e ≤ t then some e else zcBefore t (e - p) ps

/-- The angle of a frame (09 R221), 0xFFFF where there is none. -/
def plcAngle (s : State) (n : Nat) (f : PlcFrame) : Nat :=
  let z := zcOf s (plcCfg s n 2)
  let direct := match f.originator with
    | none => true
    | some o => some o == f.src
  let t := devTime s - f.refBefore
  match z.valid && direct, z.last.bind (fun e => zcBefore t e z.periods) with
  | true, some e => (roundDiv ((((t - e : Nat) : Int) - f.dtx) * 36000) (zcPeriod z) % 36000).toNat
  | _, _ => 0xFFFF

/-! ### Reception (09 R205, R209 to R211, R217, R218, R222) -/

/-- PLC_BLANKING for a frame that began `span` ns ago: a frame already in reception when values were installed ends under those before
(02 R50, 09 R210). -/
def blanking (s : State) (span i : Nat) : Nat := match s.cad.blankWas with
  | some (t, rows) => if s.mono < t + span then ((rows.getD 0 []).getD i 0).toNat else cadNum s 0x0502 i
  | none => cadNum s 0x0502 i

/-- Is a sample above the running RMS by more than `db` decibels: are the tenth powers of its square and of the mean square more than 10^db
apart (09 R210)? Nothing is while the mean square is 0. -/
def blanked (db meanSq : Nat) (x : Int) : Bool := meanSq != 0 && decide (meanSq ^ 10 * 10 ^ db < (65536 * (x.natAbs * x.natAbs)) ^ 10)

/-- The samples of a symbol one by one: the mean square, which a sample that is not blanked moves by its part of 4 symbols of `n` samples, and
the samples blanked (09 R210, log 121). -/
def symbolPass (db n : Nat) : List Int → Nat → Nat × Nat
  | [], m => (m, 0)
  | x :: l, m =>
    if blanked db m x then (fun r => (r.1, r.2 + 1)) (symbolPass db n l m)
    else symbolPass db n l (m + 65536 * (x.natAbs * x.natAbs) / (4 * max 1 n) - m / (4 * max 1 n))

/-- The symbols of a frame in turn: the mean square after them, and the samples and blanked samples of each. -/
def symbolsPass (db : Nat) : List (List Int) → Nat → Nat × List (Nat × Nat)
  | [], m => (m, [])
  | x :: l, m =>
    let a := symbolPass db x.length x m
    let b := symbolsPass db l a.1
    (b.1, (x.length, a.2) :: b.2)

/-- What blanking made of a frame at port `n`: the mean square after it, the samples and blanked samples of each preamble symbol, and of each
header or data symbol (09 R210). -/
def framePass (s : State) (n : Nat) (f : PlcFrame) : Nat × List (Nat × Nat) × List (Nat × Nat) :=
  let a := symbolsPass (blanking s f.span 0) f.preamble (plcOf s n).meanSq
  let b := symbolsPass (blanking s f.span 0) f.symbols a.1
  (b.1, a.2, b.2)

/-- Header and data symbols erased, more than BLANK_LIMIT_PCT of whose samples are blanked, and all samples blanked (09 R210). -/
def plcErasures (s : State) (n : Nat) (f : PlcFrame) : Nat × Nat :=
  let p := framePass s n f
  ((p.2.2.filter (fun x => decide (blanking s f.span 1 * x.1 < 100 * x.2))).length, ((p.2.1 ++ p.2.2).map (·.2)).sum)

/-- Two bytes of a number, least significant first. -/
def le2 (n : Nat) : List Nat := [n % 256, n / 256 % 256]

/-- LINK_STATE of a frame (09 Table 9.3); `frag` where it was fragmented. -/
def plcLinkState (s : State) (n : Nat) (f : PlcFrame) (frag : Bool) : List Nat :=
  let org := f.originator.getD (f.src.getD 0xFFFF)
  let direct := f.originator.isNone || f.originator == f.src
  let r := tabFind (plcOf s n).routes org
  let hops := if direct then 0 else match r with
    | some r => min r.hops 14
    | none => 0xFF
  let cost := match r with
    | some r => min r.cost 0xFFFE
    | none => 0xFFFF
  let e := plcErasures s n f
  let total := max 1 ((f.preamble ++ f.symbols).map (·.length)).sum
  [min 255 f.lqi, f.modulation, hops, f.activeTones] ++ le2 (plcAngle s n f) ++ le2 cost ++ le2 (f.src.getD 0xFFFF) ++
    [min 255 e.1, min 255 (1000 * e.2 / total), f.pga,
     (if direct then 0 else 1) + (if plcZcValid s n then 2 else 0) + (if frag then 4 else 0), 0, 0]

/-- Send a tone-map request to a neighbour (09 R212). -/
def tmRequest (n addr : Nat) (s : State) : State :=
  let s := plcEmit n "TONEMAP_REQUEST" [addr] s
  modPlc n (fun p => { p with tmRequests := p.tmRequests + 1 }) s

/-- The neighbour whose tone map is the oldest (09 R212, log 120). -/
def oldestNeighbour (t : Tab PlcNeighbour) : Option Nat :=
  (t.foldl (fun (a : Option (Nat × Nat)) e => match a with
    | none => some (e.1, e.2.mapAt.getD 0)
    | some x => if e.2.mapAt.getD 0 < x.2 then some (e.1, e.2.mapAt.getD 0) else some x) none).map (·.1)

/-- Change a neighbour's entry. The table holds at most 2,048; a new neighbour takes the place of the one with the oldest map (09 R212, log 120). -/
def modNeighbour (n addr : Nat) (f : PlcNeighbour → PlcNeighbour) (s : State) : State := modPlc n (fun p =>
  let t := if (tabFind p.neighbours addr).isSome ∨ p.neighbours.length < 2048 then p.neighbours
    else match oldestNeighbour p.neighbours with
      | some k => tabDel p.neighbours k
      | none => p.neighbours
  { p with neighbours := tabMod t addr {} f }) s

/-- A frame fails its check sequence: attributed to a neighbour or not (09 R211). -/
def plcFcsFail (n : Nat) (f : PlcFrame) (s : State) : State :=
  let s := modPlc n (fun p => { p with fcsFail := p.fcsFail + 1 }) s
  let hit : Option Nat := match f.src with
    | none => none
    | some a => match tabFind (plcOf s n).neighbours a with
      | some e => if (e.given.map (·.1)) = some f.toneMap then some a else none
      | none => none
  match hit with
  | some a => modPlc n (fun p => { p with tmStale := p.tmStale + 1 }) (modNeighbour n a (fun e => { e with stale := true }) s)
  | none => modPlc n (fun p => { p with unattributed := p.unattributed + 1 }) s

/-- MAC acknowledgement of a frame (09 R217). While TX_INHIBIT lasts nothing is sent, and an acknowledgement does not wait (09 R207). -/
def plcAck (n : Nat) (f : PlcFrame) (s : State) : State :=
  if (plcOf s n).inhibit.isSome then s else plcLine n "MAC_ACK" [(f.src.getD 0xFFFF : Int)] s

/-- A complete datagram passes to admission, or is discarded (09 R205, R217). -/
def plcDeliver (n : Nat) (f : PlcFrame) (frag dlms : Bool) (udp : Nat) (a : Arrival) (s : State) : State :=
  if udp ≠ 4059 ∨ !dlms then modPlc n (fun p => { p with unmapped := p.unmapped + 1 }) s
  else
    let s := if frag then s else plcAck n f s
    arrive { a with path := 1, port := n, cell := 0xFFFF, shortAddr := f.originator.getD (f.src.getD 0xFFFF), linkState := plcLinkState s n f frag } s

/-- The endpoint of a short address has sent a frame (09 R214). -/
def plcHeardAt (n a : Nat) (s : State) : State :=
  modPlc n (fun p => match tabFind p.joined a with
    | some j => { p with joined := tabPut p.joined a { j with heard := s.mono } }
    | none => p) s

/-- An endpoint is heard; a MAC acknowledgement that names no source is its who was sent the frame (09 R214). -/
def plcHeard (n : Nat) (f : PlcFrame) (s : State) : State :=
  let to_ := ((plcOf s n).current.map (·.down.shortAddr)).getD 0xFFFF
  plcHeardAt n (f.originator.getD (f.src.getD (if f.content == .ack then to_ else 0xFFFF))) s

/-- Does the MAC security of a frame verify: under the GMK in force (09 R215, R217)? -/
def plcSecure (s : State) (n : Nat) (f : PlcFrame) : Bool := match vaultKey s (4 + n) with
  | some k => k.key == f.gmk
  | none => false

/-- A fragment: reassembled, refused, or the last of its datagram (09 R217, R218). -/
def plcFragment (n : Nat) (f : PlcFrame) (tag size offset len udp : Nat) (dlms : Bool) (a : Arrival) (s : State) : State :=
  let src := f.originator.getD (f.src.getD 0xFFFF)
  let p := plcOf s n
  match p.reasm.find? (fun b => b.src == src && b.tag == tag) with
  | some b =>
    let s := plcAck n f s
    let got := if b.got.any (fun x => x.1 == offset) then b.got else b.got ++ [(offset, len)]
    if b.size ≤ (got.map (·.2)).sum then
      plcDeliver n f true dlms udp a (modPlc n (fun p => { p with reasm := p.reasm.filter (fun x => !(x.src == src && x.tag == tag)) }) s)
    else modPlc n (fun p => { p with reasm := p.reasm.map (fun x => if x.src = src ∧ x.tag = tag then { x with got := got } else x) }) s
  | none =>
    if s.trav.bpLocal && f.unicast then modPlc n (fun p => { p with refusedBp := p.refusedBp + 1 }) s
    else if offset ≠ 0 then s
    else if udp ≠ 4059 ∨ !dlms then modPlc n (fun p => { p with unmapped := p.unmapped + 1 }) s
    else if 64 ≤ p.reasm.length ∨ 1280 < size then modPlc n (fun p => { p with reasmRefused := p.reasmRefused + 1 }) s
    else
      let s := plcAck n f s
      if size ≤ len then plcDeliver n f true dlms udp a s
      else modPlc n (fun p => { p with reasm := p.reasm ++ [{ src := src, tag := tag, size := size, got := [(0, len)], since := s.mono }] }) s

/-- The frame sent is acknowledged: the downlink is done; a campaign block's outcome is kept for its engine (12 R292). -/
def plcSent (n : Nat) (s : State) : State := match (plcOf s n).current with
  | none => s
  | some t =>
    let s := modPlc n (fun p => { p with current := none }) s
    if t.down.kind = 0 then s else { s with hx := { s.hx with ended := s.hx.ended ++ [(t.down, OC_OK)] } }

/-- A port's downlink ends with a code (09 R216, R219). -/
def plcEnd (n : Nat) (c : U16) (t : PlcTx) (s : State) : State :=
  if t.down.kind = 0 then
    if c = OC_PLC_NO_ROUTE then modPlc n (fun p => { p with undelivered := p.undelivered + 1 }) s else s
  else { s with hx := { s.hx with ended := s.hx.ended ++ [(t.down, c)] } }

/-- A unicast exhausts its MAC retries: counted, and its sender may repeat it (09 Table 9.6). -/
def plcNoAck (n : Nat) (t : PlcTx) (s : State) : State :=
  let s := modPlc n (fun p => { p with current := none, noAck := p.noAck + 1 }) s
  if t.down.kind = 0 then s else { s with hx := { s.hx with ended := s.hx.ended ++ [(t.down, OC_PLC_NO_ROUTE)] } }

/-- A frame that ended at port `n` is counted, discarded or passed on (09 R205, R209 to R211, R217, R218). -/
def plcFrameTake (n : Nat) (f : PlcFrame) (s : State) : State :=
  if f.pan ≠ plcCfg s n 4 then s
  else
    let s := modPlc n (fun p => { p with pga := f.pga }) s
    if f.coherent then modPlc n (fun p => { p with coherent := p.coherent + 1 }) s
    else
      let e := plcErasures s n f
      let s := modPlc n (fun p => { p with erased := p.erased + u32 e.1, blanked := p.blanked + e.2 }) s
      if !f.fcsOk then plcFcsFail n f s
      else
        let s := modPlc n (fun p => { p with rxFrames := p.rxFrames + 1 }) s
        match f.content with
        | .ack => plcSent n (plcHeard n f s)
        | .other => plcHeard n f s
        | .toneMapRequest m md g =>
          let a := f.src.getD 0xFFFF
          let s := modNeighbour n a (fun e => { e with given := some (m, s.mono) }) (plcHeard n f s)
          plcEmit n "TONEMAP_RESPONSE" [a, m, ownScheme md, g] s
        | .datagram udp dlms a =>
          let s := if plcSecure s n f then plcHeard n f s else s
          if s.trav.bpLocal && f.unicast then modPlc n (fun p => { p with refusedBp := p.refusedBp + 1 }) s
          else if !plcSecure s n f then s
          else plcDeliver n f false dlms udp a s
        | .fragment tag size off len udp dlms a =>
          if !plcSecure s n f then s else plcFragment n f tag size off len udp dlms a (plcHeard n f s)

/-- PLC_FRAME_RECEIVED: a frame ends at port `n`; its samples have moved the running RMS (09 R205, R210). -/
def plcFrameReceived (n : Nat) (f : PlcFrame) (s : State) : State :=
  let s := elapse f.dt s
  if !plcLive s n then s else modPlc n (fun p => { p with meanSq := (framePass s n f).1 }) (plcFrameTake n f s)

/-- PLC_REASSEMBLY_TIMEOUT: the oldest reassembly of a port reaches REASSEMBLY_S (09 R217). -/
def plcReassemblyTimeout (n : Nat) (s : State) : State := match (plcOf s n).reasm with
  | [] => s
  | b :: _ =>
    let lim := cadNum s 0x0506 1 * 1000000000
    let s := elapseTo (b.since + lim) s
    modPlc n (fun p => { p with reasm := p.reasm.filter (fun x => decide (s.mono < x.since + lim)) }) s

/-! ### Transmission (09 R212, R216, R207) -/

/-- Is a neighbour's tone map fresh (09 R212)? -/
def mapFresh (s : State) (n addr : Nat) : Bool := match tabFind (plcOf s n).neighbours addr with
  | some e => !e.stale && (match e.mapAt with
    | some t => decide (s.mono < t + cadNum s 0x0503 0 * 1000000000)
    | none => false)
  | none => false

/-- Originate a route request (09 R216). -/
def routeRequest (n dest : Nat) (s : State) : State :=
  let s := plcEmit n "ROUTE_REQUEST" [dest, plcRobo s n, cadNum s 0x0504 0] s
  modPlc n (fun p => { p with discoveries := p.discoveries + 1 }) s

/-- Put a unicast on the line (09 R207, R212, R216): its route is used, and its map or ROBO modulates it. -/
def plcTransmit (n : Nat) (t : PlcTx) (s : State) : State :=
  let d := t.down.shortAddr
  let r := (tabFind (plcOf s n).routes d).getD {}
  let hop := if r.nextHop = 0 then d else r.nextHop
  let nb := if t.robo ∨ !mapFresh s n hop then {} else (tabFind (plcOf s n).neighbours hop).getD {}
  let s := plcEmit n "UNICAST" ([(d : Int), hop, t.down.kind, t.down.length, nb.modulation, plcCfg s n 3, nb.map, nb.gain] ++ byteNums t.down.content) s
  modPlc n (fun p => { p with current := some t, routes := match tabFind p.routes d with
    | some r => tabPut p.routes d { r with used := s.mono }
    | none => p.routes }) s

/-- May the port start a frame: nothing sent waits for its acknowledgement, and no inhibit (09 R207)? -/
def plcFree (s : State) (n : Nat) : Bool := plcLive s n && (plcOf s n).current.isNone && (plcOf s n).inhibit.isNone

/-- Does a downlink wait for nothing? -/
def plcReady (t : PlcTx) : Bool := t.tmSince.isNone && t.routeSince.isNone

/-- The queue without its first element that satisfies `f`. -/
def removeFirst {α : Type} (f : α → Bool) : List α → List α
  | [] => []
  | a :: l => if f a then l else a :: removeFirst f l

/-- The first element that satisfies `f`, changed by `g`. -/
def modFirst {α : Type} (f : α → Bool) (g : α → α) : List α → List α
  | [] => []
  | a :: l => if f a then g a :: l else a :: modFirst f g l

/-- Take the first unicast that waits for nothing: sent, or held for a route or a tone map (09 R212, R216, R219). The wait for a tone map counts
from when the unicast was first held: waits overlap (09 R212). -/
def plcNext (n : Nat) (s : State) : State :=
  if !plcFree s n then s
  else match (plcOf s n).queue.find? plcReady with
    | none => s
    | some t =>
      let d := t.down.shortAddr
      let drop (s : State) : State := modPlc n (fun p => { p with queue := removeFirst plcReady p.queue }) s
      let hold (g : PlcTx → PlcTx) (s : State) : State := modPlc n (fun p => { p with queue := modFirst plcReady g p.queue }) s
      if (tabFind (plcOf s n).joined d).isNone then plcEnd n OC_PLC_NO_ROUTE t (drop s)
      else match tabFind (plcOf s n).routes d with
        | none => hold (fun x => { x with routeSince := some s.mono, heldAt := some (x.heldAt.getD s.mono) }) (routeRequest n d s)
        | some r =>
          let hop := if r.nextHop = 0 then d else r.nextHop
          let since := t.heldAt.getD s.mono
          if t.robo ∨ mapFresh s n hop then plcTransmit n { t with heldAt := none } (drop s)
          else if since + cadNum s 0x0503 1 * 1000000 ≤ s.mono then plcTransmit n { t with heldAt := none, robo := true } (drop (tmRequest n hop s))
          else hold (fun x => { x with tmSince := some since, heldAt := some since }) (tmRequest n hop s)

/-- PLC_UNICAST_SEND (09 R212). -/
def plcUnicastSend (n : Nat) (s : State) : State := plcNext n s

/-- TONEMAP_RESPONSE_RECEIVED from a neighbour; a coherent scheme of `k` bits is used as the differential one of as many bits, at
most D8PSK (09 R205, R212). -/
def tonemapResponse (n addr map modulation gain : Nat) (coherentBits : Option Nat) (s : State) : State :=
  if !plcLive s n then s
  else
    let md := match coherentBits with
      | some k => min 3 (max 1 k)
      | none => modulation
    let s := modNeighbour n addr (fun e => { e with map := map, modulation := md, gain := gain, mapAt := some s.mono, stale := false }) (plcHeardAt n addr s)
    let hop (t : PlcTx) : Nat := match tabFind (plcOf s n).routes t.down.shortAddr with
      | some r => if r.nextHop = 0 then t.down.shortAddr else r.nextHop
      | none => t.down.shortAddr
    plcNext n (modPlc n (fun p => { p with queue := p.queue.map (fun t => if t.tmSince.isSome ∧ hop t = addr then { t with tmSince := none } else t) }) s)

/-- TMR_WAIT_TIMEOUT: the unicast that waits longest for a tone-map response goes in ROBO (09 R212). -/
def tmrWaitTimeout (n : Nat) (s : State) : State :=
  match (plcOf s n).queue.find? (fun t => t.tmSince.isSome) with
  | none => s
  | some t =>
    let s := elapseTo (t.tmSince.getD 0 + cadNum s 0x0503 1 * 1000000) s
    plcNext n (modPlc n (fun p => { p with queue := modFirst (fun t => t.tmSince.isSome) (fun t => { t with tmSince := none, robo := true }) p.queue }) s)

/-- Install a route; the one held stays while its cost is no higher (09 R216, log 122); a full table drops the least recently used. -/
def routeInstall (n dest : Nat) (r : PlcRoute) (s : State) : State := modPlc n (fun p =>
  if (match tabFind p.routes dest with
    | some o => decide (o.cost ≤ r.cost)
    | none => false) then p
  else
  let full := decide (2048 ≤ p.routes.length) && (tabFind p.routes dest).isNone
  let t := if full then
      let k := p.routes.foldl (fun (a : Option (Nat × Nat)) e => match a with
        | none => some (e.1, e.2.used)
        | some x => if e.2.used < x.2 then some (e.1, e.2.used) else some x) none
      tabDel p.routes ((k.map (·.1)).getD 0)
    else p.routes
  { p with routes := tabPut t dest r }) s

/-- ROUTE_REQUEST_RECEIVED from originator `org` over `lastHop`: answered where it is addressed to the device (09 R216). -/
def routeRequestReceived (n org lastHop hops cost : Nat) (toDevice : Bool) (s : State) : State :=
  if !plcLive s n ∨ !toDevice ∨ cadNum s 0x0504 0 < hops then s
  else
    let s := routeInstall n org { nextHop := lastHop, hops := hops, cost := cost, used := s.mono } (plcHeardAt n lastHop (plcHeardAt n org s))
    plcEmit n "ROUTE_REPLY" [org, lastHop, hops, cost] s

/-- ROUTE_REPLY_RECEIVED: a route to `dest` is installed and held unicasts go on (09 R216). -/
def routeReplyReceived (n dest nextHop hops cost : Nat) (s : State) : State :=
  if !plcLive s n ∨ cadNum s 0x0504 0 < hops then s
  else
    let s := routeInstall n dest { nextHop := nextHop, hops := hops, cost := cost, used := s.mono } (plcHeardAt n nextHop (plcHeardAt n dest s))
    plcNext n (modPlc n (fun p => { p with queue := p.queue.map (fun t =>
      if t.routeSince.isSome ∧ t.down.shortAddr = dest then { t with routeSince := none, tries := 0 } else t) }) s)

/-- RREQ_RETRY_TIMEOUT: the discovery that waits longest is repeated, or its unicast ends (09 R216). -/
def rreqRetryTimeout (n : Nat) (s : State) : State :=
  match (plcOf s n).queue.find? (fun t => t.routeSince.isSome) with
  | none => s
  | some t =>
    let s := elapseTo (t.routeSince.getD 0 + cadNum s 0x0504 2 * 1000000) s
    let waits (x : PlcTx) : Bool := x.routeSince.isSome
    if t.tries < cadNum s 0x0504 1 then
      routeRequest n t.down.shortAddr
        (modPlc n (fun p => { p with queue := modFirst waits (fun x => { x with tries := x.tries + 1, routeSince := some s.mono }) p.queue }) s)
    else
      plcEnd n OC_PLC_NO_ROUTE t (modPlc n (fun p => { p with queue := removeFirst waits p.queue, routeFails := p.routeFails + 1 }) s)

/-- ROUTE_EXPIRY: the route unused longest reaches ROUTE_TTL_MIN (09 R216). -/
def routeExpiry (n : Nat) (s : State) : State :=
  let k := (plcOf s n).routes.foldl (fun (a : Option (Nat × Nat)) e => match a with
    | none => some (e.1, e.2.used)
    | some x => if e.2.used < x.2 then some (e.1, e.2.used) else some x) none
  match k with
  | none => s
  | some (d, u) =>
    let s := elapseTo (u + cadNum s 0x0504 3 * 60000000000) s
    modPlc n (fun p => { p with routes := tabDel p.routes d }) s

/-- The MAC retries a unicast: it goes before every other, and waits for a fresh tone map as any unicast does (09 R207, R212). -/
def plcRetry (n : Nat) (t : PlcTx) (s : State) : State := plcNext n (modPlc n (fun p => { p with current := none, queue := t :: p.queue }) s)

/-- PLC_MAC_ACK_TIMEOUT: no acknowledgement of the frame sent: retried, or ended (09 R207, Table 9.6). -/
def plcMacAckTimeout (n : Nat) (s : State) : State := match (plcOf s n).current with
  | none => s
  | some t =>
    if (plcOf s n).inhibit.isSome ∨ !plcLive s n then s
    else if t.attempts < cadNum s 0x0506 0 then plcRetry n { t with attempts := t.attempts + 1 } s
    else
      plcNoAck n t s

/-! ### Driver faults (09 R207) -/

/-- A C2 handling that ends in the step that detects it (09 R207: the MAC's own retry is the repeat). -/
def containC2AtOnce (block : Nat) (code : U16) (payload : List U32) (s : State) : State :=
  let id := s.trav.nextHandling
  handlingEnd id (containError 2 (.op block 0) code payload s)

/-- Retire a PLC port: it neither receives nor transmits until the next start (09 R207). -/
def plcRetire (n : Nat) (s : State) : State :=
  retireResource (100 + n) (modPlc n (fun p => { p with up := false, retired := true, inhibit := none }) s)

/-- PLC_DRIVER_FAULT: the driver fault input of a transmitting port is low for 2 us (09 R207): a unicast, which the MAC retries, or a frame
without an acknowledgement, which it does not. -/
def plcDriverFault (n dt : Nat) (s : State) : State :=
  let s := elapse dt s
  let p := plcOf s n
    if !plcLive s n ∨ p.inhibit.isSome then s
    else
      let l := (p.faults.filter (fun x => decide (s.mono < x + 60000000000))) ++ [s.mono]
      let after : Bool := match p.resetAt with
        | some r => decide (s.mono < r + 60000000000)
        | none => false
      let s := modPlc n (fun p => { p with driverFaults := p.driverFaults + 1, faults := l, inhibit := some s.mono,
                                           current := p.current.map (fun t => { t with attempts := t.attempts + 1 }) }) (send (.plc n) "TXEN" [0] s)
      let s := containC2AtOnce (plcBlock n) OC_PLC_DRIVER_FAULT [u32 n] s
      if after then record (plcBlock n) OC_PLC_DRIVER_FAULT [u32 n] (plcRetire n s)
      else if 8 ≤ l.length then
        containError 3 (.block (plcBlock n)) OC_PLC_DRIVER_FAULT [u32 n]
          (modPlc n (fun p => { p with resetAt := some s.mono, faults := [], up := false }) s)
      else s

/-- PLC_TX_INHIBIT_END: 1 s after a fault the port may transmit; the frame that failed is retried under the MAC's count (09 R207). -/
def plcTxInhibitEnd (n : Nat) (s : State) : State := match (plcOf s n).inhibit with
  | none => s
  | some t =>
    let s := elapseTo (t + 1000000000) s
    let h := (plcOf s n).held
    let s := forEach h (fun x => plcEmit n x.1 x.2) (modPlc n (fun p => { p with inhibit := none, held := [] }) s)
    match (plcOf s n).current with
    | none => plcNext n s
    | some x =>
      if !plcLive s n then s
      else if x.attempts ≤ cadNum s 0x0506 0 then plcRetry n x s
      else plcNoAck n x s

/-! ### Joining and keys (09 R213 to R215) -/

/-- The lowest short address free on a port (09 R213, R214). -/
def plcAddress (s : State) (n : Nat) : Option Nat :=
  let p := plcOf s n
  ((List.range 2000).map (· + 1)).find? (fun a => (tabFind p.joined a).isNone && (match tabFind p.freed a with
    | some t => decide (t + 86400000000000 ≤ s.mono)
    | none => true))

/-- Activate the new GMK of a port (09 R215). -/
def gmkActivate (n : Nat) (s : State) : State := match (plcOf s n).rekey with
  | none => s
  | some (k, v, _) =>
    let s := vaultPut (4 + n) { role := 4, version := v, key := k } s
    modPlc n (fun p => { p with rekey := none, keyIndex := 1 - p.keyIndex, joined := p.joined.map (fun e => (e.1, { e.2 with newKey := false })) }) s

/-- Have all joined endpoints confirmed the new GMK (09 R215)? -/
def gmkCheck (n : Nat) (s : State) : State :=
  if (plcOf s n).rekey.isSome ∧ (plcOf s n).joined.all (fun e => e.2.newKey) then gmkActivate n s else s

/-- Remove a joined endpoint; its short address is not reissued for 24 h (09 R214). A rekeying may then have every receipt (09 R215). -/
def plcRemove (n addr : Nat) (s : State) : State :=
  gmkCheck n (modPlc n (fun p => { p with joined := tabDel p.joined addr, freed := tabPut p.freed addr s.mono }) s)

/-- A KEYLOAD replaces the GMK of a port: the rekeying procedure begins (09 R215). -/
def gmkRekey (n key version : Nat) (s : State) : State :=
  let s := modPlc n (fun p => { p with rekey := some (key, version, s.mono), joined := p.joined.map (fun e => (e.1, { e.2 with newKey := false })) }) s
  let s := forEach (plcOf s n).joined (fun e t => plcEmit n "GMK" [e.1, 1 - (plcOf t n).keyIndex, key] t) s
  gmkCheck n s

/-- GMK_RECEIPT_CONFIRMED by an endpoint (09 R215). -/
def gmkReceipt (n addr : Nat) (s : State) : State :=
  match (plcOf s n).rekey, tabFind (plcOf s n).joined addr with
  | some _, some j => gmkCheck n (modPlc n (fun p => { p with joined := tabPut p.joined addr { j with newKey := true, heard := s.mono } }) s)
  | _, _ => s

/-- GMK_REKEY_ACTIVATE: 24 h after the order (09 R215). -/
def gmkRekeyActivate (n : Nat) (s : State) : State := match (plcOf s n).rekey with
  | none => s
  | some (_, _, t) => gmkActivate n (elapseTo (t + 86400000000000) s)

/-- A join is refused (09 R213, R214). -/
def joinRefuse (n : Nat) (c : U16) (eui : U64) (s : State) : State :=
  let s := modPlc n (fun p => { p with joinRefused := p.joinRefused + 1 }) s
  plcEmit n "JOIN_DECLINE" [eui.toNat, c.toNat] (recordRefusal (plcBlock n) c [lo32 eui.toNat, hi32 eui.toNat] s)

/-- The pre-shared key of an endpoint under a PLC access master key, its EUI-64 in the order of its frames (09 R213). -/
def plcPsk (master : Nat) (eui : U64) : Nat := beNat ((hmacSha256 (beBytes 32 master) (beBytes 8 eui.toNat)).take 16)

/-- PLC_JOIN: an endpoint completes EAP-PSK under the key `psk` (09 R213, R214). It is answered with the port's GMK and a short address. -/
def plcJoin (n : Nat) (eui : U64) (psk : Nat) (s : State) : State :=
  if !plcLive s n then s
  else if (vaultKey s 3).map (fun k => plcPsk k.key eui) ≠ some psk then joinRefuse n OC_PLC_JOIN_AUTH eui s
  else
    let p := plcOf s n
    let old := p.joined.find? (fun e => e.2.eui == eui)
    let addr := match old with
      | some e => some e.1
      | none => if 2000 ≤ p.joined.length then none else plcAddress s n
    match addr with
    | none => joinRefuse n OC_PLC_ASSOC_FULL eui s
    | some a =>
      let s := forEach (List.range 6) (fun m t => if m = n then t else
        match (plcOf t m).joined.find? (fun e => e.2.eui == eui) with
        | some e => plcRemove m e.1 t
        | none => t) s
      let s := modPlc n (fun p => { p with joined := tabPut p.joined a { eui := eui, heard := s.mono }, freed := tabDel p.freed a, joinOk := p.joinOk + 1 }) s
      let s := plcEmit n "JOIN_ACCEPT" [eui.toNat, a, (plcOf s n).keyIndex, ((vaultKey s (4 + n)).map (·.key)).getD 0] s
      match (plcOf s n).rekey with
      | some (k, _, _) => plcEmit n "GMK" [a, 1 - (plcOf s n).keyIndex, k] s
      | none => s

/-- JOIN_IDLE_EXPIRY: the endpoint silent longest reaches JOIN_IDLE_H (09 R214). -/
def joinIdleExpiry (n : Nat) (s : State) : State :=
  let k := (plcOf s n).joined.foldl (fun (a : Option (Nat × Nat)) e => match a with
    | none => some (e.1, e.2.heard)
    | some x => if e.2.heard < x.2 then some (e.1, e.2.heard) else some x) none
  match k with
  | none => s
  | some (a, t) => plcRemove n a (elapseTo (t + cadNum s 0x0505 0 * 3600000000000) s)

/-! ### Registers -/

/-- PLC_STATUS (09 Table 9.5). -/
def plcStatus (s : State) (n : Nat) : U32 :=
  let p := plcOf s n
  bitAt (plcUp s n) 31 ||| bitAt p.retired 30 ||| bitAt (p.up && s.trav.bpLocal) 29 ||| bitAt (plcZcValid s n) 28 |||
    bitAt p.inhibit.isSome 27 ||| bitAt (plcCfg s n 1 == 1) 26 ||| fieldAt p.pga 16 ||| fieldAt p.joined.length 0

/-- Counters of Table 9.6, from offset 0x010 upward (09). -/
def plcCounters (s : State) (n : Nat) : List U32 :=
  let p := plcOf s n
  [p.rxFrames, p.fcsFail, p.unattributed, p.coherent, p.unmapped, p.refusedBp, p.reasmRefused, p.erased, u32 (p.blanked / 1000), p.txFrames, p.noAck,
   p.tmRequests, p.tmStale, p.discoveries, p.routeFails, p.joinOk, p.joinRefused, p.driverFaults, p.undelivered]

end Sys2Proof.Machine
end

