-- ==== Sys2Proof/Machine/Radio.lean ====
section
/-! DEFINITION. The radio ports: profiles, reception, endpoint tables, link acknowledgements, duty cycles, transmission and pending
downlink (chapter 10). -/

namespace Sys2Proof.Machine

/-- A radio port. -/
def radioOf (s : State) (n : Nat) : RadioPort := tabGet s.radio.ports n {}

/-- Change a radio port. -/
def modRadio (n : Nat) (f : RadioPort → RadioPort) (s : State) : State :=
  { s with radio := { s.radio with ports := tabMod s.radio.ports n {} f } }

/-- Block number of a radio port (10 R247). -/
def radioBlock (n : Nat) : Nat := 48 + n

/-- Sub-field `i` of a port's record in RADIO_PORTS (10 Table 10.8). -/
def radioCfg (s : State) (n i : Nat) : Nat := (cadInt s 0x0510 n i).toNat

/-- Is a radio port up (19 Table 19.1)? -/
def radioUp (s : State) (n : Nat) : Bool := (radioOf s n).up && !(radioOf s n).retired

/-- Does the port receive and transmit: up, and in a unit that serves (10 R232, R246)? -/
def radioLive (s : State) (n : Nat) : Bool := radioUp s n && makesEntries s

/-! ### Profiles (10 Tables 10.2, 10.3, R231) -/

/-- The profile of a number in RADIO_PROFILES. -/
def profileRow (s : State) (k : Nat) : List Int := ((cadRows s 0x0511).find? (fun r => r.getD 0 (-1) == (k : Int))).getD []

/-- Header number `i` of a port's profile, in the order of Table 10.2. -/
def radioNum (s : State) (n i : Nat) : Nat := ((profileRow s (radioCfg s n 3)).getD i 0).toNat

/-- FREQ_HZ and BW_HZ of channel `c` of a profile row: 16 header numbers, then 10 numbers a channel. -/
def channelOf (r : List Int) (c : Nat) : Nat × Nat := ((r.getD (16 + 10 * c) 0).toNat, (r.getD (17 + 10 * c) 0).toNat)

/-- Script `k` of a port's profile runs for a frame of `len` bytes to transmit: TX_LOAD names the transmit channel, every other script the receive
channel (10 Table 10.3). -/
def runScript (n k len : Nat) (s : State) : State :=
  scriptRun n k (radioCfg s n (if k = 3 then 5 else 4)) len [] (profileRow s (radioCfg s n 3)) s

/-- RX_READ runs, and its RDs receive `miso` (10 Table 10.3). -/
def readScript (n : Nat) (miso : List (List U8)) (s : State) : State := scriptRun n 2 (radioCfg s n 4) 0 miso (profileRow s (radioCfg s n 3)) s

/-- Scratch as RX_READ leaves it: RSSI at 1, LQI at 2, the frequency offset at 3 and 4 (10 Table 10.3). -/
def rxScratch (s : State) (n : Nat) (f : RadioFrame) : List Nat := scriptScratch 2 f.miso (profileRow s (radioCfg s n 3))

/-- A transmission of `len` bytes: TX_LOAD before it, RPn_TXGO high for 1.000 us at its start, TX_DONE after it; the receiver is armed again
(10 R229, R236, R237, log 117). -/
def txScripts (n len : Nat) (out : State → State) (s : State) : State :=
  runScript n 1 0 (runScript n 4 0 (out (send (.radio n) "TXGO" [1000] (runScript n 3 len s))))

/-- Are the header numbers of a profile in range (10 Table 10.2)? -/
def profileHeaderOk (r : List Int) : Bool :=
  let g (i : Nat) : Int := r.getD i (-1)
  let within (i : Nat) (a b : Int) : Bool := decide (a ≤ g i ∧ g i ≤ b)
  within 0 0 7 && within 1 0 3 && within 2 1000 25000 && within 3 0 100000 && within 4 0 100000 && within 5 0 1 && within 6 1 16 &&
    within 7 0 1000 && within 8 2400 300000 && within 9 1 3 && within 10 1 2 && within 11 1 64 && within 12 1 4 && within 13 10 10000 &&
    within 14 0 1000 && within 15 0 0 &&
    (List.range (g 6).toNat).all (fun c => decide (r.getD (18 + 10 * c) 0 ≤ 8))

/-- Sub-band of a channel: the one entry of RADIO_SUBBANDS that holds its whole span (10 R231, R239). -/
def subBand (bands : List (List Int)) (ch : Nat × Nat) : Option Nat :=
  bands.findIdx? (fun b => decide (b.getD 0 0 ≤ (ch.1 : Int) - ch.2 / 2 ∧ (ch.1 : Int) + ch.2 / 2 ≤ b.getD 1 0))

/-- The sub-band in which a port transmits. -/
def txBand (s : State) (n : Nat) : Nat :=
  (subBand (cadRows s 0x0512) (channelOf (profileRow s (radioCfg s n 3)) (radioCfg s n 5))).getD 0

/-! ### Duty cycle (10 R238 to R241) -/

/-- Airtime of `bits` on the air in µs, rounded up. -/
def airBits (s : State) (n bits num den : Nat) : Nat :=
  let d := max 1 (den * radioNum s n 8)
  (bits * num * 1000000 + d - 1) / d

/-- Airtime charged for a frame of `bytes` (10 R238). -/
def airtime (s : State) (n bytes : Nat) : Nat :=
  airBits s n (8 * (radioNum s n 11 + radioNum s n 12 + bytes)) (radioNum s n 9) (radioNum s n 10) + radioNum s n 7

/-- Bytes of the frame that carries a downlink: an association response is its MAC frame; any other is a datagram in the link's framing
(10 R238, log 9). -/
def frameLen (s : State) (n : Nat) (d : Down) : Nat := if d.kind = 3 then d.length else Config.frameBytes (radioCfg s n 1) d.length

/-- The current second of device time. -/
def curSecond (s : State) : Nat := devTime s / 1000000000

/-- Used airtime of a sub-band in µs (10 R239). -/
def bandUsed (s : State) (n b : Nat) : Nat :=
  (((tabGet (radioOf s n).buckets b []).filter (fun e => decide (curSecond s < e.1 + 3600))).map (·.2)).sum

/-- Budget of a sub-band in µs. -/
def bandBudget (s : State) (b : Nat) : Nat := (cadInt s 0x0512 b 2).toNat

/-- May a transmission of `us` start in the port's sub-band (10 R239)? -/
def affordable (s : State) (n us : Nat) : Bool := decide (bandUsed s n (txBand s n) + us ≤ bandBudget s (txBand s n))

/-- Charge a transmission to the bucket of this second (10 R239). -/
def charge (n us : Nat) (s : State) : State :=
  let b := txBand s n
  modRadio n (fun p => { p with buckets := tabMod p.buckets b [] (fun t => tabMod t (curSecond s) 0 (· + us)) }) s

/-- BUDGET_BUCKET_ROLL: the next second of device time begins, and the oldest bucket of each sub-band leaves the window (10 R239). -/
def budgetRoll (s : State) : State :=
  let s := elapseDev ((curSecond s + 1) * 1000000000) s
  let keep (t : Tab Nat) : Tab Nat := t.filter (fun e => decide (curSecond s < e.1 + 3600))
  { s with radio := { s.radio with ports := s.radio.ports.map (fun e => (e.1, { e.2 with buckets := e.2.buckets.map (fun b => (b.1, keep b.2)) })) } }

/-! ### Endpoint table (10 R233, R242) -/

/-- The lowest free short address (10 R233). -/
def radioAddress (s : State) (n : Nat) : Option Nat :=
  let p := radioOf s n
  ((List.range 10000).map (· + 1)).find? (fun a => !p.eps.any (fun e => e.2.short == a) && (match tabFind p.freed a with
    | some t => decide (t + 86400000000000 ≤ s.mono)
    | none => true))

/-- The entry of an address. -/
def epByAddress (s : State) (n : Nat) (a : U64) : Option (Nat × RadioEp) := (radioOf s n).eps.find? (fun e => e.2.address == a)

/-- The lowest free entry number. -/
def epFree (s : State) (n : Nat) : Option Nat :=
  let t := (radioOf s n).eps
  (List.range 10000).find? (fun k => (tabFind t k).isNone)

/-- Store an entry of the endpoint table. -/
def setEp (n k : Nat) (e : RadioEp) (s : State) : State := modRadio n (fun p => { p with eps := tabPut p.eps k e }) s

/-- Sender and request number of a downlink (10 Table 10.4): subsystem 1 for confirmations, 7 for campaigns. -/
def downSender (d : Down) : Nat := (if d.kind = 0 then 4096 else 28672) + d.number % 4096

/-- DOWNLINK_STATE of a parcel follows the frames pending for it (10 R242). -/
def pendingRefs (n i k : Nat) (s : State) : State :=
  let l := match tabFind (radioOf s n).eps k with
    | some e => e.pending.zipIdx.filterMap (fun x => if x.1.1.parcel = i then some (n, 4 * k + x.2, downSender x.1.1, x.1.2) else none)
    | none => []
  let p := parcelOf s i
  if p.state = .free then s else setParcel i { p with downlink := l, downlinkPending := !l.isEmpty } s

/-- A downlink ends with a code and returns to its sender (10 R240, R242). -/
def radioEnd (n : Nat) (c : U16) (d : Down) (s : State) : State :=
  let s := modRadio n (fun p =>
    if c = OC_BUDGET then { p with budgetFail := p.budgetFail + 1 }
    else if c = OC_RADIO_PENDING_EXPIRED then { p with expired := p.expired + 1 }
    else if c = OC_RADIO_ONEWAY ∧ d.kind = 0 then { p with oneWay := p.oneWay + 1 }
    else p) s
  if d.kind = 0 ∨ d.kind = 3 then s else { s with hx := { s.hx with ended := s.hx.ended ++ [(d, c)] } }

/-- Remove an entry: its pending and queued frames end, and its short address is not reissued for 24 h (10 R233, R244). -/
def epRemove (n k : Nat) (s : State) : State := match tabFind (radioOf s n).eps k with
  | none => s
  | some e =>
    let s := modRadio n (fun p => { p with eps := tabDel p.eps k, freed := if e.short = 0xFFFF then p.freed else tabPut p.freed e.short s.mono }) s
    let s := forEach e.pending (fun x t => pendingRefs n x.1.parcel k (radioEnd n OC_RADIO_UNKNOWN_EP x.1 t)) s
    let q := (radioOf s n).queue.filter (fun t => t.entry == k)
    let s := modRadio n (fun p => { p with queue := p.queue.filter (fun t => t.entry != k) }) s
    forEach (q.filter (fun t => !t.polled)) (fun t u => radioEnd n OC_RADIO_UNKNOWN_EP t.down u) s

/-- ENDPOINT_IDLE_EXPIRY: the endpoint silent longest reaches ENDPOINT_IDLE_H (10 R233). -/
def endpointIdleExpiry (n : Nat) (s : State) : State :=
  let k := (radioOf s n).eps.foldl (fun (a : Option (Nat × Nat)) e => match a with
    | none => some (e.1, e.2.heard)
    | some x => if e.2.heard < x.2 then some (e.1, e.2.heard) else some x) none
  match k with
  | none => s
  | some (a, t) => epRemove n a (elapseTo (t + cadNum s 0x0515 0 * 3600000000000) s)

/-- Default or set ACK_GAP_US of a port (10 R236). -/
def ackGap (s : State) (n : Nat) : Nat :=
  let g := (cadInt s 0x0513 n 0).toNat
  if g ≠ 0 then g else if radioCfg s n 1 = 0 then 1000 else 2000

/-- Schedule an acknowledgement or response, or suppress it where it does not fit its budget (10 R235, R240). -/
def ackSchedule (n tEnd bytes k : Nat) (more response : Bool) (s : State) : State :=
  let us := airtime s n bytes
  if affordable s n us then
    modRadio n (fun p => { p with ack := some { txgo := tEnd + ackGap s n * 1000 - radioNum s n 4, airtime := us, bytes := bytes, entry := k, more := more,
                                                response := response } }) s
  else modRadio n (fun p => { p with suppressed := p.suppressed + 1 }) s

/-- A MAC command with a good check sequence that ended `ago` ns before: counted and acknowledged (10 R235, Table 10.6). -/
def radioCommand (n ackBytes ago k : Nat) (more : Bool) (s : State) : State :=
  ackSchedule n (devTime s - ago) ackBytes k more false (modRadio n (fun p => { p with rxFrames := p.rxFrames + 1 }) s)

/-- RADIO_ASSOCIATION_REQUEST: an association is acknowledged and answered with a short address, or refused at capacity (10 R233). `ago` is
the time from the frame's end. -/
def radioAssociation (n : Nat) (addr : U64) (rxOnIdle : Bool) (ackBytes ago : Nat) (s : State) : State :=
  if !radioLive s n ∨ radioCfg s n 1 ≠ 0 then s
  else
    let s := radioCommand n ackBytes ago 0xFFFF false s
    let s := forEach (List.range 8) (fun m t => if m = n then t else match epByAddress t m addr with
      | some e => epRemove m e.1 t
      | none => t) s
    let reply (k short status : Nat) (s : State) : State :=
      let d : Down := { kind := 3, path := 2, port := n, shortAddr := short, length := 29, number := status }
      if 1024 ≤ (radioOf s n).queue.length then s
      else modRadio n (fun p => { p with queue := p.queue ++ [{ down := d, entry := k, since := s.mono }] }) s
    match epByAddress s n addr with
    | some (k, e) =>
      let short := if e.short = 0xFFFF then (radioAddress s n).getD 0xFFFF else e.short
      reply k short 0 (setEp n k { e with short := short, sleepy := !rxOnIdle, heard := s.mono } s)
    | none => match epFree s n, radioAddress s n with
      | some k, some short => reply k short 0 (setEp n k { address := addr, short := short, heard := s.mono, sleepy := !rxOnIdle, lastHop := short } s)
      | _, _ => reply 0xFFFF 0xFFFF 1 (modRadio n (fun p => { p with assocRefused := p.assocRefused + 1 }) s)

/-! ### Scripts (10 R232) -/

/-- INIT has completed: RX_ARM arms the receiver and the port is up; a standby runs SLEEP in its place (10 R232, R246). -/
def radioArm (n : Nat) (s : State) : State := runScript n (if makesEntries s then 1 else 5) 0 (modRadio n (fun p => { p with up := true }) s)

/-- Reset a port's transceiver and run INIT again (10 R232). -/
def radioReset (n : Nat) (s : State) : State :=
  let s := runScript n 0 0 (send (.radio n) "RESET" [radioNum s n 13, radioNum s n 14] s)
  let l := ((radioOf s n).resets.filter (fun t => decide (s.mono < t + 60000000000))) ++ [s.mono]
  let s := modRadio n (fun p => { p with up := false, fails := 0, resets := l, ack := none, current := none,
                                         queue := (match p.current with
                                           | some t => [t]
                                           | none => []) ++ p.queue }) s
  if 3 ≤ l.length then
    record (radioBlock n) OC_RADIO_SCRIPT [u32 n] (retireResource (200 + n) (modRadio n (fun p => { p with retired := true }) s))
  else s

/-- A script run of a port fails (10 R232): repeated under C2, the fourth failure in a row a C3 reset. -/
def radioScriptFail (n script : Nat) (s : State) : State :=
  if (radioOf s n).retired then s
  else
    let s := modRadio n (fun p => { p with scriptFails := p.scriptFails + 1, fails := p.fails + 1 }) s
    let h := s.trav.handlings.find? (fun h => h.cls == 2 && scopeBlock h.scope == radioBlock n)
    if 4 ≤ (radioOf s n).fails then
      radioReset n (match h with
        | some h => handlingToC3 h s
        | none => containError 3 (.block (radioBlock n)) OC_RADIO_SCRIPT [u32 n, u32 script] s)
    else match h with
      | some h => { s with trav := { s.trav with handlings := s.trav.handlings.map (fun x => if x.id = h.id then { x with failures := x.failures + 1 } else x) } }
      | none => containError 2 (.op (radioBlock n) script) OC_RADIO_SCRIPT [u32 n, u32 script] s

/-- A script run of a port succeeds after failures: the C2 repeat is done (10 R232, 04 R110). -/
def radioScriptGood (n : Nat) (s : State) : State :=
  if (radioOf s n).fails = 0 then s
  else
    let s := modRadio n (fun p => { p with fails := 0 }) s
    match s.trav.handlings.find? (fun h => h.cls == 2 && scopeBlock h.scope == radioBlock n) with
    | some h => handlingEnd h.id s
    | none => s

/-- RADIO_SCRIPT_TIMEOUT: a POLL or WAIT_IRQ of a script of port `n` times out (10 R232). -/
def radioScriptTimeout (n script : Nat) (s : State) : State := radioScriptFail n script s

/-! ### Reception (10 R226, R229, R230, R233 to R236) -/

/-- End instant of a frame whose edge was captured at `edge` (10 R230). -/
def radioEndTime (s : State) (n edge : Nat) (f : RadioFrame) : Nat :=
  let t := edge - radioNum s n 3
  if radioNum s n 5 = 1 then t
  else
    let num := if f.fec then 2 else radioNum s n 9
    let den := if f.fec then 1 else radioNum s n 10
    t + airBits s n (8 * f.airBytes) num den * 1000

/-- LINK_STATE of a frame (10 Table 10.5). -/
def radioLinkState (s : State) (n k : Nat) (f : RadioFrame) : List Nat :=
  let e := (tabFind (radioOf s n).eps k).getD {}
  let x := rxScratch s n f
  [x.getD 1 0, x.getD 2 0, 16 * radioCfg s n 1 + radioCfg s n 2, radioCfg s n 4] ++
    le2 (if radioCfg s n 1 = 0 then f.lastHop else 0xFFFF) ++ [x.getD 3 0, x.getD 4 0] ++ le2 k ++
    [(if f.relayed then 1 else 0) + (if e.oneWay then 2 else 0) + (if e.sleepy then 4 else 0), 0, 0, 0, 0, 0]

/-- The entry of the frame's originator, made where it is new; none where the table is full (10 R233). -/
def epFor (n : Nat) (f : RadioFrame) (s : State) : Option (Nat × State) :=
  let mb := decide (radioCfg s n 1 = 1)
  match epByAddress s n f.address with
  | some (k, e) => some (k, setEp n k { e with heard := s.mono, lastHop := f.lastHop } s)
  | none => match epFree s n with
    | some k => some (k, setEp n k { address := f.address, short := if mb || f.relayed then 0xFFFF else f.lastHop, heard := s.mono, lastHop := f.lastHop,
                                     sleepy := mb, oneWay := mb && radioCfg s n 2 % 2 == 0 } s)
    | none => none

/-- Pass a frame to admission (10 R226, R230). -/
def radioDeliver (n k tEnd : Nat) (f : RadioFrame) (a : Arrival) (s : State) : State :=
  let e := (tabFind (radioOf s n).eps k).getD {}
  arriveAt tEnd { a with path := 2, port := n, cell := 0xFFFF, shortAddr := e.short, linkState := radioLinkState s n k f } s

/-- Is what a frame carries of the port's standard (10 R225)? -/
def contentFits (sun : Bool) : RadioContent → Bool
  | .mbus _ _ _ => !sun
  | .datagram _ _ _ => sun
  | .fragment _ _ _ _ _ _ _ => sun
  | .ack => true
  | .other => true

/-- A data frame that would be refused for back-pressure (10 R234). -/
def radioRefuse (n : Nat) (s : State) : State := modRadio n (fun p => { p with refusedBp := p.refusedBp + 1 }) s

/-- The frame sent is acknowledged: done, and a polled frame leaves the pending set (10 R243). -/
def radioSent (n : Nat) (s : State) : State := match (radioOf s n).current with
  | none => s
  | some t =>
    let s := modRadio n (fun p => { p with current := none }) s
    if !t.polled then radioEnd n OC_OK t.down s
    else match tabFind (radioOf s n).eps t.entry with
      | none => s
      | some e => match e.pending with
        | (d, _) :: l => if d = t.down then radioEnd n OC_OK d (pendingRefs n d.parcel t.entry (setEp n t.entry { e with pending := l } s)) else s
        | [] => s

/-- A SUN-FSK data frame whose entry is `k`: acknowledged where it asks for it. -/
def radioAckFor (n k tEnd : Nat) (f : RadioFrame) (s : State) : State :=
  if f.ackRequest then ackSchedule n tEnd f.ackBytes k false false s else s

/-- An EN 13757-4 frame: the oldest pending frame answers it in place of the ACK, and a pending frame whose access number returns
has arrived (10 R235, R243). -/
def radioMbus (n k tEnd c acc : Nat) (f : RadioFrame) (s : State) : State :=
  let e := (tabFind (radioOf s n).eps k).getD {}
  let s := match e.sent, e.pending with
    | some x, (d, _) :: l =>
      if x = acc then pendingRefs n d.parcel k (radioEnd n OC_OK d (setEp n k { e with pending := l, sent := none } s)) else s
    | _, _ => s
  let e := (tabFind (radioOf s n).eps k).getD {}
  if radioCfg s n 2 % 2 = 0 then s
  else match e.pending with
    | (d, _) :: l =>
      let len := frameLen s n d
      let fits := affordable s n (airtime s n len)
      setEp n k { e with sent := if fits then some acc else none } (ackSchedule n tEnd len k (!l.isEmpty) true s)
    | [] => if c = 0x48 ∨ c = 0x46 then ackSchedule n tEnd f.ackBytes k false false s else s

/-- The endpoint table is full: the frame is discarded without acknowledgement (10 R233). -/
def radioFull (n : Nat) (s : State) : State := modRadio n (fun p => { p with assocRefused := p.assocRefused + 1 }) s

/-- A datagram that R226 discards. -/
def radioUnmapped (n : Nat) (s : State) : State := modRadio n (fun p => { p with unmapped := p.unmapped + 1 }) s

/-- A fragment: reassembled, refused, or the last of its datagram (10 R226, R234). -/
def radioFragment (n tEnd tag size off len udp : Nat) (dlms : Bool) (f : RadioFrame) (a : Arrival) (s : State) : State :=
  let lim := cadNum s 0x0506 1 * 1000000000
  let s := modRadio n (fun p => { p with reasm := p.reasm.filter (fun x => decide (s.mono < x.since + lim)) }) s
  let src := f.address.toNat
  match (radioOf s n).reasm.find? (fun b => b.src == src && b.tag == tag) with
  | some b => match epFor n f s with
    | none => radioFull n s
    | some (k, s) =>
      let s := radioAckFor n k tEnd f s
      let got := if b.got.any (fun x => x.1 == off) then b.got else b.got ++ [(off, len)]
      if b.size ≤ (got.map (·.2)).sum then
        radioDeliver n k tEnd f a (modRadio n (fun p => { p with reasm := p.reasm.filter (fun x => !(x.src == src && x.tag == tag)) }) s)
      else modRadio n (fun p => { p with reasm := p.reasm.map (fun x => if x.src = src ∧ x.tag = tag then { x with got := got } else x) }) s
  | none =>
    if s.trav.bpLocal then radioRefuse n s
    else if off ≠ 0 then s
    else if udp ≠ 4059 ∨ !dlms then radioUnmapped n s
    else if 64 ≤ (radioOf s n).reasm.length ∨ 1280 < size then s
    else match epFor n f s with
      | none => radioFull n s
      | some (k, s) =>
        let s := radioAckFor n k tEnd f s
        if size ≤ len then radioDeliver n k tEnd f a s
        else modRadio n (fun p => { p with reasm := p.reasm ++ [{ src := src, tag := tag, size := size, got := [(0, len)], since := s.mono }] }) s

/-- RADIO_FRAME_RECEIVED at port `n` (10 R226, R229, R230, R232 to R235). -/
def radioFrameReceived (n : Nat) (f : RadioFrame) (s : State) : State :=
  let s := elapse f.dt s
  let edge := devTime s
  if !radioLive s n ∨ f.pulse < 100 then elapse f.readNs s
  else if (match (radioOf s n).edge with
      | some e => decide (edge < e + 10000)
      | none => false) then elapse f.readNs (modRadio n (fun p => { p with ignored := p.ignored + 1 }) s)
  else
    let s := runScript n 1 0 (readScript n f.miso (elapse f.readNs (modRadio n (fun p => { p with edge := some edge }) s)))
    if 255 < f.length then radioScriptFail n 2 s
    else
      let s := radioScriptGood n s
      if !f.checkOk ∨ (radioCfg s n 1 = 1 ∧ !f.modeOk) ∨ !contentFits (radioCfg s n 1 == 0) f.content then modRadio n (fun p => { p with fcsFail := p.fcsFail + 1 }) s
      else
        let s := modRadio n (fun p => { p with rxFrames := p.rxFrames + 1 }) s
        let tEnd := radioEndTime s n edge f
        let sun := radioCfg s n 1 = 0
        if sun ∧ f.pan ≠ radioCfg s n 6 then s
        else if sun ∧ f.security then modRadio n (fun p => { p with unsupported := p.unsupported + 1 }) s
        else if !f.toDevice then s
        else match f.content with
          | .ack => radioSent n s
          | .other => if sun then radioAckFor n 0xFFFF tEnd f s else s
          | .datagram udp dlms a =>
            if s.trav.bpLocal then radioRefuse n s
            else if udp ≠ 4059 ∨ !dlms then radioUnmapped n s
            else match epFor n f s with
              | none => radioFull n s
              | some (k, s) => radioDeliver n k tEnd f a (radioAckFor n k tEnd f s)
          | .fragment tag size off len udp dlms a => radioFragment n tEnd tag size off len udp dlms f a s
          | .mbus c acc a =>
            if s.trav.bpLocal then radioRefuse n s
            else match epFor n f s with
              | none => radioFull n s
              | some (k, s) => radioDeliver n k tEnd f a (radioMbus n k tEnd c acc f s)

/-- RADIO_ACK_TXGO: at its TXGO the acknowledgement or response goes out, or is dropped as late (10 R236). -/
def radioAckTxgo (n : Nat) (late : Bool) (s : State) : State := match (radioOf s n).ack with
  | none => s
  | some a =>
    let s := elapseDev a.txgo s
    let s := modRadio n (fun p => { p with ack := none }) s
    if late then
      let s := containC1 (modRadio n (fun p => { p with late := p.late + 1 }) s)
      match tabFind (radioOf s n).eps a.entry with
      | some e => if a.response then setEp n a.entry { e with sent := none } s else s
      | none => s
    else
      let s := charge n a.airtime s
      txScripts n a.bytes (send (.radio n) (if a.response then "RESPONSE" else "ACK") [a.entry, a.bytes, if a.more then 1 else 0])
        (modRadio n (fun p => { p with acksSent := p.acksSent + 1, txStamp := bmInt s }) s)

/-! ### Transmission (10 R237, R240, R242 to R244) -/

/-- The table entry of the endpoint that a downlink is for, while the port holds that endpoint: by its short address, or by its link address,
which is its parcel's identity (03 Table 3.1, 10 R244). -/
def downEntry (s : State) (n : Nat) (d : Down) : Option RadioEp :=
  (tabFind (radioOf s n).eps d.entry).filter (fun e =>
    if radioCfg s n 1 = 1 then e.address == (parcelOf s d.parcel).identity else e.short == d.shortAddr)

/-- The MAC destination of a downlink on a SUN-FSK port: the endpoint, or for an originator beyond a mesh parent the LAST_HOP of the journal
entry, whose LINK_STATE bytes 4 and 5 it is (10 R244, Table 10.5). -/
def downHop (s : State) (n : Nat) (d : Down) : Nat := match tabFind (radioOf s n).eps d.entry with
  | some e => if e.short = 0xFFFF then d.localAddr / 4294967296 % 65536 else e.short
  | none => d.shortAddr

/-- RADIO_DOWNLINK_QUEUE: the oldest downlink handed to the port is queued, held as pending, or refused (10 R240, R242, R244). It waits where it is
while RADIO_TIMING drains (02 R50). -/
def radioDownlinkQueue (n : Nat) (s : State) : State := if s.cad.draining.contains 0x0513 then s else match (radioOf s n).inbox with
  | [] => s
  | d :: l =>
    let s := modRadio n (fun p => { p with inbox := l }) s
    match downEntry s n d with
    | none => radioEnd n OC_RADIO_UNKNOWN_EP d s
    | some e =>
      if (radioOf s n).retired then radioEnd n OC_RADIO_UNKNOWN_EP d s
      else if e.oneWay then radioEnd n OC_RADIO_ONEWAY d s
      else if e.sleepy then
        if 4 ≤ e.pending.length then radioEnd n OC_RADIO_PENDING_FULL d s
        else pendingRefs n d.parcel d.entry (setEp n d.entry { e with pending := e.pending ++ [(d, s.mono)] } s)
      else
        let q := (radioOf s n).queue
        let x : RadioTx := { down := d, entry := d.entry, since := s.mono }
        if d.kind = 0 ∧ q.any (fun t => t.down.kind == 0 && t.down.parcel == d.parcel) then
          modRadio n (fun p => { p with queue := q.map (fun t => if t.down.kind = 0 ∧ t.down.parcel = d.parcel then x else t) }) s
        else if 1024 ≤ q.length then radioEnd n OC_RADIO_TXQ_FULL d s
        else modRadio n (fun p => { p with queue := q ++ [x] }) s

/-- Does a frame end before the scheduled acknowledgement is loaded (10 R237)? -/
def clearOfAck (s : State) (n us : Nat) : Bool := match (radioOf s n).ack with
  | none => true
  | some a => decide (devTime s + us * 1000 ≤ a.txgo - 2000)

/-- Is the answer to a poll no longer in time (10 R243)? -/
def pollStale (s : State) (t : RadioTx) : Bool := t.polled && decide (t.since + cadNum s 0x0514 1 * 1000000 < s.mono)

/-- May this queued frame start now (10 R237, R239, R243)? -/
def canStart (s : State) (n : Nat) (t : RadioTx) : Bool :=
  let us := airtime s n (frameLen s n t.down)
  !pollStale s t && affordable s n us && clearOfAck s n us

/-- One more try of a frame has failed: queued again in front, kept for the next poll, or ended with OC_RADIO_NO_ACK (10 R237, R243). -/
def radioRetry (n : Nat) (t : RadioTx) (s : State) : State :=
  if t.attempts < cadNum s 0x0506 0 then
    modRadio n (fun p => { p with queue := { t with attempts := t.attempts + 1 } :: p.queue }) s
  else if t.polled then s
  else radioEnd n OC_RADIO_NO_ACK t.down s

/-- RADIO_TX_START: the oldest queued frame that fits starts with CSMA-CA, which assesses the channel through RX_READ's RSSI; `clear` where the
channel was found free (10 R237, log 117). -/
def radioTxStart (n : Nat) (clear : Bool) (s : State) : State :=
  if !radioLive s n ∨ (radioOf s n).current.isSome then s
  else match (radioOf s n).queue.find? (canStart s n) with
    | none => s
    | some t =>
      let s := runScript n 2 0 (modRadio n (fun p => { p with queue := removeFirst (canStart s n) p.queue }) s)
      if !clear then radioRetry n t s
      else
        let us := airtime s n (frameLen s n t.down)
        let s := charge n us s
        let to_ := ((tabFind (radioOf s n).eps t.entry).map (·.address.toNat)).getD 0
        txScripts n (frameLen s n t.down)
          (send (.radio n) "FRAME" ([(t.entry : Int), downHop s n t.down, to_, t.down.kind, t.down.length, if t.more then 1 else 0] ++ byteNums t.down.content))
          (modRadio n (fun p => { p with txFrames := p.txFrames + 1, txStamp := bmInt s, current := some t }) s)

/-- RADIO_ACK_TIMEOUT: no link acknowledgement of the frame sent (10 R237, R243). -/
def radioAckTimeout (n : Nat) (s : State) : State := match (radioOf s n).current with
  | none => s
  | some t => radioRetry n t (modRadio n (fun p => { p with current := none }) s)

/-- TX_HOLD_S of a port in ns (10 R240). -/
def txHold (s : State) (n : Nat) : Nat := (cadInt s 0x0513 n 1).toNat * 1000000000

/-- The queued frame that has waited longest among `q`, the first of equals. -/
def longestHeld : List RadioTx → Option RadioTx
  | [] => none
  | t :: q => match longestHeld q with
    | none => some t
    | some u => if t.since ≤ u.since then some t else some u

/-- RADIO_TX_HOLD_EXPIRY: the frame queued longest reaches TX_HOLD_S. Unaffordable, it ends; a poll's answer stays pending
(10 R240, R243). -/
def radioTxHoldExpiry (n : Nat) (s : State) : State := match longestHeld (radioOf s n).queue with
  | none => s
  | some t =>
    let s := elapseTo (t.since + txHold s n) s
    if affordable s n (airtime s n (frameLen s n t.down)) then s
    else
      let s := modRadio n (fun p => { p with queue := removeFirst (fun x => x == t) p.queue }) s
      if t.polled then s else radioEnd n OC_BUDGET t.down s

/-- RADIO_DATA_REQUEST from entry `k` of a SUN-FSK port: acknowledged with its pending bit, and its oldest pending frame is sent
(10 R243). `ago` is the time from the frame's end. -/
def radioDataRequest (n k ackBytes ago : Nat) (s : State) : State :=
  if !radioLive s n ∨ radioCfg s n 1 ≠ 0 then s
  else match tabFind (radioOf s n).eps k with
    | none => radioCommand n ackBytes ago k false s
    | some e =>
      let s := radioCommand n ackBytes ago k (!e.pending.isEmpty) (setEp n k { e with heard := s.mono } s)
      match e.pending with
      | [] => s
      | (d, _) :: l =>
        let s := modRadio n (fun p => { p with queue := p.queue.filter (fun t => !(t.entry == k && pollStale s t)) }) s
        let q := (radioOf s n).queue
        if q.any (fun t => t.polled && t.entry == k) ∨ 1024 ≤ q.length then s
        else modRadio n (fun p => { p with queue := { down := d, entry := k, since := s.mono, polled := true, more := !l.isEmpty } :: p.queue }) s

/-- PENDING_TTL_EXPIRY: the oldest pending frame of a port reaches PENDING_TTL_S (10 R242). -/
def pendingTtlExpiry (n : Nat) (s : State) : State :=
  let k := (radioOf s n).eps.foldl (fun (a : Option (Nat × Nat)) e => match e.2.pending with
    | [] => a
    | (_, t) :: _ => match a with
      | none => some (e.1, t)
      | some x => if t < x.2 then some (e.1, t) else some x) none
  match k with
  | none => s
  | some (k, t) =>
    let s := elapseTo (t + cadNum s 0x0514 0 * 1000000000) s
    match tabFind (radioOf s n).eps k with
    | none => s
    | some e => match e.pending with
      | [] => s
      | (d, _) :: l =>
        let s := modRadio n (fun p => { p with queue := p.queue.filter (fun x => !(x.polled && x.entry == k)) }) s
        pendingRefs n d.parcel k (radioEnd n OC_RADIO_PENDING_EXPIRED d (setEp n k { e with pending := l, sent := none } s))

/-- At every start pending frames return to their senders (10 R242). -/
def pendingClear (s : State) : State :=
  forEach (List.range 8) (fun n s => forEach (radioOf s n).eps (fun e s =>
    forEach e.2.pending (fun x s => pendingRefs n x.1.parcel e.1 (radioEnd n OC_RADIO_PENDING_EXPIRED x.1 s))
      (setEp n e.1 { e.2 with pending := [], sent := none } s)) s) s

/-! ### Registers -/

/-- RADIO_STATUS (10 Table 10.7). -/
def radioStatus (s : State) (n : Nat) : U32 :=
  let p := radioOf s n
  let ackLen := if radioCfg s n 1 = 0 then 7 else 12
  bitAt (radioUp s n) 31 ||| bitAt p.retired 30 ||| bitAt (p.up && s.trav.bpLocal) 29 |||
    bitAt (p.up && !affordable s n (airtime s n ackLen)) 28 ||| bitAt (radioCfg s n 1 == 1) 27 ||| fieldAt (radioCfg s n 2 % 8) 24 |||
    fieldAt p.eps.length 0

/-- Counters of Table 10.6, from offset 0x010 upward (10). -/
def radioCounters (s : State) (n : Nat) : List U32 :=
  let p := radioOf s n
  [p.rxFrames, p.fcsFail, p.unsupported, p.unmapped, p.refusedBp, p.assocRefused, p.acksSent, p.suppressed, p.late, p.txFrames, p.budgetFail, p.expired,
   p.oneWay, p.ignored, p.scriptFails]

end Sys2Proof.Machine
end

