-- ==== Sys2Proof/Machine/CadCheck.lean ====
section
/-! DEFINITION. The checks of a cadastre image and of an amendment's records: TLV structure, ranges and cross-field rules
(02 R42 to R47, R51, R455, and the rules of every chapter's fields). -/

namespace Sys2Proof.Machine

/-! ### The TLV area (02 R43) -/

/-- Are tags in order: strictly ascending but for a record that continues one of exactly 65,535 bytes? -/
def tlvOrder : List CadRecord → Bool
  | [] => true
  | [_] => true
  | a :: b :: l => (decide (a.tag < b.tag) || (a.tag == b.tag && a.value.length == 65535)) && tlvOrder (b :: l)

/-- The tags of an area, each once. -/
def tagsOf (rs : List CadRecord) : List Nat := rs.foldl (fun l r => if l.contains r.tag then l else l ++ [r.tag]) []

/-- Known tags of an area. -/
def knownTags (rs : List CadRecord) : List Nat := (tagsOf rs).filter (fun t => (fieldSpec t).isSome)

/-- Unknown tags of an area with bit 15 set: skipped and recorded. -/
def skippedTags (rs : List CadRecord) : List Nat := (tagsOf rs).filter (fun t => (fieldSpec t).isNone && decide (32768 ≤ t))

/-- Does the value of every known tag suit its type? -/
def shapesOk (rs : List CadRecord) : Bool := fieldSpecs.all (fun f => !(tagsOf rs).contains f.tag || (fieldRows f (tagValue rs f.tag)).isSome)

/-- The walk of a TLV area: its values, or the code that refuses it (02 R43, R45). -/
def tlvWalk (area : List U8) : Except U16 CadValues := match tlvParse area.length area with
  | none => .error OC_CDST_FORMAT
  | some rs =>
    if !tlvOrder rs ∨ !shapesOk rs then .error OC_CDST_FORMAT
    else if (tagsOf rs).any (fun t => (fieldSpec t).isNone && decide (t < 32768)) then .error OC_UNKNOWN_TAG
    else .ok ((knownTags rs).foldl (fun v t => tabPut v t (tagRows rs t)) [])

/-! ### Ranges (02 R45, R455) -/

/-- Are the numbers of a row within a list of ranges? -/
def rowIn : List Int → List (Int × Int) → Bool
  | x :: xs, b :: bs => decide (b.1 ≤ x ∧ x ≤ b.2) && rowIn xs bs
  | _, _ => true

/-- A row of a port that is not enabled: only ENABLE and its reserved bytes are checked (02 R455). -/
def portRowOff (tag : Nat) (r : List Int) : Bool :=
  (tag == 0x0501 || tag == 0x0510) && r.getD 0 1 == 0 && (tag == 0x0510 || r.getD 5 0 == 0)

/-- Is a seasonal pin's function and parameter in range (02 Table 2.3)? -/
def pinOk (r : List Int) : Bool :=
  let p := r.getD 1 0
  let c := r.getD 0 0
  if c = 2 then decide (p ≤ 1) else if c = 3 ∨ c = 10 then decide (p ≤ 7) else decide (p = 0)

/-- Is a waveform in range (19 Table 19.4)? -/
def waveOk (r : List Int) : Bool :=
  let n := (r.getD 1 0).toNat
  decide (1 ≤ r.getD 0 0 ∧ r.getD 0 0 ≤ 100 ∧ 1 ≤ n ∧ n ≤ 64) &&
  (List.range 64).all (fun k =>
    let b := (r.getD (2 + k) 0).toNat
    if k < n then b % 4 != 3 && b / 4 % 4 != 3 && b / 16 % 4 != 3 && b / 64 != 3 else b == 0)

/-- Is a key an HSS public key of the parameter sets of 14 R332: u32 L 1 or 2, then an LMS key of type H15, H20 or H25 with LMOTS W4? -/
def hssKeyOk (k : Int) : Bool :=
  let n := k.toNat
  let l := n / 256 ^ 56
  let lms := n / 256 ^ 52 % 256 ^ 4
  decide ((l = 1 ∨ l = 2) ∧ 7 ≤ lms ∧ lms ≤ 9 ∧ n / 256 ^ 48 % 256 ^ 4 = 3)

/-- What a row breaks beyond the ranges of its numbers, by field. -/
def rowOk (tag : Nat) (r : List Int) : Bool :=
  if tag = 0x0020 then pinOk r
  else if tag = 0x0201 then profileRange r
  else if tag = 0x0303 then [5, 10, 15, 30, 60].contains (r.getD 0 0)
  else if tag = 0x0404 then decide (r.getD 3 0 % 2 = 0)
  else if tag = 0x0407 then r.any (fun x => x != 0)
  else if tag = 0x0501 then decide (r.getD 3 0 % 3 = 0)
  else if tag = 0x0511 then profileHeaderOk r
  else if tag = 0x0513 then decide (r.getD 0 0 = 0 ∨ 100 ≤ r.getD 0 0)
  else if tag = 0x0702 then decide (r.getD 1 0 % 2 = 0) && hssKeyOk (r.getD 6 0)
  else if tag = 0x0801 then hssKeyOk (r.getD 0 0)
  else if tag = 0x0931 then waveOk r
  else true

/-- Is a value within the range of its field? A calendar answers with its own code (06 R139). -/
def rangeCode (f : FieldSpec) (rows : List (List Int)) : U16 :=
  if f.tag = 0x0210 then
    match (rows.map (fun r => calFault (r.map Int.toNat))).find? (fun n => n == 1 || n == 2) with
    | some 1 => OC_RANGE
    | some _ => OC_RESERVED_SET
    | none => if f.rows < rows.length then OC_RANGE else OC_OK
  else if (f.isList && decide (f.rows < rows.length)) || rows.any (fun r => !portRowOff f.tag r && !(rowIn r f.ranges && rowOk f.tag r)) then OC_RANGE
  else OC_OK

/-- The first code of the range step over the values given, in tag order. -/
def rangesCode (v : CadValues) : U16 := v.foldl (fun c e => if c ≠ OC_OK then c else match fieldSpec e.1 with
  | some f => rangeCode f e.2
  | none => OC_OK) OC_OK

/-! ### Cross-field rules (02 R45, R455) -/

/-- Are the first numbers of rows pairwise different? -/
def rowsDistinct (rows : List (List Int)) : Bool := distinctNats (rows.map (fun r => (r.getD 0 0).toNat))

/-- The pin rules of 02 R38. -/
def pinsCross (rows : List (List Int)) : Bool :=
  (List.range 6).all (fun k => decide ((rows.filter (fun r => r.getD 0 0 == ((4 + k : Nat) : Int))).length ≤ 1)) &&
  distinctNats ((rows.filter (fun r => r.getD 0 0 == 10)).map (fun r => (r.getD 1 0).toNat))

/-- Enabled rows of a ports field. -/
def portsOn (rows : List (List Int)) : List (List Int) := rows.filter (fun r => r.getD 0 0 == 1)

/-- Do frequency ranges not overlap, each rising (10, RADIO_SUBBANDS)? -/
def bandsCross (rows : List (List Int)) : Bool :=
  rows.all (fun r => decide (r.getD 0 0 < r.getD 1 0)) &&
  rows.zipIdx.all (fun a => rows.zipIdx.all (fun b => a.2 == b.2 || decide (a.1.getD 1 0 ≤ b.1.getD 0 0 ∨ b.1.getD 1 0 ≤ a.1.getD 0 0)))

/-- The rules of radio ports and profiles (10 R227, R231). -/
def radioCross (v : CadValues) : Bool :=
  let profs := valRows v 0x0511
  profs.all scriptsOk && rowsDistinct profs &&
  (portsOn (valRows v 0x0510)).all (fun p => match profs.find? (fun r => r.getD 0 (-1) == p.getD 3 0) with
    | none => false
    | some r =>
      let ch := r.getD 6 0
      let bands := valRows v 0x0512
      let span := channelOf r (p.getD 5 0).toNat
      let inside := bands.filter (fun b => (subBand [b] span).isSome)
      decide (p.getD 4 0 < ch ∧ p.getD 5 0 < ch ∧ inside.length = 1) &&
      (p.getD 1 0 == 1 || (decide (1 ≤ p.getD 2 0 ∧ p.getD 2 0 ≤ 4) &&
        (if p.getD 2 0 % 2 = 0 then r.getD 9 0 == 2 && r.getD 10 0 == 1 else r.getD 9 0 == 1 && r.getD 10 0 == 1))))

/-- The node and loss class rules (07 R160, R161, Table 7.1). -/
def steelCross (v : CadValues) : Bool :=
  let t := topoOf 0 (valRows v 0x0301) (valRows v 0x0302)
  topoRules t.nodes && t.nodes.all (fun e => t.losses.any (fun r => r.getD 0 (-1) == (e.2.loss : Int))) &&
  rowsAscending (valRows v 0x0302) && (valRows v 0x0302).all (fun r => decide (r.getD 1 0 ≤ r.getD 2 0)) &&
  (valRows v 0x0311).all (fun r => (r.drop 1).all (fun n => n == 0xFFFFFFFF || (match tabFind t.nodes n.toNat with
    | some x => x.kind == 1
    | none => false)))

/-- Sub-field `i` of the first row of a field among values. -/
def valInt (v : CadValues) (tag i : Nat) : Int := ((valRows v tag).getD 0 []).getD i 0

/-- Do values keep every cross-field rule? -/
def crossOk (v : CadValues) : Bool :=
  pinsCross (valRows v 0x0020) &&
  (valRows v 0x0201).all (fun r => profileRules r && targetsOk (profileOf r)) && rowsAscending (valRows v 0x0201) &&
  (valRows v 0x0210).all (fun r => calFault (r.map Int.toNat) == 0) && rowsAscending (valRows v 0x0210) &&
  steelCross v &&
  decide (valInt v 0x0304 0 ≤ 60 * valInt v 0x0303 0) &&
  decide (valInt v 0x0310 2 ≤ valInt v 0x0310 1 ∧ valInt v 0x0310 5 ≤ valInt v 0x0310 7) &&
  (valRows v 0x0403).all (fun r => r.all (fun n => (valRows v 0x0402).isEmpty || decide (n < (valRows v 0x0402).length))) &&
  decide (valInt v 0x0406 1 + 10 ≤ valInt v 0x0406 0) &&
  distinctNats ((portsOn (valRows v 0x0501)).map (fun r => (r.getD 4 0).toNat)) &&
  bandsCross (valRows v 0x0512) && radioCross v &&
  rowsAscending (valRows v 0x0602) && rowsDistinct (valRows v 0x0702) && rowsDistinct (valRows v 0x0704) &&
  (valInt v 0x0810 0 == 0 || (valInt v 0x0810 5 != 0 && valInt v 0x0810 6 != 0 && valInt v 0x0810 5 != valInt v 0x0810 6)) &&
  (valInt v 0x0911 0 == 0 || ((valInt v 0x0911 0).toNat &&& (valInt v 0x0910 2).toNat == 0 && valInt v 0x0911 1 != valInt v 0x0910 1)) &&
  rowsAscending (valRows v 0x0914) &&
  (valRows v 0x0931).zipIdx.all (fun e => e.2 % 3 != 2 || decide (e.1.getD 0 0 * e.1.getD 1 0 ≤ 8))

/-! ### Images (02 R42 to R47) -/

/-- Is this the length of a signature of an HSS key: its L and top height, and for L = 2 any bottom height (14 R332)? -/
def sigLengthOk (k n : Nat) : Bool :=
  let h := 5 * (k / 256 ^ 52 % 256 ^ 4) - 20
  if k / 256 ^ 56 = 1 then n == 4 + 2188 + 32 * h
  else [15, 20, 25].any (fun b => n == 4 + 2188 + 32 * h + 2188 + 32 * b + 56)

/-- SIGNER_HASH of a key: the first 16 bytes of SHA-256 of its 60 bytes (02 Table 2.8). -/
def signerHash (k : Nat) : Nat := hashOf (beBytes 60 k) / 2 ^ 128

/-- Do the rules of DEPLOY and MAINTENANCE bind (02 R44, R47)? -/
def cadStrict (s : State) : Bool := s.keys.state == 3

/-- INTEGRATOR_KEY of a TLV area. -/
def ownKey (rs : List CadRecord) : Option Nat := ((tagRows rs 0x0801).head?.bind (·.head?)).map Int.toNat

/-- May the image's signature, or its absence, stand (02 R44)? -/
def cadSigOk (img : CadImage) (s : State) : Bool :=
  if imgSigned img = 0 then !cadStrict s
  else
    let keys := s.cad.integratorKey.toList ++ (if cadStrict s then [] else (ownKey (recordsOf (imgArea img))).toList)
    match keys.find? (fun k => signerHash k == imgSigner img) with
    | some k => img.sigOk && hssKeyOk k && sigLengthOk k (imgSigLength img)
    | none => false

/-- The highest accepted SERIAL (02 R47). -/
def highestSerial (s : State) : Nat := max s.cad.highA s.cad.highB

/-- The checks of R45 over a TLV area and the values it is judged with. -/
def areaCheck (area : List U8) (base : CadValues) : Except U16 CadValues := match tlvWalk area with
  | .error c => .error c
  | .ok v =>
    let r := rangesCode v
    if r ≠ OC_OK then .error r
    else if !crossOk (v.foldl (fun b e => tabPut b e.1 (if e.1 = 0x0301 then valRows b 0x0301 ++ e.2 else e.2)) base) then .error OC_CDST_CONFLICT
    else .ok v

/-- Do node records after those of `base` delete a node that an enrolled parcel names, or that is the parent of a node that stays (07 R161)? -/
def nodeDeletion (base rows : List (List Int)) (s : State) : Bool :=
  let after := applyNodes (base ++ rows) []
  (rows.filter (fun r => r.getD 6 0 == 1)).any (fun r =>
    let n := (r.getD 0 0).toNat
    (tabFind after n).isNone &&
      (s.store.parcels.any (fun e => inUse e.2 && e.2.balanceNode == n) || after.any (fun e => e.2.parent == n)))

/-- The checks of a TLV area, a deletion of a node in use refused before the cross-field rules (02 R45, 07 R161). -/
def nodeAreaCheck (area : List U8) (base : CadValues) (s : State) : Except U16 CadValues :=
  let node := match tlvWalk area with
    | .ok v => rangesCode v == OC_OK && nodeDeletion (valRows base 0x0301) (tagRows (recordsOf area) 0x0301) s
    | .error _ => false
  if node then .error OC_NODE_IN_USE else areaCheck area base

/-- The checks of a cadastre image in order: its values, or the first code (02 R45). An image cut short of TOTAL_LENGTH is not consistent with it. -/
def cadCheck (img : CadImage) (s : State) : Except U16 CadValues :=
  if leAt img.bytes 0 4 ≠ 0x54534443 ∨ leAt img.bytes 6 2 ≠ 64 then .error OC_CDST_FORMAT
  else if 1 < imgSigned img ∨ imgSerial img = 0 then .error OC_CDST_FORMAT
  else if 4194304 < imgTotal img ∨ img.bytes.length < imgTotal img ∨ imgTlv img % 4 ≠ 0 ∨
      imgTotal img ≠ 64 + imgTlv img + (if imgSigned img = 1 then 4 + imgSigLength img else 0) then .error OC_CDST_FORMAT
  else if leAt img.bytes 56 4 ≠ 0x8000 then .error OC_CDST_CLASS
  else if leAt img.bytes 5 1 ≠ 1 then .error OC_VERSION
  else if leAt img.bytes 12 4 ≠ (imgCrc img).toNat then .error OC_CDST_CRC
  else if !imgReservedOk img then .error OC_RESERVED_SET
  else if !cadSigOk img s then .error OC_SIG
  else if cadStrict s ∧ imgSerial img < highestSerial s then .error OC_CDST_ROLLBACK
  else nodeAreaCheck (imgArea img) [] s

/-- The outcome of a check. -/
def checkCode {α : Type} : Except U16 α → U16
  | .error c => c
  | .ok _ => OC_OK

/-- SHA-256 of an image (14 Table 14.12). -/
def imageDigest (img : CadImage) : Nat := hashOf (img.bytes.take (imgTotal img))

end Sys2Proof.Machine
end

