-- ==== Sys2Proof/Machine/Cbor.lean ====
section
/-! DEFINITION. CBOR as the device reads it (12 R274, RFC 8949): map keys are unsigned integers, and indefinite lengths, tags, floating point and
duplicate keys are not permitted. -/

namespace Sys2Proof.Machine

/-- An item. A map holds its keys, each with the bytes of its value as received and the value. -/
inductive Cbor
  | uint (n : Nat)
  /-- the negative integer -1 - n -/
  | nint (n : Nat)
  | bytes (l : List U8)
  | text (l : List U8)
  | array (l : List Cbor)
  | map (l : List (Nat × List U8 × Cbor))
  | bool (b : Bool)
  /-- null and undefined -/
  | simple
deriving Inhabited

/-- The entries of a map. -/
abbrev CborMap := List (Nat × List U8 × Cbor)

/-- Major type and argument of an item's head, and the bytes after it; none for indefinite lengths and reserved forms. -/
def cborArg : List U8 → Option (Nat × Nat × List U8)
  | [] => none
  | h :: t =>
    let a := h.toNat % 32
    if a < 24 then some (h.toNat / 32, a, t)
    else if 27 < a then none
    else
      let n := 2 ^ (a - 24)
      if t.length < n then none else some (h.toNat / 32, beNat (t.take n), t.drop n)

/-- `n` things read one after another. -/
def readMany {α : Type} (read : List U8 → Option (α × List U8)) : Nat → List U8 → Option (List α × List U8)
  | 0, b => some ([], b)
  | n + 1, b => (read b).bind (fun x => (readMany read n x.2).map (fun y => (x.1 :: y.1, y.2)))

/-- A key that is an unsigned integer, and its value. -/
def readPair (read : List U8 → Option (Cbor × List U8)) (b : List U8) : Option ((Nat × List U8 × Cbor) × List U8) := match cborArg b with
  | some (0, k, r) => (read r).map (fun x => ((k, r.take (r.length - x.2.length), x.1), x.2))
  | _ => none

/-- The item at the front of bytes, and the bytes after it; `fuel` bounds its depth. -/
def cborItem : Nat → List U8 → Option (Cbor × List U8)
  | 0, _ => none
  | f + 1, b => match cborArg b with
    | some (0, n, r) => some (.uint n, r)
    | some (1, n, r) => some (.nint n, r)
    | some (2, n, r) => if r.length < n then none else some (.bytes (r.take n), r.drop n)
    | some (3, n, r) => if r.length < n then none else some (.text (r.take n), r.drop n)
    | some (4, n, r) => (readMany (cborItem f) n r).map (fun x => (.array x.1, x.2))
    | some (5, n, r) => match readMany (readPair (cborItem f)) n r with
      | some (l, r) => if distinctNats (l.map (·.1)) then some (.map l, r) else none
      | none => none
    | some (7, n, r) => match b.head?.map (·.toNat) with
      | some 0xF4 => some (.bool false, r)
      | some 0xF5 => some (.bool true, r)
      | _ => if n = 22 ∨ n = 23 then some (.simple, r) else none
    | _ => none

/-- The one item that bytes hold. -/
def cborOf (b : List U8) : Option Cbor := match cborItem (b.length + 1) b with
  | some (x, []) => some x
  | _ => none

/-- The one map that bytes hold. -/
def cborMapOf (b : List U8) : Option CborMap := match cborOf b with
  | some (.map m) => some m
  | _ => none

/-! ### Values -/

/-- The value of a key. -/
def keyValue (m : CborMap) (k : Nat) : Option Cbor := (m.find? (fun e => e.1 == k)).map (·.2.2)

/-- The bytes of a key's value as received. -/
def keyBytes (m : CborMap) (k : Nat) : Option (List U8) := (m.find? (fun e => e.1 == k)).map (·.2.1)

/-- Are the keys from 0 to 99 among those defined (12 R274)? -/
def keysKnown (known : List Nat) (m : CborMap) : Bool := m.all (fun e => decide (100 ≤ e.1) || known.contains e.1)

/-- A value read by `f`; one that is absent stays so, and one of another type makes the whole malformed. -/
def optional {α : Type} (f : Cbor → Option α) (v : Option Cbor) : Option (Option α) := match v with
  | none => some none
  | some c => (f c).map some

/-- A uint. -/
def Cbor.nat? : Cbor → Option Nat
  | .uint n => some n
  | _ => none

/-- An int. -/
def Cbor.int? : Cbor → Option Int
  | .uint n => some (n : Int)
  | .nint n => some (-1 - (n : Int))
  | _ => none

/-- A byte string. -/
def Cbor.bytes? : Cbor → Option (List U8)
  | .bytes l => some l
  | _ => none

/-- A bool. -/
def Cbor.bool? : Cbor → Option Bool
  | .bool b => some b
  | _ => none

/-- An array. -/
def Cbor.array? : Cbor → Option (List Cbor)
  | .array l => some l
  | _ => none

/-- A map. -/
def Cbor.map? : Cbor → Option CborMap
  | .map m => some m
  | _ => none

/-- Every element read by `f`. -/
def allSome {α : Type} (f : Cbor → Option α) : List Cbor → Option (List α)
  | [] => some []
  | c :: l => (f c).bind (fun x => (allSome f l).map (fun y => x :: y))

/-- An array of uints. -/
def Cbor.nats? (c : Cbor) : Option (List Nat) := c.array?.bind (allSome Cbor.nat?)

/-- The uint of a key. -/
def natKey (m : CborMap) (k : Nat) : Option Nat := (keyValue m k).bind Cbor.nat?

/-- The int of a key. -/
def intKey (m : CborMap) (k : Nat) : Option Int := (keyValue m k).bind Cbor.int?

/-- The byte string of a key. -/
def bytesKey (m : CborMap) (k : Nat) : Option (List U8) := (keyValue m k).bind Cbor.bytes?

end Sys2Proof.Machine
end

