-- ==== Sys2Proof/Machine/HxLayout.lean ====
section
/-! DEFINITION. Head-end Exchange as bytes: messages, order envelopes, and the bodies of orders (12 R274, R284, Tables 12.1, 12.6 to 12.8, 13
Table 13.6, 14 Table 14.7). -/

namespace Sys2Proof.Machine

/-! ### Messages (12 R274) -/

/-- A message of the device: its length and one map, key 0 TYPE. -/
def hxMessage (type : Nat) (fields : List (Nat × List U8)) : List U8 :=
  let b := cborKeyed ((0, cborInt type) :: fields)
  beBytes 4 b.length ++ b

/-- The keys of a message that a head end may send (12 Table 12.1). -/
def hxKeys (type : Nat) : Option (List Nat) := match type with
  | 1 => some [0, 1, 2]
  | 3 | 6 | 7 | 12 | 13 | 14 => some [0, 1]
  | _ => none

/-- Are the values of a message of the types of Table 12.1? FROM alone may be absent. -/
def hxTyped (type : Nat) (m : CborMap) : Bool := match type with
  | 1 => ((keyValue m 1).bind Cbor.nats?).isSome && (natKey m 2).isSome
  | 3 => (optional Cbor.int? (keyValue m 1)).isSome
  | 6 => (intKey m 1).isSome
  | 7 => ((keyValue m 1).bind Cbor.array?).isSome
  | _ => (natKey m 1).isSome

/-- TYPE and map of a message, or the code that its receiver closes the session with. -/
def hxRead (b : List U8) : Except U16 (Nat × CborMap) :=
  let n := beAt b 0 4
  if b.length < 4 ∨ b.length ≠ 4 + n ∨ 4194304 < n then .error OC_HX_FORMAT
  else match cborMapOf (b.drop 4) with
    | none => .error OC_HX_FORMAT
    | some m => match (natKey m 0).bind (fun t => (hxKeys t).map (fun ks => (t, ks))) with
      | none => .error OC_HX_FORMAT
      | some (t, ks) =>
        if !keysKnown ks m then .error OC_UNKNOWN_TAG
        else if !hxTyped t m then .error OC_HX_FORMAT
        else .ok (t, m)

/-! ### Envelopes (12 R284, R285) -/

/-- What an order's TARGET names (12 R284). -/
inductive OrderTarget
  | unit (u : Nat)
  | group (g : Nat)
deriving DecidableEq, Repr, Inhabited

/-- An order envelope as read (12 R284): `sigKey` is the head end's key under which its signature verifies, and `malformed` and `badKey` are the first
two refusals of R285. -/
structure Envelope where
  sid : Nat := 1
  kind : Nat := 0
  orderId : Nat := 0
  headend : Nat := 0
  target : OrderTarget := .group 0
  issued : Nat := 0
  notAfter : Nat := 0
  sigKey : Nat := 0
  digest : Nat := 0
  malformed : Bool := false
  badKey : Bool := false
  /-- BODY as received -/
  body : List U8 := []
  /-- the envelope as received -/
  raw : List U8 := []
deriving DecidableEq, Repr, Inhabited

/-- TARGET: a bstr of 16 bytes, or a uint. -/
def targetRead : Cbor → Option OrderTarget
  | .bytes l => if l.length = 16 then some (.unit (beNat l)) else none
  | .uint n => some (.group n)
  | _ => none

/-- The keys of a kind's body (12 Table 12.6); the body of an AMEND is a byte string. -/
def bodyKeys (kind : Nat) : List Nat := match kind with
  | 2 => [1, 2, 3]
  | 3 => (List.range 18).map (· + 1)
  | 4 => [1, 2, 3, 4, 5, 6]
  | 5 => [1, 2, 3, 4, 5, 6, 7, 8, 9]
  | 6 => [1, 2]
  | 7 => [1, 2, 3, 4, 5, 6, 7, 8, 9, 10]
  | 8 => [1, 2]
  | 9 => [1, 2, 3, 4]
  | 10 => [1]
  | 11 => [1, 2, 3, 4]
  | _ => []

/-- Are all keys of a body defined for its kind, those of a REGION too? -/
def bodyKnown (kind : Nat) (body : Cbor) : Bool := match body with
  | .map m => keysKnown (bodyKeys kind) m && (kind != 3 || (match keyValue m 3 with
      | some (.map r) => keysKnown [1, 2, 3] r
      | _ => true))
  | _ => true

/-- Kinds of orders (12 Table 12.6). -/
def orderKind (k : Nat) : Bool := decide (1 ≤ k ∧ k ≤ 11)

/-- An envelope's bytes read. -/
def envelopeOf (o : HxOrder) : Envelope := match cborOf o.envelope with
  | some (.array [.bytes signed, .bytes sig]) => match cborMapOf signed with
    | none => { sid := o.sid, malformed := true }
    | some m => match natKey m 1, natKey m 2, natKey m 3, (keyValue m 4).bind targetRead, natKey m 5, natKey m 6, keyValue m 7 with
      | some k, some n, some h, some t, some i, some a, some b =>
        { sid := o.sid, kind := k, orderId := n, headend := h, target := t, issued := i, notAfter := a,
          sigKey := if sigLengthOk o.sigKey sig.length then o.sigKey else 0, digest := hashOf signed, malformed := n == 0,
          badKey := !keysKnown [1, 2, 3, 4, 5, 6, 7] m || (orderKind k && !bodyKnown k b), body := (keyBytes m 7).getD [], raw := o.envelope }
      | _, _, _, _, _, _, _ => { sid := o.sid, orderId := (natKey m 2).getD 0, malformed := true }
  | _ => { sid := o.sid, malformed := true }

/-! ### Bodies. `none` is a malformed body, `some none` one for another row. -/

/-- AMEND: a byte string. -/
def readAmend (b : List U8) : Option (Option Amendment) := match cborOf b with
  | some (.bytes l) => some (some { bytes := l })
  | _ => none

/-- CALENDAR: the calendar, ACTIVATE_AT, and the image, if one is carried. -/
def readCalendar (b : List U8) : Option (Option (Nat × Nat × Option (List Nat))) := (cborMapOf b).bind (fun m => do
  let c ← natKey m 1
  let a ← optional Cbor.nat? (keyValue m 2)
  let img ← optional Cbor.bytes? (keyValue m 3)
  if img.isSome && a.isNone then none
  else pure (some (c, a.getD 0, img.map byteVals)))

/-- CODE of an event record: its bytes. -/
def codeRead (c : Cbor) : Option (List Nat) := c.bytes?.map byteVals

/-- REGION: CELLS, PLC and RADIO. -/
def regionRead (c : Cbor) : Option (List Nat × List Nat × List Nat) := c.map?.bind (fun m => do
  let l ← optional Cbor.nats? (keyValue m 1)
  let p ← optional Cbor.nats? (keyValue m 2)
  let r ← optional Cbor.nats? (keyValue m 3)
  pure (l.getD [], p.getD [], r.getD []))

/-- DONE: CODE_KIND, CODE, VALUE. -/
def doneRead : Cbor → Option (Nat × List Nat × Int)
  | .array [k, c, v] => do pure (← k.nat?, ← codeRead c, ← v.int?)
  | _ => none

/-- FAIL: CODE_KIND, CODE. -/
def failRead : Cbor → Option (Nat × List Nat)
  | .array [k, c] => do pure (← k.nat?, ← codeRead c)
  | _ => none

/-- OPAQUE: FORMAT, PREFIX. -/
def opaqueRead : Cbor → Option (Nat × List U8)
  | .array [f, p] => do pure (← f.nat?, ← p.bytes?)
  | _ => none

/-- CAMPAIGN with an ACTION other than 1 (12 Table 12.8). -/
def readCampaignStart (b : List U8) : Option (Option CampaignBody) := (cborMapOf b).bind (fun m => do
  let action ← natKey m 1
  if action = 1 then pure none
  else
    let region ← optional regionRead (keyValue m 3)
    let group ← optional Cbor.nats? (keyValue m 4)
    let id ← optional Cbor.bytes? (keyValue m 7)
    let done ← (keyValue m 12).bind doneRead
    let fail ← (keyValue m 13).bind failRead
    let supersede ← optional Cbor.bool? (keyValue m 14)
    let profiles ← optional Cbor.nats? (keyValue m 15)
    let opq ← optional opaqueRead (keyValue m 16)
    let parallel ← optional Cbor.nat? (keyValue m 17)
    let retries ← optional Cbor.nat? (keyValue m 18)
    pure (some { action := action, campaign := ← natKey m 2, region := region, group := group.map (fun l => l.map (BitVec.ofNat 64)),
                 method := ← natKey m 5, image := ← bytesKey m 6, imageId := id.getD [], blockSize := ← natKey m 8, start := ← natKey m 9,
                 deadline := ← natKey m 10, activateAt := ← natKey m 11, doneKind := done.1, doneCode := done.2.1, doneValue := done.2.2,
                 failKind := fail.1, failCode := fail.2, supersede := supersede.getD false, profiles := profiles,
                 format := (opq.map (·.1)).getD 0, lead := (opq.map (·.2)).getD [], maxParallel := parallel.getD 256,
                 retries := retries.getD 5 }))

/-- CAMPAIGN with ACTION 1: the campaign. -/
def readCampaignCancel (b : List U8) : Option (Option Nat) := (cborMapOf b).bind (fun m => do
  let action ← natKey m 1
  let n ← natKey m 2
  pure (if action = 1 then some n else none))

/-- A key of an ENROL: ROLE, KEY_VERSION, WRAPPED. -/
def enrolKeyRead : Cbor → Option WrappedKey
  | .array [r, v, w] => do pure { role := ← r.nat?, version := ← v.nat?, octets := ← w.bytes? }
  | _ => none

/-- ENROL (12 Table 12.7). ENROL_DIGEST is the first 16 bytes of SHA-256 over BODY as received (03 Table 3.2). -/
def readEnrol (b : List U8) : Option (Option EnrolOrder) := (cborMapOf b).bind (fun m => do
  let node ← optional Cbor.nat? (keyValue m 6)
  let keys ← ((keyValue m 8).bind Cbor.array?).bind (allSome enrolKeyRead)
  let energy ← optional Cbor.nats? (keyValue m 9)
  pure (some { identity := BitVec.ofNat 64 (← natKey m 1), protocol := ← natKey m 2, medium := ← natKey m 3, calendar := ← natKey m 4,
               veeProfile := ← natKey m 5, balanceNode := node, flags := ← natKey m 7, keys := keys, energy := energy,
               digest := hashOf b / 2 ^ 128 }))

/-- RETIRE: IDENTITY and GENERATION. -/
def readRetire (b : List U8) : Option (Option (U64 × Nat)) := (cborMapOf b).bind (fun m => do
  pure (some (BitVec.ofNat 64 (← natKey m 1), ← natKey m 2)))

/-- The body of a LOAD or ERASE; `key` is 8 WRAPPED, or 11 CLEAR of a mailbox (14 Table 14.7). -/
def keyloadRead (key : Nat) (m : CborMap) : Option KeyloadBody := do
  let role ← optional Cbor.nat? (keyValue m 3)
  let index ← optional Cbor.nat? (keyValue m 4)
  let id ← optional Cbor.nat? (keyValue m 5)
  let gen ← optional Cbor.nat? (keyValue m 6)
  let version ← optional Cbor.nat? (keyValue m 7)
  let octets ← optional Cbor.bytes? (keyValue m key)
  pure { scope := ← natKey m 2, role := role.getD 0, index := index.getD 0, identity := BitVec.ofNat 64 (id.getD 0), generation := gen.getD 0,
         version := version.getD 0, octets := octets }

/-- KEYLOAD with ACTION 0, or one that is none of the five. -/
def readKeyLoad (b : List U8) : Option (Option (Nat × KeyloadBody)) := (cborMapOf b).bind (fun m => do
  let action ← natKey m 1
  if 1 ≤ action ∧ action ≤ 4 then pure none else if 4 < action then pure (some (action, {})) else pure (some (action, ← keyloadRead 8 m)))

/-- KEYLOAD with ACTION 1. -/
def readKeyErase (b : List U8) : Option (Option KeyloadBody) := (cborMapOf b).bind (fun m => do
  let action ← natKey m 1
  if action = 1 then pure (some (← keyloadRead 8 m)) else pure none)

/-- KEYLOAD with an ACTION that needs no more: 2 ENTER_MAINTENANCE, 3 LEAVE_MAINTENANCE. -/
def readKeyPlain (action : Nat) (b : List U8) : Option (Option Unit) := (cborMapOf b).bind (fun m => do
  pure (if (← natKey m 1) = action then some () else none))

/-- A key carried into the incoming state: ROLE, INDEX, KEY_VERSION, WRAPPED or CLEAR. -/
def carryRead : Cbor → Option WrappedKey
  | .array [r, i, v, w] => do pure { role := ← r.nat?, index := ← i.nat?, version := ← v.nat?, octets := ← w.bytes? }
  | _ => none

/-- NEW_STATE and CARRY of a CHANGE_STATE. -/
def changeRead (m : CborMap) : Option (Nat × List WrappedKey) := do
  let carry ← optional Cbor.array? (keyValue m 10)
  pure (← natKey m 9, ← allSome carryRead (carry.getD []))

/-- KEYLOAD with ACTION 4. -/
def readChange (b : List U8) : Option (Option (Nat × List WrappedKey)) := (cborMapOf b).bind (fun m => do
  let action ← natKey m 1
  if action = 4 then pure (some (← changeRead m)) else pure none)

/-- EXTRACT: EPOCH and LEAVES. -/
def readExtract (b : List U8) : Option (Option (Int × List Nat)) := (cborMapOf b).bind (fun m => do
  pure (some (← intKey m 1, ← (keyValue m 2).bind Cbor.nats?)))

/-- TOPOLOGY_ACCEPT: PARCEL_INDEX, GENERATION, PASS_INSTANT, NODE. -/
def readTopology (b : List U8) : Option (Option (Nat × Nat × Nat × Nat)) := (cborMapOf b).bind (fun m => do
  pure (some (← natKey m 1, ← natKey m 2, ← natKey m 3, ← natKey m 4)))

/-- TWIN_CMD with an ACTION; STATUS stands for every action that is not defined too. -/
def readTwinCmd (action : Nat) (b : List U8) : Option (Option Nat) := (cborMapOf b).bind (fun m => do
  let a ← natKey m 1
  pure (if a = action ∨ (action = 3 ∧ 3 < a) then some a else none))

/-- SNAPSHOT: AT, SCOPE, CALENDAR, IDENTITIES. -/
def readSnapshot (b : List U8) : Option (Option (Nat × Nat × Nat × List U64)) := (cborMapOf b).bind (fun m => do
  let c ← optional Cbor.nat? (keyValue m 3)
  let l ← optional Cbor.nats? (keyValue m 4)
  pure (some (← natKey m 1, ← natKey m 2, c.getD 0, (l.getD []).map (BitVec.ofNat 64))))

/-- MANIFEST with an ACTION: UPDATE_ID, BYTES, OFFSET, ACTIVATE_AT, DISCARD (13 Table 13.6). STATUS stands for every action that is not defined too. -/
def readManifest (action : Nat) (b : List U8) : Option (Option (Nat × Nat × List U8 × Nat × Nat × Bool)) := (cborMapOf b).bind (fun m => do
  let a ← natKey m 1
  let id ← optional Cbor.nat? (keyValue m 2)
  let l ← optional Cbor.bytes? (keyValue m 3)
  let off ← optional Cbor.nat? (keyValue m 4)
  let at_ ← optional Cbor.nat? (keyValue m 5)
  let d ← optional Cbor.bool? (keyValue m 6)
  let need (k : Bool) (x : Bool) : Bool := !k || x
  if !(a = action ∨ (action = 4 ∧ 4 < a)) then pure none
  else if !(need (a ≤ 3) id.isSome && need (a ≤ 1) l.isSome && need (a == 1) off.isSome && need (a == 2) at_.isSome) then none
  else pure (some (a, id.getD 0, l.getD [], off.getD 0, at_.getD 0, d.getD false)))

end Sys2Proof.Machine
end

