-- ==== Sys2Proof/Machine/Leaves.lean ====
section
/-! DEFINITION. LMS leaves: reserving the next block and taking a leaf (14 R333 to R335). -/

namespace Sys2Proof.Machine

/-- Every page waiting for the reserve is written (04 R99). -/
def flushPages (s : State) : State := forEach s.jrn.pages (fun _ t => pageToReserve t) s

/-- Steps 2 and 3 of R334: the control record, then both QSPI warden records. `fail` has bits 1, 2 for the QSPI writes. -/
def lmsComplete (fail start e : Nat) (s : State) : State :=
  let a := fail.testBit 1
  let c := fail.testBit 2
  let u := unitOf s
  if a && c then record 9 OC_LMS_RESERVE [] (modKeys (fun k => { k with reserveFailed := true }) s)
  else
    let s := modKeys (fun k => { k with q := start, reservedEnd := e, reserveFailed := false, controlEnd := some (u, e),
                                        wardenA := if a then k.wardenA else some (u, e), wardenB := if c then k.wardenB else some (u, e) }) s
    let s := controlWrite s
    if a || c then record 9 OC_LMS_COPY [] s else s

/-- Reserve the next block of 4,096 leaves (14 R334, R335): the LMS_RESERVE entry and its page in the ring, then steps 2 and 3.
`fail` has bit 0 for step 1 or 2 and bits 1, 2 for the QSPI writes. A standby asks the active for its entry and completes the steps
once the page has come (15 R346). -/
def lmsReserve (fail : Nat) (s : State) : State :=
  let start := 4096 * ((s.keys.q + 4095) / 4096)
  let e := start + 4096
  let r := start / 2 ^ 28
  if 2 ^ 40 < e then s
  else
    let s := if s.keys.rangeFuses ≤ r then modKeys (fun k => { k with rangeFuses := r + 1 }) s else s
    if fail.testBit 0 then record 9 OC_LMS_RESERVE [] (modKeys (fun k => { k with reserveFailed := true }) s)
    else if makesEntries s then
      let s := if commitRoom 128 s then s else flushPages s
      if !commitRoom 128 s then record 9 OC_LMS_RESERVE [] (modKeys (fun k => { k with reserveFailed := true }) s) else
      let s := flushPages (closePage (commitMade none 0 (.lmsReserve [unitOf s, start, e, lifecycleCode s]) s))
      if s.jrn.durable < s.jrn.lastJsn then record 9 OC_LMS_RESERVE [] (modKeys (fun k => { k with reserveFailed := true }) s)
      else lmsComplete fail start e s
    else blSend 0x50 0 (bodyBytes { body := .lmsReserve [unitOf s, start, e, lifecycleCode s] }) { s with twin := { s.twin with reserveAsked := some start } }

/-- Take the next leaf; where the block is used up the next one is reserved first (14 R333, R334). None while no leaf may be used. -/
def takeLeaf (s : State) : Option (Nat × State) :=
  let s := if s.keys.q < s.keys.reservedEnd ∨ s.keys.reserveFailed ∨ s.twin.reserveAsked.isSome then s else lmsReserve 0 s
  if s.keys.q < s.keys.reservedEnd ∧ s.keys.q < 2 ^ 40 then
    let q := s.keys.q
    some (q, modKeys (fun k => { k with q := q + 1 }) s)
  else none

end Sys2Proof.Machine
end

