-- ==== Sys2Proof/Machine/Hx.lean ====
section
/-! DEFINITION. Head-end Exchange: sessions, reports, sheets, their delivery and acknowledgement (12 R270 to R283). -/

namespace Sys2Proof.Machine

/-- Change the exchange's state. -/
def modHx (f : HxSt → HxSt) (s : State) : State := { s with hx := f s.hx }

/-- A session by its number. -/
def sessionOf (s : State) (sid : Nat) : Option HxSession := s.hx.sessions.find? (fun x => x.sid == sid)

/-- Change a session. -/
def modSess (sid : Nat) (f : HxSession → HxSession) (s : State) : State :=
  modHx (fun h => { h with sessions := h.sessions.map (fun x => if x.sid = sid then f x else x) }) s

/-- The enabled record of a head end (12 Table 12.13): HEADEND_ID, ORDER_MASK, FLAGS, reserved, CALL_PORT, CALL_ADDR, public key, PSK. -/
def headendRow (s : State) (h : Nat) : Option (List Int) :=
  (cadRows s 0x0702).find? (fun r => r.getD 0 (-1) == (h : Int) && (r.getD 2 0).toNat.testBit 0)

/-- HX_WINDOW, HX_IDLE_S, REPORT_S and ORDER_MAX_LIFE_S: sub-fields 0, 2, 3 and 5 of HX_FLOW. -/
def hxFlow (s : State) (i : Nat) : Nat := cadNum s 0x0703 i

/-- Is some session open (19 Table 19.1)? -/
def hxOpenAny (s : State) : Bool := s.hx.sessions.any (fun x => x.version != 0)

/-- A message as an output (12 R274, Table 12.1). -/
def hxOut (sid : Nat) (name : String) (type : Nat) (fields : List (Nat × List U8)) : Output := .send (.hx sid) name (byteNums (hxMessage type fields))

/-- A message on a session. -/
def hxSend (sid : Nat) (name : String) (type : Nat) (fields : List (Nat × List U8)) (s : State) : State :=
  emit (hxOut sid name type fields) (modSess sid (fun x => { x with lastTx := s.mono }) s)

/-- End a session (12 R274). -/
def sessionEnd (sid : Nat) (s : State) : State := modHx (fun h => { h with sessions := h.sessions.filter (fun x => x.sid != sid) }) s

/-- Send CLOSE and end the session (12 R274). -/
def sessionClose (sid : Nat) (code : U16) (s : State) : State := sessionEnd sid (hxSend sid "CLOSE" 14 [(1, cborInt code.toNat)] s)

/-- Something was received on a session (12 R273). -/
def heardOn (sid : Nat) (s : State) : State := modSess sid (fun x => { x with lastRx := s.mono }) s

/-- ROLE of OPEN_ACK and REPORT: 0 single, 1 active, 2 standby (12 Table 12.1). -/
def roleCode (s : State) : Nat := min 2 s.twin.role

/-- Is the unit a twin standby (15 R345)? -/
def standby (s : State) : Bool := decide (2 ≤ s.twin.role)

/-- A message other than OPEN on an open session; before OPEN it closes the session with OC_HX_FORMAT (12 R272). -/
def onSession (sid : Nat) (f : HxSession → State → State) (s : State) : State := match sessionOf s sid with
  | none => s
  | some x => if x.version = 0 then sessionClose sid OC_HX_FORMAT s else f x (heardOn sid s)

/-! ### Reports (12 Table 12.1) -/

/-- FIRMWARE: a map of the running slot's parts to their versions. -/
def firmwareMap (s : State) : List U8 :=
  cborKeyed (((tabGet s.upd.slots s.upd.running {}).parts.foldl (fun (t : Tab Nat) p => tabPut t p.kind p.version) []).map (fun p => (p.1, cborInt p.2)))

/-- The notes of a REPORT: those that wait, and OC_LMS_EXHAUSTED in every one while fewer than 4,096 leaves remain (14 R333). -/
def reportNotes (s : State) : List (U16 × List Int) :=
  s.notes ++ (if 2 ^ 40 < s.keys.q + 4096 then [(OC_LMS_EXHAUSTED, [])] else [])

/-- A note: its code and a map; that of a quote holds the quote with its signature as a bstr, its numbers being these bytes (12 R274, 14 R336). -/
def noteItem (n : U16 × List Int) : List U8 :=
  cborArray [cborInt n.1.toNat, if n.1 = OC_ATTEST_QUOTE then cborMap [cborBytes (n.2.map (BitVec.ofInt 8))] else cborMap (n.2.map cborInt)]

/-- A REPORT on one session. -/
def reportOn (sid : Nat) (s : State) : State :=
  let s' := hxSend sid "REPORT" 10 ([(devTime s : Int), stateCode s.glob.state, s.glob.tq, roleCode s, lifecycleCode s, s.cad.serial,
      s.cad.lastSeq].zipIdx.map (fun e => (e.2 + 1, cborInt e.1)) ++
    [(8, firmwareMap s), (9, cborArray ((reportNotes s).map noteItem))]) s
  modSess sid (fun x => { x with lastReport := s.mono }) s'

/-- REPORT on every open session; notes that a head end has then received go (12 R274). -/
def reportAll (s : State) : State :=
  let l := (s.hx.sessions.filter (fun x => x.version != 0)).map (·.sid)
  if l.isEmpty then s else { forEach l reportOn s with notes := [] }

/-- What a REPORT follows at once: STATE, TQ, ROLE and LIFECYCLE (12 R274). -/
def reportKey (s : State) : Nat × Nat × Nat × Nat := (stateCode s.glob.state, s.glob.tq, roleCode s, lifecycleCode s)

/-! ### Sheets (12 R275 to R279, R282) -/

/-- The journal range of an epoch: the last JSN before it, its LAST_JSN, EPOCH_MS, and the time quality at its seal (04 R454). -/
def rangeOf (s : State) (e : Int) : Option (Nat × Nat × Nat × Nat) :=
  let before := (s.hx.ranges.filter (fun r => decide (r.1 < e))).foldl (fun m r => max m r.2.1) 0
  (s.hx.ranges.find? (fun r => r.1 == e)).map (fun r => (before, r.2.1, r.2.2.2, r.2.2.1))

/-- Can an epoch's entries still be read (12 R282)? -/
def rangeIntact (s : State) (e : Int) : Bool := match rangeOf s e, s.jrn.entries.head? with
  | some (lo, _, _), some x => decide (x.jsn ≤ lo + 1)
  | _, _ => false

/-- Does the boundary work of an epoch still lack its signature (01 Table 1.8)? -/
def unsigned (s : State) (e : Int) : Bool := s.epoch.work.any (fun w => w.epoch == e && decide (w.step < 5))

/-- Bytes a sheet takes in the sheet build area: its seal with the signature, its leaves and its items (12 R282). -/
def sheetBytes (x : Sheet) : Nat :=
  160 + 5716 + 64 * x.leaves.length + (x.items.map (fun i => (itemBytes i).length)).sum

/-- The leaves of a sheet as their 64-byte images (12 R276). -/
def leafImages (x : Sheet) : List (List U8) := x.leaves.map recBytes

/-- The 160 bytes of a seal, big-endian (12 R279, Table 12.5). -/
def sealBytes (s : State) (x : Sheet) : List U8 :=
  asciiBytes "SHT1" ++ beBytes 2 1 ++ beBytes 2 x.flags ++ (leInt 8 x.epoch).reverse ++ beBytes 4 x.epochMs ++ beBytes 4 x.leaves.length ++
    beBytes 16 (unitOf s) ++ beBytes 8 x.firstJsn ++ beBytes 8 x.lastJsn ++ beBytes 32 x.root ++ beBytes 32 x.digest ++ beBytes 32 x.prevSeal ++ zeros 8

/-- The seal's hash (12 Table 12.5). -/
def sealOf (s : State) (x : Sheet) : Nat := hashOf (sealBytes s x)

/-- Unit-local events (12 Table 12.4). -/
def unitLocal (i : SheetItem) : Bool := i.sec == 5 && decide (16 ≤ i.nums.headD 0 ∧ i.nums.headD 0 ≤ 20)

/-- Build and sign the sheet of an epoch with the next leaf: `again` where it is rebuilt (12 R275 to R279, R282). -/
def buildSheet (again : Bool) (e : Int) (s : State) : Option (Sheet × State) :=
  match rangeOf s e, takeLeaf s with
  | some (lo, hi, ms, tq), some (q, s') =>
    let prev : Option Nat := match s.hx.chain with
      | some (n, h) => if n + 1 = e ∧ !again then some h else none
      | none => none
    let items := (itemsOf s e).filter (fun i => !(again && unitLocal i))
    let leaves := leavesIn s lo hi
    let fl := (if prev.isNone then 1 else 0) + (if again then 2 else 0) + (if s.twin.role = 0 then 0 else 4) + 8 * (tq % 4)
    let x : Sheet := { epoch := e, leaves := leaves, items := items, flags := fl, epochMs := ms,
                       firstJsn := ((readingsIn s lo hi).head?.map (·.1)).getD 0, lastJsn := hi, root := mth (leaves.map recBytes),
                       digest := sectionsDigest items, prevSeal := prev.getD 0, leaf := q }
    some ({ x with sealHash := sealOf s x },
      modHx (fun h => { h with signed := h.signed + 1, rebuilt := if again then h.rebuilt + 1 else h.rebuilt }) s')
  | _, _ => none

/-- Bytes of the sheet build area in use. -/
def sheetsBytes (s : State) : Nat := (s.hx.sheets.map sheetBytes).sum

/-- Keep the newest sheets that fit the 1 GiB sheet build area (12 R282). -/
def sheetsFit : Nat → List Sheet → List Sheet
  | _, [] => []
  | room, x :: l => if sheetBytes x ≤ room then x :: sheetsFit (room - sheetBytes x) l else []

/-- Hold a sheet; the oldest are released where the area is full (12 R282). -/
def holdSheet (x : Sheet) (s : State) : State := modHx (fun h =>
  { h with sheets := (sheetsFit 1073741824 ((h.sheets.filter (fun y => decide (y.epoch < x.epoch)) ++ x ::
      h.sheets.filter (fun y => decide (x.epoch < y.epoch))).reverse)).reverse }) s

/-- Sheets that every head end with SHEETS set has acknowledged are released (12 R282). -/
def releaseSheets (s : State) : State :=
  let hs := (cadRows s 0x0702).filter (fun r => (r.getD 2 0).toNat.testBit 0 && (r.getD 2 0).toNat.testBit 1)
  let covered (e : Int) : Bool := hs.all (fun r => match tabFind s.hx.acks (r.getD 0 0).toNat with
    | some a => decide (e ≤ a)
    | none => false)
  if hs.isEmpty then s else modHx (fun h => { h with sheets := h.sheets.filter (fun x => !covered x.epoch) }) s

/-- SHEET_SIGN: step 5 of Table 1.8 for the oldest sealed epoch: the sheet is built and its seal signed; at step 6 it is there for
sessions (12 R279, 01 Table 1.8). A standby signs nothing. -/
def sheetSign (fail : Nat) (s : State) : State :=
  let s := if s.keys.q < s.keys.reservedEnd ∨ s.keys.reserveFailed ∨ fail = 0 ∨ standby s then s else lmsReserve fail s
  match s.epoch.work.find? (fun w => w.step == 4) with
  | none => s
  | some w =>
    let mark (n : Nat) (s : State) : State :=
      let built := (rangeOf s w.epoch).map (fun r => r.2.1)
      { s with epoch := { s.epoch with work := s.epoch.work.map (fun x => if x.epoch = w.epoch then { x with step := n } else x) },
               jrn := { s.jrn with marks := tabPut s.jrn.marks 3 (built.getD (tabGet s.jrn.marks 3 0)) } }
    if standby s then mark 6 s
    else match buildSheet false w.epoch s with
      | none => s
      | some (x, s) => mark 6 (workPush 4 (holdSheet x (modHx (fun h => { h with chain := some (w.epoch, x.sealHash) }) s)))

/-- Epochs the device can send, held or rebuilt (12 R282). -/
def sendable (s : State) : List Int :=
  (s.hx.sheets.map (·.epoch)) ++ (s.hx.ranges.map (·.1)).filter (fun e => rangeIntact s e && !unsigned s e &&
    !s.hx.sheets.any (fun x => x.epoch == e))

/-- The lowest of some epochs. -/
def lowest (l : List Int) : Option Int := match l with
  | [] => none
  | a :: t => some (t.foldl min a)

/-- OLDEST_EPOCH (12 R282): the lowest epoch the device can still send, or the epoch in progress. -/
def oldestEpoch (s : State) : Int := (lowest (sendable s)).getD s.epoch.current

/-- ACK_THROUGH of a head end (12 R281), 0 where it has none. -/
def ackThrough (s : State) (h : Nat) : Int := tabGet s.hx.acks h 0

/-- A sheet held, or rebuilt and then held (12 R282). -/
def sheetOf (e : Int) (s : State) : Option (Sheet × State) := match s.hx.sheets.find? (fun x => x.epoch == e) with
  | some x => some (x, s)
  | none =>
    if rangeIntact s e && !unsigned s e && !standby s then
      (buildSheet true e s).map (fun (x, s) => (x, holdSheet x s))
    else none

/-- Parts of at most `n` items (12 R280); `fuel` bounds their number. -/
def partsOf {α : Type} (n : Nat) : Nat → List α → List (List α)
  | 0, _ => []
  | _, [] => []
  | f + 1, l => l.take n :: partsOf n f (l.drop n)

/-- Parts of a section: the section, the index of the first item, and ITEMS (12 R280). -/
def sectionParts {α : Type} (n k : Nat) (items : List α → List U8) (l : List α) : List (Nat × Nat × List U8) :=
  ((partsOf n l.length l).zipIdx).map (fun p => (k, n * p.2, items p.1))

/-- Every part of a sheet, in section order: the records as one byte string, other items as an array (12 R278, R280). -/
def sheetParts (x : Sheet) : List (Nat × Nat × List U8) :=
  sectionParts 16384 0 (fun l => cborBytes l.flatten) (leafImages x) ++ [1, 2, 3, 4, 5].flatMap (fun k =>
    sectionParts 4096 k cborArray ((x.items.filter (fun i => i.sec == k)).map itemBytes))

/-- Send a sheet as SHEET_HEAD and SHEET_PARTs (12 R280, Table 12.1). -/
def sendSheet (sid : Nat) (x : Sheet) (s : State) : State :=
  let ps := sheetParts x
  let cnt (k : Nat) : Int := ((x.items.filter (fun i => i.sec == k)).length : Int)
  let b := sealBytes s x
  let s := hxSend sid "SHEET_HEAD" 4 [(1, cborInt x.epoch), (2, cborBytes b), (3, cborBytes (signature b x.leaf)),
    (4, cborInts [(x.leaves.length : Int), cnt 1, cnt 2, cnt 3, cnt 4, cnt 5]), (5, cborInt ps.length)] s
  forEach ps.zipIdx (fun p s => hxSend sid "SHEET_PART" 5 [(1, cborInt x.epoch), (2, cborInt p.2), (3, cborInt p.1.1), (4, cborInt p.1.2.1),
    (5, p.1.2.2)] s) s

/-! ### Keys of head ends (14 Table 14.6, R330) -/

/-- Place of a head end's record in HX_HEADENDS. -/
def headendPlace (s : State) (h : Nat) : Option Nat := (cadRows s 0x0702).findIdx? (fun r => r.getD 0 (-1) == (h : Int))

/-- The KTK of a PSK and a HEADEND_ID (14 R330). -/
def ktkOf (psk headend : Nat) : Nat :=
  beNat (hkdfExpand (hkdfExtract (zeros 32) (beBytes 32 psk)) (asciiBytes "AKX KTK" ++ beBytes 8 headend))

/-- Slots 10 to 25: the PSK of every head-end record, unwrapped under CDST_KEK, and the KTK derived from it. A PSK whose integrity check fails is not
loaded (14 Table 14.6, R330). -/
def headendKeys (s : State) : State := match vaultKey s 2 with
  | none => s
  | some kek =>
    let s := forEach (List.range 16) (fun k s => if (vaultKey s (10 + k)).isSome then vaultDel (10 + k) s else s) s
    forEach ((cadRows s 0x0702).zipIdx) (fun e s => match keyUnwrap kek.key (beBytes 40 (e.1.getD 7 0).toNat) with
      | some psk => vaultPut (18 + e.2) { key := ktkOf psk (e.1.getD 0 0).toNat } (vaultPut (10 + e.2) { key := psk } s)
      | none => s) s

/-- The PSK of a head end, where it is loaded. -/
def headendPsk (s : State) (h : Nat) : Option Nat := (headendPlace s h).bind (fun k => (vaultKey s (10 + k)).map (·.key))

/-- The KTK of a head end, where it is loaded (14 R329, R330). -/
def headendKtk (s : State) (h : Nat) : Option Nat := ((headendPlace s h).bind (fun k => vaultKey s (18 + k))).map (·.key)

/-- Is the KTK of a head end loaded (14 R329, R330)? -/
def ktkLoaded (s : State) (h : Nat) : Bool := (headendKtk s h).isSome

/-! ### Sessions (12 R270 to R274) -/

/-- Does HX_TRANSPORT enable the port, address family and TCP port that a client reaches (12 R270, Table 12.13)? -/
def hxReaches (s : State) (x : TlsOffer) : Bool :=
  x.port == cadNum s 0x0701 0 && decide (x.eth ≤ 4) && (cadNum s 0x0701 1).testBit x.eth && (cadNum s 0x0701 2).testBit (if x.ipv6 then 1 else 0)

/-- Are the options of a handshake those of R270? -/
def tlsOptionsOk (x : TlsOffer) : Bool :=
  x.modes.contains 1 && x.groups.contains 29 && (x.suites.contains 0x1302 || x.suites.contains 0x1301) && !x.earlyData && !x.ticket && !x.certificate &&
    x.identity.length == 8

/-- A handshake that fails: a TLS alert (12 R270). -/
def tlsFail (headend : Nat) (s : State) : State :=
  send (.hx 0) "TLS_ALERT" [headend] (modHx (fun h => { h with tlsFail := h.tlsFail + 1 }) s)

/-- HX_CONNECT: a TLS handshake with a PSK identity and the key that its binder proves (12 R270, R271). Outside the states of R271, and where no
session may be accepted, TCP is refused. -/
def hxConnect (x : TlsOffer) (s : State) : State :=
  let headend := beNat x.identity
  if !s.hx.listening ∨ !hxState s ∨ !hxReaches s x then s
  else if (headendRow s headend).isNone ∨ !tlsOptionsOk x ∨ headendPsk s headend ≠ some x.psk then tlsFail headend s
  else
    let sid := s.hx.nextSid
    let full : Bool := decide (8 ≤ s.hx.sessions.length)
    let y : HxSession := { sid := sid, headend := headend, openedAt := s.mono, lastRx := s.mono, lastTx := s.mono, lastReport := s.mono }
    let s := modHx (fun h => { h with nextSid := sid + 1, sessions := h.sessions ++ [y] }) s
    if full then sessionClose sid OC_HX_SESSIONS s else s

/-- HX_CALL_OUT: the device opens TCP to a CALL_OUT head end with which it holds no session, every 30 s (12 R270). -/
def hxCallOut (headend : Nat) (s : State) : State := match headendRow s headend with
  | none => s
  | some r =>
    if !(r.getD 2 0).toNat.testBit 3 ∨ !s.hx.listening ∨ !hxState s ∨ s.hx.sessions.any (fun x => x.headend == headend) then s
    else
      let s := elapseTo (((tabFind s.hx.called headend).map (· + 30000000000)).getD 0) s
      send (.hx 0) "TCP_OPEN" [headend, r.getD 4 0, r.getD 5 0] (modHx (fun h => { h with called := tabPut h.called headend s.mono }) s)

/-- A message arrives on a session (12 R274): one that cannot be read closes it; one of another type than `type` is no command of this row. -/
def hxArrives (sid type : Nat) (b : List U8) (f : CborMap → State → State) (s : State) : State :=
  if (sessionOf s sid).isNone then s
  else match hxRead b with
    | .error c => sessionClose sid c s
    | .ok (t, m) => if t = type then f m s else s

/-- The highest version of those listed that the device supports, 0 none (12 R272). -/
def versionOf (m : CborMap) : Nat :=
  let l := ((keyValue m 1).bind Cbor.nats?).getD []
  if l.contains 2 then 2 else if l.contains 1 then 1 else 0

/-- HX_OPEN: version negotiation, OPEN_ACK and the REPORT at session open (12 R272, Table 12.1). -/
def hxOpen (sid : Nat) (b : List U8) (s : State) : State := hxArrives sid 1 b (fun m s => match sessionOf s sid with
  | none => s
  | some x =>
    let s := heardOn sid s
    let v := versionOf m
    if x.version ≠ 0 then sessionClose sid OC_HX_FORMAT s
    else if v = 0 then sessionClose sid OC_VERSION s
    else
      let s := modSess sid (fun x => { x with version := v }) s
      let s := hxSend sid "OPEN_ACK" 2 [(1, cborInt v), (2, cborBytes (beBytes 16 (unitOf s))), (3, cborInt (devTime s)), (4, cborInt s.epoch.current),
        (5, cborInt (roleCode s)), (6, cborInt (ackThrough s x.headend)), (7, cborInt (oldestEpoch s)), (8, cborInt s.billing.time)] s
      { reportOn sid s with notes := [] }) s

/-- HX_OPEN_TIMEOUT: no OPEN within 10 s (12 R272). -/
def hxOpenTimeout (sid : Nat) (s : State) : State := match sessionOf s sid with
  | none => s
  | some x => if x.version ≠ 0 then s else sessionClose sid OC_HX_FORMAT (elapseTo (x.openedAt + 10000000000) s)

/-- HX_SUBSCRIBE: delivery starts, or starts anew, from FROM (12 R280, R282). -/
def hxSubscribe (sid : Nat) (b : List U8) (s : State) : State := hxArrives sid 3 b (fun m s =>
  onSession sid (fun x s =>
    let e := (intKey m 1).getD (match tabFind s.hx.acks x.headend with
      | some a => a + 1
      | none => oldestEpoch s)
    if e < oldestEpoch s then sessionClose sid OC_HX_SHEET_GONE s
    else modSess sid (fun x => { x with next := some e, window := [] }) s) s) s

/-- HX_SHEET_SEND: with room in the window, the next sheet of a session is sent (12 R280). -/
def hxSheetSend (sid : Nat) (s : State) : State := match sessionOf s sid with
  | none => s
  | some x => match x.next with
    | none => s
    | some n =>
      if standby s ∨ hxFlow s 0 ≤ x.window.length then s
      else match lowest ((sendable s).filter (fun e => decide (n ≤ e))) with
        | none => s
        | some e => match sheetOf e s with
          | none => s
          | some (y, s) =>
            let s := workServe 4 1 (sendSheet sid y s)
            modHx (fun h => { h with sheetsSent := h.sheetsSent + 1 }) (modSess sid (fun x =>
              { x with next := some (e + 1), window := x.window ++ [e], sent := some (match x.sent with
                  | some m => max m e
                  | none => e) }) s)

/-- HX_SHEET_ACK (12 R281). -/
def hxSheetAck (sid : Nat) (b : List U8) (s : State) : State := hxArrives sid 6 b (fun m s =>
  onSession sid (fun x s =>
    let through := (intKey m 1).getD 0
    let past : Bool := match x.sent with
      | some m => decide (m < through)
      | none => true
    let stale : Bool := match x.through with
      | some t => decide (through < t)
      | none => false
    if stale then s
    else if past then sessionClose sid OC_RANGE s
    else
      let s := modSess sid (fun x => { x with through := some through, window := x.window.filter (fun e => decide (through < e)) }) s
      releaseSheets (modHx (fun h => { h with acks := tabPut h.acks x.headend (match tabFind h.acks x.headend with
        | some a => max a through
        | none => through) }) s)) s) s

/-- HX_PING: answered with PONG (12 R273). -/
def hxPing (sid : Nat) (b : List U8) (s : State) : State :=
  hxArrives sid 12 b (fun m s => onSession sid (fun _ s => hxSend sid "PONG" 13 [(1, cborInt ((natKey m 1).getD 0))] s) s) s

/-- HX_PONG (12 R273). -/
def hxPong (sid : Nat) (b : List U8) (s : State) : State := hxArrives sid 13 b (fun _ s => onSession sid (fun _ s => s) s) s

/-- HX_CLOSE: the head end ends the session (12 R274). -/
def hxClose (sid : Nat) (b : List U8) (s : State) : State := hxArrives sid 14 b (fun _ s => sessionEnd sid s) s

/-- HX_PING_TIMER: 30 s without sending (12 R273). -/
def hxPingTimer (sid : Nat) (s : State) : State := match sessionOf s sid with
  | none => s
  | some x =>
    let (n, s) := draw (elapseTo (x.lastTx + 30000000000) s)
    hxSend sid "PING" 12 [(1, cborInt n)] s

/-- HX_IDLE_TIMEOUT: nothing received for HX_IDLE_S (12 R273). -/
def hxIdleTimeout (sid : Nat) (s : State) : State := match sessionOf s sid with
  | none => s
  | some x => sessionEnd sid (elapseTo (x.lastRx + hxFlow s 2 * 1000000000) s)

/-- HX_REPORT_TIMER: REPORT_S has passed since the last REPORT on a session (12 R274). -/
def hxReportTimer (sid : Nat) (s : State) : State := match sessionOf s sid with
  | none => s
  | some x => if x.version = 0 then s else
    { reportOn sid (elapseTo (x.lastReport + hxFlow s 3 * 1000000000) s) with notes := [] }

/-- HX_MESSAGE_MALFORMED: CLOSE with OC_HX_FORMAT, or OC_UNKNOWN_TAG for an undefined key (12 R274). -/
def hxMalformed (sid : Nat) (b : List U8) (s : State) : State := hxArrives sid 0 b (fun _ s => s) s

/-- LAST_GASP to every open session of a unit that is no standby (12 R273, R283). -/
def hxLastGasp (s : State) : State :=
  if standby s then s
  else forEach ((s.hx.sessions.filter (fun x => x.version != 0)).map (·.sid)) (fun sid s =>
    hxSend sid "LAST_GASP" 11 [(1, cborInt (devTime s)), (2, cborInt s.epoch.current), (3, cborInt s.jrn.lastJsn)] s) s

/-- HX_HEADENDS takes effect at a boundary: sessions of head ends without an enabled record close with OC_SIG (12 Table 12.13). -/
def headendsAmended (s : State) : State :=
  forEach ((s.hx.sessions.filter (fun x => (headendRow s x.headend).isNone)).map (·.sid)) (fun sid s => sessionClose sid OC_SIG (recordRefusal 16 OC_SIG [] s)) s

/-- Sessions are accepted from the end of step 11 of Table 2.4 (12 R271, R285). -/
def hxListen (s : State) : State := modHx (fun h => { h with listening := true, listenStart := devTime s }) s

/-- The acknowledged epoch as a register value (12 R281, R294). -/
def ackValue (s : State) : Int := (ackedEpoch s).getD 0

/-- HX_STATUS (12 Table 12.12). -/
def hxStatus (s : State) : U32 :=
  bitAt (s.hx.listening && hxState s) 31 ||| bitAt (decide (805306368 < sheetsBytes s)) 30 ||| fieldAt s.hx.campaigns.length 8 |||
    fieldAt (s.billing.marks.filter (fun m => m.committed.isNone)).length 4 ||| fieldAt s.hx.sessions.length 0

/-- Counters at 0x504 to 0x530, in order (12 Table 12.11). -/
def hxCounters (h : HxSt) : List U32 :=
  [h.tlsFail, h.signed, h.sheetsSent, h.rebuilt, h.received, h.accepted, h.refused, h.repeated, h.sigFail, h.extracts, h.blocks, h.campFailed]

end Sys2Proof.Machine
end

