-- ==== Sys2Proof/Machine/Orders.lean ====
section
/-! DEFINITION. Orders: their checks, the repeat table and their answers (12 R284 to R289), and the kinds CALENDAR, EXTRACT,
TOPOLOGY_ACCEPT and SNAPSHOT. -/

namespace Sys2Proof.Machine

/-- How the kind-specific work of an order ends: answered now, with the map of DETAIL as bytes, or later at a commit. -/
inductive OrderEnd
  | now (code : U16) (detail : List U8) (jsn : Nat) (s : State)
  | later (s : State)

/-- An ANSWER: ORDER_ID, OUTCOME, REPEAT, DETAIL where there is one, and the JSN of a journalled order (12 Table 12.1). -/
def answerMsg (sid orderId : Nat) (code : U16) (again : Bool) (detail : List U8) (jsn : Nat) : Output :=
  hxOut sid "ANSWER" 8 ([(1, cborInt orderId), (2, cborInt code.toNat), (3, cborBool again)] ++ (if detail.isEmpty then [] else [(4, detail)]) ++
    (if jsn = 0 then [] else [(5, cborInt jsn)]))

/-- An ANSWER on a session that is still open (12 Table 12.1). -/
def answer (sid orderId : Nat) (code : U16) (again : Bool) (detail : List U8) (jsn : Nat) (s : State) : State :=
  if (sessionOf s sid).isNone then s
  else emit (answerMsg sid orderId code again detail jsn) (modSess sid (fun x => { x with lastTx := s.mono }) s)

/-- Count an answer that is no repeat (12 Table 12.11). -/
def countAnswer (code : U16) (s : State) : State := modHx (fun h =>
  { h with accepted := if ocClass code ≤ 1 then h.accepted + 1 else h.accepted,
           refused := if ocClass code ≤ 1 then h.refused else h.refused + 1,
           sigFail := if code = OC_SIG then h.sigFail + 1 else h.sigFail }) s

/-- The first answer of an order: counted, sent, and recorded where the class of its outcome asks for it (12 Table 12.11,
00 Table 0.6). -/
def orderOutcome (sid orderId : Nat) (code : U16) (detail : List U8) (jsn : Nat) (s : State) : State :=
  recordRefusal 16 code [lo32 orderId, hi32 orderId] (answer sid orderId code false detail jsn (countAnswer code s))

/-- A refusal before the repeat table (12 R285). -/
def refuseOrder (sid orderId : Nat) (code : U16) (s : State) : State := orderOutcome sid orderId code [] 0 s

/-- The repeat table of a head end, oldest order first (12 R285). -/
def repeatsOf (s : State) (h : Nat) : List RepeatRow := tabGet s.hx.repeats h []

/-- Store a head end's repeat table: its last 4,096 orders (12 R285). -/
def setRepeats (h : Nat) (l : List RepeatRow) (s : State) : State :=
  modHx (fun x => { x with repeats := tabPut x.repeats h (l.drop (l.length - 4096)) }) s

/-- An order of the repeat table is answered: recorded, sent, and sent to the sessions that repeated it meanwhile (12 R285). -/
def orderAnswered (headend orderId : Nat) (code : U16) (detail : List U8) (jsn : Nat) (s : State) : State :=
  match (repeatsOf s headend).find? (fun r => r.orderId == orderId && r.waits) with
  | none => s
  | some r =>
    let done : RepeatRow := { r with outcome := code, detail := detail, jsn := jsn, waits := false, repeaters := [] }
    let s := setRepeats headend ((repeatsOf s headend).map (fun x => if x.orderId = orderId then done else x)) s
    let s := orderOutcome r.sid orderId code detail jsn s
    forEach r.repeaters (fun sid s => answer sid orderId code true detail jsn (modHx (fun h => { h with repeated := h.repeated + 1 }) s)) s

/-- Does a target name this unit, its twin partner, or a group of this unit (12 R285)? -/
def targetOk (s : State) : OrderTarget → Bool
  | .unit u => u == unitOf s || (s.twin.role != 0 && u == s.twin.peerUnit)
  | .group g => (cadRows s 0x0704).any (fun r => r.getD 0 0 == (g : Int))

/-- The checks of R285 before the repeat table, for a kind; `permitted` says whether the lifecycle state allows this body
(14 R322). -/
def orderRefusal (kind : Nat) (permitted : Bool) (e : Envelope) (s : State) : Option U16 :=
  if e.malformed then some OC_HX_FORMAT
  else if e.badKey then some OC_UNKNOWN_TAG
  else match headendRow s e.headend with
    | none => some OC_SIG
    | some r =>
      if !(r.getD 1 0).toNat.testBit kind ∨ r.getD 6 0 ≠ (e.sigKey : Int) then some OC_SIG
      else if !targetOk s e.target then some OC_HX_TARGET
      else if standby s ∧ kind ≠ 10 then some OC_HX_NOT_ACTIVE
      else if !permitted then some OC_LIFECYCLE
      else none

/-- The checks of R285 after the repeat table. -/
def orderLate (journalled : Bool) (e : Envelope) (s : State) : Option U16 :=
  let ids := (repeatsOf s e.headend).map (·.orderId)
  if !ids.isEmpty ∧ ids.all (fun n => decide (e.orderId ≤ n)) then some OC_HX_ORDER_STALE
  else if e.issued < s.hx.listenStart ∨ e.notAfter < s.billing.time ∨ e.issued + hxFlow s 5 * 1000000000 < e.notAfter then some OC_HX_ORDER_EXPIRED
  else if journalled ∧ !s.glob.ingest then some OC_BUSY
  else none

/-- An order of a kind: the checks of R285, then `work` (12 R285, R286). -/
def orderRow (kind : Nat) (journalled : Bool) (permitted : State → Bool) (work : State → OrderEnd) (e : Envelope) (s : State) : State :=
  onSession e.sid (fun _ s =>
    let s := modHx (fun h => { h with received := h.received + 1 }) s
    match orderRefusal kind (permitted s) e s with
    | some c => refuseOrder e.sid e.orderId c s
    | none =>
      match (repeatsOf s e.headend).find? (fun r => r.orderId == e.orderId) with
      | some r =>
        if r.digest ≠ e.digest then refuseOrder e.sid e.orderId OC_HX_ID_REUSED s
        else if r.waits then
          setRepeats e.headend ((repeatsOf s e.headend).map (fun x =>
            if x.orderId = e.orderId then { x with repeaters := x.repeaters ++ [e.sid] } else x)) s
        else answer e.sid e.orderId r.outcome true r.detail r.jsn (modHx (fun h => { h with repeated := h.repeated + 1 }) s)
      | none => match orderLate journalled e s with
        | some c => refuseOrder e.sid e.orderId c s
        | none =>
          let row : RepeatRow := { orderId := e.orderId, digest := e.digest, sid := e.sid, waits := true }
          match work (setRepeats e.headend (repeatsOf s e.headend ++ [row]) s) with
          | .now c d j t => orderAnswered e.headend e.orderId c d j t
          | .later t => t) s

/-- Commit the ORDER entry of an order bound to no parcel, with a BODY (12 R287). -/
def commitOrderOf (body : List U8) (kind : Nat) (e : Envelope) (nums : List Int) (s : State) : State :=
  commitSized body none 0 (.order kind 0 e.orderId e.headend e.digest nums) s

/-- Commit the ORDER entry of an order bound to no parcel, with its BODY as received (12 R287). -/
def commitOrder (kind : Nat) (e : Envelope) (nums : List Int) (s : State) : State := commitOrderOf e.body kind e nums s

/-- Does an ORDER message hold as many envelopes as the session's version allows: 1, or up to 64 (12 R272)? -/
def countOk (o : HxOrder) (s : State) : Bool := match sessionOf s o.sid with
  | some x => if x.version = 1 then o.count == 1 else decide (1 ≤ o.count ∧ o.count ≤ 64)
  | none => true

/-- An envelope's bytes are read as an order of a kind, its BODY by `read`, and `work` does the rest. A malformed BODY makes the order malformed; an
order of another kind, or one that another row names, is no command of this row. -/
def readOrder {α : Type} [Inhabited α] (kind : Nat) (read : List U8 → Option (Option α)) (work : Envelope → α → State → State) (o : HxOrder)
    (s : State) : State :=
  if !countOk o s then sessionClose o.sid OC_HX_FORMAT s
  else
    let e := envelopeOf o
    if e.malformed then work e default s
    else if e.kind ≠ kind then s
    else if e.badKey then work e default s
    else match read e.body with
      | none => work { e with malformed := true } default s
      | some none => s
      | some (some b) => work e b s

/-- HX_ORDER_UNKNOWN_KIND: an envelope that is malformed, or of a reserved or device-made kind (12 R286). -/
def orderUnknownKind (o : HxOrder) (s : State) : State :=
  if !countOk o s then sessionClose o.sid OC_HX_FORMAT s
  else
    let e := envelopeOf o
    if !e.malformed ∧ orderKind e.kind then s
    else onSession e.sid (fun _ s =>
      let s := modHx (fun h => { h with received := h.received + 1 }) s
      let c := if e.malformed then OC_HX_FORMAT
        else if !e.badKey && decide (0x80 ≤ e.kind ∧ e.kind ≤ 0x85) then OC_SIG else OC_UNKNOWN_TAG
      refuseOrder e.sid e.orderId c s) s

/-- CALENDAR (06 R143): the calendar, ACTIVATE_AT and the image, if one is carried. -/
def orderCalendar (e : Envelope) (c a : Nat) (img : Option (List Nat)) (s : State) : State :=
  orderRow 2 true (fun _ => true) (fun s =>
    let r := calendarCheck c a img s
    if r ≠ OC_OK then .now r [] 0 s
    else
      let s := commitOrder 2 e (([(c : Int), a, if img.isSome then 1 else 0]) ++ (img.getD []).map Int.ofNat) s
      .now OC_OK [] s.jrn.lastJsn (calendarApply c a img s.jrn.lastJsn s)) e s

/-- Numbers of a SNAPSHOT body. -/
def snapshotBody (m : SnapMark) : List Int := [(m.at_ : Int), m.scope, m.calendar] ++ m.identities.map (fun i => (i.toNat : Int))

/-- SNAPSHOT (12 R288). -/
def orderSnapshot (e : Envelope) (at_ scope cal : Nat) (ids : List U64) (s : State) : State :=
  orderRow 11 true (fun _ => true) (fun s =>
    let m : SnapMark := { at_ := at_, scope := scope, calendar := cal, identities := ids }
    let r := if 2 < scope ∨ 4096 < ids.length ∨ 31 < cal then OC_RANGE else snapshotCheck m s
    if r ≠ OC_OK then .now r [] 0 s
    else
      let s := commitOrder 11 e (snapshotBody m) s
      .now OC_OK [] s.jrn.lastJsn (modBilling (fun b => { b with marks := b.marks ++ [m] }) s)) e s

/-- TOPOLOGY_ACCEPT (07 R176): the entry commits in the parcel's domain. -/
def orderTopology (e : Envelope) (i gen inst node : Nat) (s : State) : State :=
  orderRow 9 true (fun _ => true) (fun s =>
    let r := topologyCheck i gen inst node s
    let b : JBody := .order 9 0 e.orderId e.headend e.digest (topologyNums i gen inst node)
    if r ≠ OC_OK then .now r [] 0 s
    else if domainClear s i s.trav.nextJoin then
      let t := devTime s
      let s := commitSized e.body (some i) gen b s
      .now OC_OK [] s.jrn.lastJsn (applyTopology i node inst t s)
    else .later (joinItem { parcel := i, body := b, received := e.body, answer := some (e.headend, e.orderId) } s)) e s

/-- EXTRACT: leaves of a sheet with their inclusion paths (12 R289). Version 1 of the session allows one leaf (12 R272). -/
def orderExtract (e : Envelope) (epoch : Int) (leaves : List Nat) (s : State) : State :=
  orderRow 8 false (fun _ => true) (fun s =>
    let v := ((sessionOf s e.sid).map (·.version)).getD 1
    if leaves.isEmpty ∨ (if v = 1 then 1 else 256) < leaves.length ∨ s.epoch.current ≤ epoch ∨ unsigned s epoch then .now OC_RANGE [] 0 s
    else match sheetOf epoch s with
      | none => .now OC_HX_EXTRACT_GONE [] 0 s
      | some (x, t) =>
        if leaves.any (fun k => decide (x.leaves.length ≤ k)) then .now OC_RANGE [] 0 s
        else
          let l := leafImages x
          let t := forEach leaves (fun k t => hxSend e.sid "EXTRACT_RESULT" 9
            [(1, cborInt e.orderId), (2, cborInt epoch), (3, cborInt k), (4, cborInt x.leaves.length), (5, cborBytes (l.getD k [])),
             (6, cborArray ((inclusionPath k l).map (fun p => cborBytes (beBytes 32 p)))), (7, cborBytes (sealBytes t x)),
             (8, cborBytes (signature (sealBytes t x) x.leaf))] t) t
          .now OC_OK [] 0 (modHx (fun h => { h with extracts := h.extracts + u32 leaves.length }) t)) e s

end Sys2Proof.Machine
end

