-- ==== Sys2Proof/Machine/Campaign.lean ====
section
/-! DEFINITION. Endpoint firmware campaigns (12 R290 to R293). -/

namespace Sys2Proof.Machine

/-- A running campaign. -/
def campaignOf (s : State) (n : Nat) : Option Campaign := tabFind s.hx.campaigns n

/-- Is a parcel a member of a campaign, under its number? -/
def memberOf (s : State) (n i : Nat) : Bool := (parcelOf s i).campaign.campaign == n

/-- Members of a campaign in a state (12 Table 12.9). -/
def inState (s : State) (c : Campaign) (ep : Nat) : List Nat :=
  c.members.filter (fun i => memberOf s c.number i && (parcelOf s i).campaign.ep == ep)

/-- Is a member state terminal (12 Table 12.9)? -/
def epTerminal (ep : Nat) : Bool := decide (ep = 4 ∨ ep = 6 ∨ ep = 7 ∨ ep = 8)

/-- Blocks of a campaign's image. -/
def blockCount (c : Campaign) : Nat := (c.image.length + c.blockSize - 1) / c.blockSize

/-- What a frame to a member carries (12 R292). Method 2: PREFIX, the block number, and the block. Method 1: an ACTION-request of the image transfer
class, which external standards form and cipher over its number and data. -/
def frameContent (c : Campaign) (p : Parcel) (number : Nat) (data : List U8) : List U8 :=
  if c.method = 2 then c.lead ++ beBytes 4 number ++ data
  else (List.range (Config.actionBytes p.protocol + data.length)).map (Config.actionByte p.protocol (beBytes 4 number ++ data))

/-- Hand a downlink for a parcel to its last path (12 R292). -/
def downlinkTo (i kind number : Nat) (data : List U8) (c : Campaign) (s : State) : State :=
  let p := parcelOf s i
  let l := p.linkState
  { s with downs := s.downs ++ [{ kind := kind, parcel := i, path := p.path, port := p.port, cell := p.cell, shortAddr := p.shortAddr,
                                  length := (frameContent c p number data).length, content := frameContent c p number data, priority := if kind = 1 then 2 else 1,
                                  number := number, entry := l.getD 8 255 + 256 * l.getD 9 255,
                                  localAddr := (l.take 8).foldr (fun b n => b + 256 * n) 0,
                                  format := if c.method = 2 then c.format else l.getD 11 1 }] }

/-- Block `b` of a campaign's image. -/
def imageBlock (c : Campaign) (b : Nat) : List U8 := (c.image.drop (b * c.blockSize)).take c.blockSize

/-- Send the current block of a member (12 R292, queue class CAMPAIGN_PUSH). -/
def sendBlock (i : Nat) (c : Campaign) (s : State) : State :=
  let p := parcelOf s i
  let b := p.campaign.nextBlock
  workPush 1 (downlinkTo i 1 b (imageBlock c b) c
    (setParcel i { p with campaign := { p.campaign with attempts := p.campaign.attempts + 1 } } s))

/-- A frame of a campaign that is no block: 0 initiate, with IMAGE_ID and the image size, 1 verify, 2 activate, 3 abort (12 R292). -/
def sendOther (i what : Nat) (c : Campaign) (s : State) : State :=
  if c.method = 2 ∧ what < 2 then s
  else downlinkTo i 2 (if what = 2 then 0xFFFFFFFF else if what = 3 then 0xFFFFFFFE else what)
    (if what = 0 then c.imageId ++ beBytes 4 c.image.length else []) c s

/-- A CAMPAIGN_STEP entry with a member's CAMPAIGN_STATE commits in the member's ordering domain (12 R292). A standby takes the active's entry
(15 R346). -/
def campaignStep (i : Nat) (s : State) : State :=
  let p := parcelOf s i
  let k := p.campaign
  if !makesEntries s then s
  else commitInDomain i p.generation (.order 0x81 1 0 0 0 [k.campaign, k.ep, k.attempts, k.nextBlock, k.stateTime, k.lastCode, k.lastActivated]) id s

/-- CAMPAIGN_REPORT and the end of a campaign: reason 0 complete, 1 deadline, 2 cancelled, 3 superseded (12 R292). -/
def campaignClose (n reason superseded : Nat) (s : State) : State := match campaignOf s n with
  | none => s
  | some c =>
    let count (k : Nat) : Int := ((inState s c k).length : Int)
    addEvent 13 (itemJsn s) (devTime s) ([(n : Int), reason, superseded, c.members.length, c.excluded] ++ [1, 2, 3, 4, 5, 6, 7, 8].map count)
      (modHx (fun h => { h with campaigns := tabDel h.campaigns n, campImages := tabDel h.campImages n }) s)

/-- A member changes state, with its CAMPAIGN_STEP (12 R292). -/
def memberState (i ep : Nat) (code : Option U16) (s : State) : State :=
  let p := parcelOf s i
  let k := { p.campaign with ep := ep, stateTime := devTime s, lastCode := (code.map (·.toNat)).getD p.campaign.lastCode,
                             attempts := 0, nextBlock := p.campaign.nextBlock }
  let s := setParcel i { p with campaign := k, inCampaign := !epTerminal ep } s
  let s := if ep = 6 then modHx (fun h => { h with campFailed := h.campFailed + 1 }) s else s
  campaignStep i s

/-- A campaign closes, for a reason, when every member is terminal (12 R292). -/
def campaignCompleteAs (reason n : Nat) (s : State) : State := match campaignOf s n with
  | none => s
  | some c => if c.members.all (fun i => epTerminal (parcelOf s i).campaign.ep || !memberOf s n i) then campaignClose n reason 0 s else s

/-- A campaign is complete when every member is terminal (12 R292). -/
def campaignComplete (n : Nat) (s : State) : State := campaignCompleteAs 0 n s

/-- A member of a campaign that ends leaves it: WAITING and TRANSFER become ABORTED, with an abort frame in TRANSFER; ACTIVATING and
terminal members stay (12 R293). -/
def memberAbort (c : Campaign) (i : Nat) (s : State) : State :=
  if !memberOf s c.number i then s
  else match (parcelOf s i).campaign.ep with
    | 1 => memberState i 7 none s
    | 2 => memberState i 7 none (sendOther i 3 c s)
    | _ => s

/-- Close a running campaign before its time (12 R293). -/
def campaignStop (n reason superseded : Nat) (s : State) : State := match campaignOf s n with
  | none => s
  | some c => campaignClose n reason superseded (forEach c.members (memberAbort c) s)

/-- Candidates and members of a campaign, with those excluded (12 R291). -/
def campaignMembers (b : CampaignBody) (s : State) : List Nat × Nat :=
  let act := s.store.parcels.filter (fun e => e.2.state == .active)
  let fits (e : Nat × Parcel) : Bool := e.2.path != 0 && (match b.profiles with
      | some l => l.contains e.2.veeProfile
      | none => true) && (b.method != 1 || e.2.protocol == 1 || e.2.protocol == 2)
  match b.region, b.group with
  | some (cells, plc, radio), _ =>
    let cand := act.filter (fun e => (e.2.path == 1 && plc.contains e.2.port) || (e.2.path == 2 && radio.contains e.2.port) ||
      (e.2.path == 3 && cells.contains e.2.cell))
    ((cand.filter fits).map (·.1), (cand.filter (fun e => !fits e)).length)
  | none, some ids =>
    let cand := act.filter (fun e => ids.contains e.2.identity)
    ((cand.filter fits).map (·.1), ids.length - (cand.filter fits).length)
  | none, none => ([], 0)

/-- Are the fields of a start in range (12 Table 12.8)? -/
def campaignRanges (b : CampaignBody) : Bool :=
  decide (1 ≤ b.campaign ∧ b.campaign ≤ 65535) && (b.region.isSome != b.group.isSome) &&
  (match b.region with
   | some (c, p, r) => c.all (fun n => decide (n ≤ 4095)) && p.all (fun n => decide (n ≤ 5)) && r.all (fun n => decide (n ≤ 7))
   | none => true) &&
  decide (((b.group.getD []).length ≤ 65536) ∧ 1 ≤ b.method ∧ b.method ≤ 2 ∧ 1 ≤ b.image.length ∧ b.image.length ≤ 2097152 ∧ b.imageId.length ≤ 32 ∧
    64 ≤ b.blockSize ∧ b.blockSize ≤ 1024 ∧ b.start < b.deadline ∧ b.lead.length ≤ 16 ∧ (b.method = 2 → 1 ≤ b.format ∧ b.format ≤ 2) ∧ b.action = 0 ∧
    1 ≤ b.maxParallel ∧ b.maxParallel ≤ 65535 ∧ 1 ≤ b.retries ∧ b.retries ≤ 15)

/-- The checks of a start in order (12 R290): a refusal and its DETAIL. -/
def campaignCheck (b : CampaignBody) (s : State) : Option (U16 × List U8) :=
  let ms := campaignMembers b s
  let hold := s.hx.campaigns.filter (fun e => e.2.members.any (fun i => ms.1.contains i))
  if !campaignRanges b then some (OC_RANGE, [])
  else match campaignOf s b.campaign with
    | some c => some (OC_CAMPAIGN_ACTIVE, if c.imageHash = hashOf b.image ∧ c.members = ms.1 then cborKeyed [(1, cborBool true)] else [])
    | none =>
      if ms.1 = [] then some (OC_RANGE, [])
      else match b.supersede, hold.head? with
        | false, some e => some (OC_CAMPAIGN_ACTIVE, cborKeyed [(2, cborInt e.1)])
        | _, _ =>
          if 64 ≤ s.hx.campaigns.length - (if b.supersede then hold.length else 0) then some (OC_HX_CAMPAIGN_COUNT, [])
          else if b.start < twoEpochs s then some (OC_CAL_TOO_LATE, [])
          else none

/-- The campaign of a body, with its members. -/
def campaignNew (b : CampaignBody) (jsn : Nat) (ms : List Nat) (ex : Nat) : Campaign :=
  { number := b.campaign, jsn := jsn, method := b.method, imageHash := hashOf b.image, image := b.image, imageId := b.imageId, blockSize := b.blockSize,
    start := b.start, deadline := b.deadline, activateAt := b.activateAt, doneKind := b.doneKind, doneCode := b.doneCode, doneValue := b.doneValue,
    failKind := b.failKind, failCode := b.failCode, format := b.format, lead := b.lead, maxParallel := b.maxParallel,
    retries := b.retries, members := ms, excluded := ex }

/-- A parcel becomes a WAITING member (12 R291, R293). -/
def memberWaits (n i : Nat) (s : State) : State :=
  let p := parcelOf s i
  setParcel i { p with inCampaign := true, campaign := { p.campaign with campaign := n, ep := 1, attempts := 0, nextBlock := 0, stateTime := devTime s } } s

/-- Numbers of a CAMPAIGN entry: ACTION, CAMPAIGN, the image by size and hash, and SUPERSEDE (12 R287). -/
def campaignNums (b : CampaignBody) : List Int :=
  [0, b.campaign, b.image.length, hashOf b.image, if b.supersede then 1 else 0, b.method, b.blockSize, b.start, b.deadline, b.activateAt]

/-- BODY of a CAMPAIGN entry: as received, with the image and the GROUP array replaced by their SHA-256 (12 R287). -/
def campaignEntryBody (e : Envelope) : List U8 := match cborMapOf e.body with
  | none => e.body
  | some m => cborKeyed ((m.foldl (fun (t : Tab (List U8)) x => tabPut t x.1 x.2.1) []).map (fun x =>
      if x.1 = 6 then (6, cborBytes (hashBytes ((bytesKey m 6).getD [])))
      else if x.1 = 4 then (4, cborBytes (hashBytes (cborInts ((((keyValue m 4).bind Cbor.nats?).getD []).map Int.ofNat))))
      else x))

/-- Start an accepted campaign after its entry has committed (12 R291, R293). -/
def campaignApply (b : CampaignBody) (ms : List Nat) (ex : Nat) (s : State) : State :=
  let hold := (s.hx.campaigns.filter (fun e => e.2.members.any (fun i => ms.contains i))).map (·.1)
  let s := if b.supersede then forEach hold (fun n s => campaignStop n 3 b.campaign s) s else s
  let s := modHx (fun h => { h with campaigns := tabPut h.campaigns b.campaign (campaignNew b s.jrn.lastJsn ms ex) }) s
  forEach ms (memberWaits b.campaign) s

/-- CAMPAIGN_START (12 R290, R291, R293): the image and the GROUP array go to the campaign section before the entry commits. -/
def orderCampaignStart (e : Envelope) (b : CampaignBody) (s : State) : State :=
  orderRow 3 true (fun s => s.keys.state != 2) (fun s => match campaignCheck b s with
    | some (c, d) => .now c d 0 s
    | none =>
      let (ms, ex) := campaignMembers b s
      let s := modHx (fun h => { h with campImages := tabPut h.campImages b.campaign true }) s
      let s := if shadowing s then blSendState 5 (.campaign (campaignNew b s.jrn.lastJsn ms ex)) s else s
      let s := commitOrderOf (campaignEntryBody e) 3 e (campaignNums b) s
      let j := s.jrn.lastJsn
      .now OC_OK [] j (campaignApply b ms ex s)) e s

/-- CAMPAIGN_CANCEL (12 R290). -/
def orderCampaignCancel (e : Envelope) (n : Nat) (s : State) : State :=
  orderRow 3 true (fun s => s.keys.state != 2) (fun s =>
    if n = 0 ∨ 65535 < n then .now OC_RANGE [] 0 s
    else if (campaignOf s n).isNone then .now OC_HX_CAMPAIGN_UNKNOWN [] 0 s
    else
      let s := commitOrder 3 e [1, n] s
      let j := s.jrn.lastJsn
      .now OC_OK [] j (campaignStop n 2 0 s)) e s

/-- CAMPAIGN_MEMBER_START: START has passed and a parallel slot is free, and a WAITING member enters TRANSFER (12 R292). -/
def campaignMemberStart (i : Nat) (s : State) : State :=
  let p := parcelOf s i
  match campaignOf s p.campaign.campaign with
  | none => s
  | some c =>
    if p.campaign.ep ≠ 1 ∨ !c.members.contains i ∨ c.maxParallel ≤ (inState s c 2).length ∨ !makesEntries s ∨ !s.glob.ingest then s
    else sendBlock i c (sendOther i 0 c (memberState i 2 none (elapseDev c.start s)))

/-- The last block of a member is delivered: ACTIVATING (12 Table 12.9). -/
def memberActivating (i : Nat) (c : Campaign) (s : State) : State :=
  let s := sendOther i 1 c (memberState i 3 none s)
  if c.activateAt = 0 ∨ c.activated then sendOther i 2 c s else s

/-- A block's downlink has ended (12 R292). -/
def blockEnded (d : Down) (code : U16) (s : State) : State :=
  let p := parcelOf s d.parcel
  match campaignOf s p.campaign.campaign with
  | none => s
  | some c =>
    if p.campaign.ep ≠ 2 ∨ d.number ≠ p.campaign.nextBlock ∨ !c.members.contains d.parcel then s
    else if code = OC_OK then
      let n := p.campaign.nextBlock + 1
      let s := modHx (fun h => { h with blocks := h.blocks + 1 }) s
      let s := setParcel d.parcel { p with campaign := { p.campaign with nextBlock := n, attempts := 0 } } s
      if blockCount c ≤ n then memberActivating d.parcel c s
      else sendBlock d.parcel c (if n % 64 = 0 then campaignStep d.parcel s else s)
    else if p.campaign.attempts ≤ c.retries then sendBlock d.parcel c s
    else campaignComplete c.number (memberState d.parcel 6 (some code) s)

/-- CAMPAIGN_BLOCK_OUTCOME: the oldest ended campaign downlink is judged (12 R292). -/
def campaignBlockOutcome (s : State) : State := match s.hx.ended with
  | [] => s
  | (d, code) :: l =>
    let s := workServe 1 1 (modHx (fun h => { h with ended := l }) s)
    if d.kind = 1 then blockEnded d code s else s

/-- CAMPAIGN_ACTIVATE_AT: at ACTIVATE_AT the ACTIVATING members are sent the activation (12 R292). -/
def campaignActivateAt (n : Nat) (s : State) : State := match campaignOf s n with
  | none => s
  | some c =>
    if c.activateAt = 0 ∨ c.activated then s
    else
      let s := elapseDev c.activateAt s
      let s := modHx (fun h => { h with campaigns := tabPut h.campaigns n { c with activated := true } }) s
      forEach (inState s c 3) (fun i s => sendOther i 2 c s) s

/-- CAMPAIGN_DEADLINE: at DEADLINE members that are not terminal fail, and the campaign closes (12 R292). -/
def campaignDeadline (n : Nat) (s : State) : State := match campaignOf s n with
  | none => s
  | some c =>
    if !makesEntries s then s
    else
      let s := elapseDev c.deadline s
      campaignClose n 1 0 (forEach (inState s c 1 ++ inState s c 2 ++ inState s c 3) (fun i s => memberState i 6 none s) s)

/-- The event records of a committed entry judge an ACTIVATING member: DONE makes it ACTIVATED, FAIL makes it FAILED (12 Table 12.9). -/
def campaignJudge (i admitAt : Nat) (rs : List Rec) (s : State) : State :=
  let p := parcelOf s i
  match campaignOf s p.campaign.campaign with
  | none => s
  | some c =>
    if p.campaign.ep ≠ 3 ∨ admitAt < p.campaign.stateTime ∨ !c.members.contains i then s
    else
      let ev := rs.filter (fun r => r.kind == 3)
      match ev.find? (fun r => (r.codeKind == c.doneKind && r.code == c.doneCode && r.value == c.doneValue) ||
          (r.codeKind == c.failKind && r.code == c.failCode)) with
      | none => s
      | some r =>
        if r.codeKind = c.doneKind ∧ r.code = c.doneCode ∧ r.value = c.doneValue then
          campaignComplete c.number (memberState i 4 none
            (setParcel i { p with campaign := { p.campaign with lastActivated := c.imageHash / 2 ^ 160 } } s))
        else campaignComplete c.number (memberState i 6 (some OC_FAULT) s)

/-- JOURNAL_COMMIT: a tag commits, and its event records judge the member of a campaign (04 R97, 12 Table 12.9). -/
def commitJudged (asn : Nat) (s : State) : State :=
  let u := journalCommit asn s
  match tagOf s asn with
  | none => u
  | some t => match t.parcel with
    | none => u
    | some i => if t.state = .ready && (tagOf u asn).any (fun x => x.state == .committed) then campaignJudge i t.admitAt t.records u else u

/-- A retired endpoint leaves its campaign (03 R75, 12 Table 12.9). -/
def campaignRetire (i : Nat) (s : State) : State :=
  let p := parcelOf s i
  if (campaignOf s p.campaign.campaign).isSome && !epTerminal p.campaign.ep && p.inCampaign then
    campaignComplete p.campaign.campaign (memberState i 8 none s)
  else s

/-- After a restart, transfers resume from their last committed NEXT_BLOCK (12 R292). -/
def campaignsResume (s : State) : State :=
  forEach s.hx.campaigns (fun e s => forEach (inState s e.2 2) (fun i s => sendBlock i e.2 s) s) s

end Sys2Proof.Machine
end

