-- ==== Sys2Proof/Machine/LineCode.lean ====
section
/-! DEFINITION. The DDR5 line code: the field, the generator polynomial, the place of every bit of a burst, syndromes and the decoder with
erasures (18 R400 to R405). -/

namespace Sys2Proof.Machine

/-! ### GF(2^8) over x^8 + x^4 + x^3 + x^2 + 1 (18 R400) -/

/-- Product with α = 0x02. -/
def gfTwice (a : Nat) : Nat := if a < 128 then 2 * a else (2 * a) ^^^ 0x11D

/-- Product of two elements, bit by bit of the second from its highest. -/
def gfMul (a b : Nat) : Nat :=
  [7, 6, 5, 4, 3, 2, 1, 0].foldl (fun acc i => gfTwice acc ^^^ (if b.testBit i then a else 0)) 0

/-- α^n. -/
def gfAlpha : Nat → Nat
  | 0 => 1
  | n + 1 => gfTwice (gfAlpha n)

/-- The inverse of a non-zero element, a^254. -/
def gfInv (a : Nat) : Nat :=
  let a2 := gfMul a a
  let a4 := gfMul a2 a2
  let a8 := gfMul a4 a4
  let a16 := gfMul a8 a8
  let a32 := gfMul a16 a16
  let a64 := gfMul a32 a32
  gfMul (gfMul (gfMul (gfMul a2 a4) (gfMul a8 a16)) (gfMul a32 a64)) (gfMul a64 a64)

/-! ### Polynomials, lowest coefficient first -/

/-- Sum of two polynomials. -/
def polyAdd : List Nat → List Nat → List Nat
  | a :: as, b :: bs => (a ^^^ b) :: polyAdd as bs
  | as, [] => as
  | [], bs => bs

/-- Product of two polynomials. -/
def polyMul : List Nat → List Nat → List Nat
  | [], _ => []
  | a :: as, bs => polyAdd (bs.map (gfMul a)) (0 :: polyMul as bs)

/-- Value at a point. -/
def polyEval : List Nat → Nat → Nat
  | [], _ => 0
  | a :: as, x => a ^^^ gfMul x (polyEval as x)

/-- The formal derivative: the odd coefficients, one place lower. -/
def polyDeriv : List Nat → List Nat
  | _ :: b :: as => b :: 0 :: polyDeriv as
  | _ => []

/-- The generator polynomial (x - α^0)(x - α^1) ... (x - α^15) (18 R400). -/
def lineGenerator : List Nat := (List.range 16).foldl (fun p i => polyMul p [gfAlpha i, 1]) [1]

/-! ### The code word of a line -/

/-- Place of a symbol in the code polynomial: symbols 0 to 79 of R401 descend from x^79, so the check symbols 64 to 79 hold the remainder, and
the four address symbols 80 to 83 stand above them (log 126). -/
def symbolDegree (k : Nat) : Nat := if k < 80 then 79 - k else k

/-- The four address symbols of a line: bits [37:6] of its address, which are its number, lowest byte first (18 R400; log 126). -/
def addressSymbols (line : Nat) : List Nat := (List.range 4).map (fun j => line / 256 ^ j % 256)

/-- One step of the division by the generator: the remainder after one more symbol, highest coefficient first. -/
def lineDivide (r : List Nat) (x : Nat) : List Nat :=
  let q := x ^^^ r.headD 0
  polyAdd (r.drop 1 ++ [0]) ((lineGenerator.take 16).reverse.map (gfMul q))

/-- The 16 check symbols of a line's 64 data symbols at its address (18 R400). -/
def lineCheckSymbols (line : Nat) (data : List Nat) : List Nat :=
  ((addressSymbols line).reverse ++ data).foldl lineDivide (List.replicate 16 0)

/-- Symbol and bit within it of bit `i` of the 40 in beat `b`: pin `i % 4` of device `i / 4` (18 R401). -/
def burstBit (b i : Nat) : Nat × Nat :=
  let n := 64 * (i / 4) + 4 * b + i % 4
  (n / 8, n % 8)

/-- The device of a symbol: devices 0 to 7 hold the data and 8 and 9 the check symbols (18 R401). -/
def symbolDevice (k : Nat) : Nat := k / 8

/-! ### What a read differs by -/

/-- A pattern of symbol errors: each symbol with its error value. -/
abbrev SymbolErrors := List (Nat × Nat)

/-- Add an error value to one symbol. -/
def errorAdd (k v : Nat) : SymbolErrors → SymbolErrors
  | [] => if v = 0 then [] else [(k, v)]
  | e :: es => if e.1 = k then (if e.2 ^^^ v = 0 then es else (k, e.2 ^^^ v) :: es) else e :: errorAdd k v es

/-- The symbol errors of bits flipped in a burst, each a beat and a bit of its 40 (18 R401). -/
def burstErrors (flips : List (Nat × Nat)) : SymbolErrors :=
  (flips.filter (fun f => decide (f.1 < 16 ∧ f.2 < 40))).foldl (fun es f => errorAdd (burstBit f.1 f.2).1 (2 ^ (burstBit f.1 f.2).2) es) []

/-- The pattern of a poisoned line: 0xA5 in each of the 16 check symbols (18 R405). -/
def poisonErrors : SymbolErrors := (List.range 16).map (fun k => (64 + k, 0xA5))

/-- The errors of the address symbols when the content of another line answers (18 R402). -/
def addressErrors (line other : Nat) : SymbolErrors :=
  (List.zipWith (· ^^^ ·) (addressSymbols line) (addressSymbols other)).zipIdx.foldl (fun es e => errorAdd (80 + e.2) e.1 es) []

/-- `n` values of a geometric sequence. -/
def gfPowers (x : Nat) : Nat → Nat → List Nat
  | 0, _ => []
  | n + 1, v => v :: gfPowers x n (gfMul v x)

/-- The 16 syndromes of a pattern, its value at α^0 to α^15 (18 R400). A code word adds nothing to them, so those of a read are those of what
it differs by. -/
def syndromes (es : SymbolErrors) : List Nat :=
  es.foldl (fun acc e => polyAdd acc (gfPowers (gfAlpha (symbolDegree e.1)) 16 e.2)) (List.replicate 16 0)

/-! ### The decoder (18 R402, R404) -/

/-- The state of the search for the shortest locator. -/
structure LocatorSearch where
  locator : List Nat := [1]
  before : List Nat := [1]
  length : Nat := 0
  shift : Nat := 1
  last : Nat := 1

/-- One syndrome more: the locator is mended where it does not give it. -/
def locatorStep (t : List Nat) (n : Nat) (q : LocatorSearch) : LocatorSearch :=
  let d := (List.range (q.length + 1)).foldl (fun acc i => acc ^^^ gfMul (q.locator.getD i 0) (t.getD (n - i) 0)) 0
  if d = 0 then { q with shift := q.shift + 1 }
  else
    let c := polyAdd q.locator (List.replicate q.shift 0 ++ q.before.map (gfMul (gfMul d (gfInv q.last))))
    if 2 * q.length ≤ n then { locator := c, before := q.locator, length := n + 1 - q.length, shift := 1, last := d }
    else { q with locator := c, shift := q.shift + 1 }

/-- The shortest locator of a list of syndromes. -/
def findLocator (t : List Nat) : LocatorSearch :=
  (List.range t.length).foldl (fun q n => locatorStep t n q) {}

/-- The locator of a set of symbols. -/
def locatorOf (ks : List Nat) : List Nat := ks.foldl (fun p k => polyMul p [1, gfAlpha (symbolDegree k)]) [1]

/-- Decode: the errors of a pattern with these syndromes that has at most (16 - n) / 2 symbols outside the `n` erased ones; none where no such
pattern is found. Errors found in the address symbols mean another line's content, which is detected and not corrected (18 R402). -/
def lineDecode (erased : List Nat) (syn : List Nat) : Option SymbolErrors :=
  let g := locatorOf erased
  let q := findLocator (((polyMul g syn).take 16).drop erased.length)
  let psi := polyMul q.locator g
  let omega := (polyMul syn psi).take 16
  let at_ (k : Nat) : Option (Nat × Nat) :=
    let x := gfAlpha (symbolDegree k)
    if polyEval psi (gfInv x) = 0 then
      let v := gfMul x (gfMul (polyEval omega (gfInv x)) (gfInv (polyEval (polyDeriv psi) (gfInv x))))
      if v = 0 then none else some (k, v)
    else none
  let es := (List.range 84).filterMap at_
  let free := es.filter (fun e => !erased.contains e.1)
  if 2 * free.length + erased.length ≤ 16 ∧ syndromes es = syn ∧ es.all (fun e => decide (e.1 < 80)) then some es else none

/-- What the decoder makes of a read (18 R402 to R405). -/
inductive LineVerdict
  | clean
  /-- the devices whose symbols were corrected, with how many -/
  | corrected (devices : List (Nat × Nat))
  /-- the pattern of a poisoned line -/
  | poisoned
  | uncorrectable
deriving DecidableEq, Repr

/-- The devices of corrected symbols, with how many of each. -/
def correctedDevices (es : SymbolErrors) : List (Nat × Nat) :=
  (List.range 10).filterMap (fun k =>
    let n := (es.filter (fun e => symbolDevice e.1 == k)).length
    if n = 0 then none else some (k, n))

/-- The verdict on a read that differs by a pattern from its line's code word, with the device marked in its rank (18 R402 to R405). -/
def lineVerdict (marked : Option Nat) (es : SymbolErrors) : LineVerdict :=
  if es.isEmpty then .clean
  else
    let syn := syndromes es
    if syn.all (· == 0) then .clean
    else if syn == syndromes poisonErrors then .poisoned
    else
      let erased := match marked with
        | some k => (List.range 8).map (8 * k + ·)
        | none => []
      match lineDecode erased syn with
      | some d => .corrected (correctedDevices d)
      | none => .uncorrectable

end Sys2Proof.Machine
end

