-- ==== Sys2Proof/Machine/FieldBooks.lean ====
section
/-! DEFINITION. Reading and freezing the field books, operating hours, and the patrol scrubber (chapter 18). -/

namespace Sys2Proof.Machine

/-! ### The window (18 R416, R417) -/

/-- Block numbers of the register map (01 Table 1.12). -/
def blockExists (b : Nat) : Bool :=
  decide (b ≤ 14) || b == 16 || b == 17 || decide (0x20 ≤ b ∧ b ≤ 0x25) || decide (0x30 ≤ b ∧ b ≤ 0x37) || b == 0x40

/-- Records of the selected book with their cursor values: SEQ for the device book, index for a block book. -/
def fbBook (s : State) : List (Nat × FbRec) :=
  if s.fb.select = 0xFFFF then ringBook s.fb
  else
    let b := tabGet s.fb.blocks s.fb.select.toNat {}
    let l := b.closed ++ (match b.opened with
      | some (r, _) => [r]
      | none => [])
    (l.drop (l.length - 32)).zipIdx.map (fun e => (e.2, e.1))

/-- Oldest cursor value present. -/
def fbOldest (s : State) : Nat := ((fbBook s).head?.map (·.1)).getD 0

/-- Newest cursor value present. -/
def fbNewest (s : State) : Nat := ((fbBook s).getLast?.map (·.1)).getD 0

/-- A cursor on an overwritten record moves to the oldest, and CURSOR_LOST is set (18 R416). -/
def fbFix (s : State) : State := { s with fb := cursorKept s.fb }

/-- Is the cursor beyond the newest record (18 R416)? -/
def fbAtEnd (s : State) : Bool := (fbBook s).isEmpty || decide (fbNewest s < s.fb.cursor)

/-- Words shown in FB_WINDOW: the record at the cursor, zeros after its end (18 R416). -/
def fbWindow (s : State) : List U32 :=
  match (fbBook s).find? (fun e => e.1 == s.fb.cursor) with
  | some (q, r) => if s.fb.select = 0xFFFF then fbDevWords q r else fbWords r
  | none => []

/-- FB_STATUS (18 Table 18.6). -/
def fbStatus (s : State) : U32 :=
  let held := match s.fb.freeze with
    | some z => z.held.length
    | none => 0
  let ms := match s.fb.freeze with
    | some z => (z.since + 1000000000 - s.mono + 999999) / 1000000
    | none => 0
  bitAt s.fb.freeze.isSome 31 ||| bitAt s.fb.cursorLost 30 ||| bitAt (fbAtEnd s) 29 ||| fieldAt held 16 ||| fieldAt (satTo 1000 ms) 0

/-- A write of FB_SELECT (18 Table 18.5). -/
def fbSelectWrite (v : U32) (s : State) : State × U16 :=
  if v.toNat ≥ 65536 then (s, OC_RESERVED_SET)
  else if v = 0xFFFF ∨ blockExists v.toNat then
    (fbFix { s with fb := { s.fb with select := v.setWidth 16, cursorLost := false } }, OC_OK)
  else (s, OC_RANGE)

/-- A write of FB_CURSOR_LO: the cursor moves, together with FB_CURSOR_HI as written (18 Table 18.5). -/
def fbCursorWrite (v : U32) (s : State) : State :=
  fbFix { s with fb := { s.fb with cursor := v.toNat + 4294967296 * s.fb.cursorHiW.toNat, cursorLost := false } }

/-- NEXT: the cursor moves to the next record present; beyond the newest it stands one past it (18 R416). -/
def fbNext (s : State) : State :=
  let c := s.fb.cursor
  let s := { s with fb := { s.fb with cursorLost := false } }
  match (fbBook s).find? (fun e => decide (c < e.1)) with
  | some (q, _) => fbFix { s with fb := { s.fb with cursor := q } }
  | none => { s with fb := { s.fb with cursor := max c (fbNewest s) + (if fbAtEnd s then 0 else 1) } }

/-- SEEK_OLDEST (18 R416). -/
def fbSeekOldest (s : State) : State := { s with fb := { s.fb with cursor := fbOldest s, cursorLost := false } }

/-- FREEZE by a requester (18 R417). -/
def fbFreeze (who : U32) (s : State) : State × U16 :=
  match s.fb.freeze with
  | some z => if z.owner = who then (s, OC_OK) else (s, OC_FB_FROZEN)
  | none => ({ s with fb := { s.fb with freeze := some { owner := who, since := s.mono }, cursorLost := false } }, OC_OK)

/-- THAW by a requester (18 R417). -/
def fbThawBy (who : U32) (s : State) : State × U16 :=
  match s.fb.freeze with
  | some z => if z.owner = who then (fbThaw { s with fb := { s.fb with cursorLost := false } }, OC_OK) else (s, OC_FB_FROZEN)
  | none => (s, OC_OK)

/-- A write of FB_CMD (18 Table 18.5). -/
def fbCommand (who : U32) (v : U32) (s : State) : State × U16 :=
  if v.toNat ≥ 16 then (s, OC_RESERVED_SET)
  else if v = 0 then (s, OC_OK)
  else if v = 1 then (fbNext s, OC_OK)
  else if v = 2 then fbFreeze who s
  else if v = 4 then fbThawBy who s
  else if v = 8 then (fbSeekOldest s, OC_OK)
  else (s, OC_RANGE)

/-- FB_FREEZE_EXPIRY: 1 s after FREEZE the freeze ends (18 R417). -/
def fbFreezeExpiry (s : State) : State :=
  match s.fb.freeze with
  | some z => fbThaw (elapseTo (z.since + 1000000000) s)
  | none => s

/-- FB_RECORD_CLOSE: the open record of a block closes 1 s after its first occurrence (18 R413, R414). -/
def fbRecordClose (block : Nat) (s : State) : State :=
  match (tabGet s.fb.blocks block {}).opened with
  | some (_, t) => fbClose block (elapseTo (t + 1000000000) s)
  | none => s

/-- HOURS_TICK: every 225 s of the keeper's clock (18 R412). -/
def hoursTick (s : State) : State :=
  let s := elapseTo (s.fb.hoursAt + 225000000000) s
  { s with fb := { s.fb with hours := (s.fb.hours + 1) % 4294967296, hoursAt := s.mono } }

/-- FB_SECTION_SAVE at a boundary: a record of class 0x5 or 0x8 is unsaved (18 R415). -/
def fbBoundarySave (s : State) : State :=
  let all := if s.fb.ringUp then s.fb.ring else s.fb.buffer
  if all.any (fun e => decide (s.fb.savedSeq < e.1) && (ocIsSecurity e.2.code || ocIsFault e.2.code)) then fbSave s else s

/-! ### DRAM lines and the patrol scrubber (18 R402 to R409) -/

/-- Lines of installed DRAM. -/
def dramLines (s : State) : Nat := s.ecc.dramGib * 16777216

/-- The number of a DRAM device: subchannel, rank, device. -/
def devNo (sub rank dev : Nat) : Nat := sub * 256 + rank * 16 + dev

/-- DEVICE_MARK: a device whose symbols were corrected in DEV_MARK_LINES distinct lines within 24 h is marked, one per
rank; a second one is recorded as it reaches the threshold, with `before` lines until now (18 R404). -/
def markDevice (before sub rank dev : Nat) (s : State) : State :=
  let k := devNo sub rank dev
  let d := tabGet s.ecc.devs k {}
  let lim := cadNum s 0x0920 2
  if d.marked ∨ d.lines.length < lim then s
  else
    let taken := s.ecc.devs.any (fun e => e.1 / 16 == k / 16 && e.2.marked)
    if taken then (if before < lim then record 14 OC_DRAM_SECOND_DEVICE [u32 k] s else s)
    else
      let s := { s with ecc := { s.ecc with devs := tabPut s.ecc.devs k { d with marked := true } } }
      retireResource (1000 + k) (record 14 OC_DRAM_DEVICE_MARKED [u32 k] s)

/-- DRAM_CORRECTION of one device's symbols in a line (18 R403, R404). -/
def correctDevice (line rank : Nat) (e : Nat × Nat) (s : State) : State :=
  let k := devNo (lineSub line) rank e.1
  let day := 86400000000000
  let before := (tabGet s.ecc.devs k {}).lines.length
  let s := { s with ecc := { s.ecc with devs := tabMod s.ecc.devs k {} (fun d =>
    let l := d.lines.filter (fun x => decide (s.mono < x.2 + day) && x.1 != line)
    { d with symbols := satTo 16777215 (d.symbols + e.2), lines := l ++ [(line, s.mono)] }) } }
  markDevice before (lineSub line) rank e.1 s

/-- A staged frame whose line is poisoned is discarded unaccepted (18 Table 18.1). -/
def stagedDiscard (n : Nat) (s : State) : State :=
  let bytes := match s.trav.staged[n]? with
    | some t => (t.arr.length + 63) / 64 * 64 + 64
    | none => 0
  { s with trav := { s.trav with staged := s.trav.staged.eraseIdx n, stagedBytes := s.trav.stagedBytes - bytes } }

/-- A poisoned line by area (18 R406, Table 18.1; the free list is log 126's). -/
def poisonedArea (line : Nat) (x : LineRead) (s : State) : State :=
  let pl := [lo32 line, hi32 line]
  match areaOf s line with
  | .parcel i => containError 3 (.parcel i) OC_DRAM_UNCORRECTABLE pl s
  | .directory b => containError 3 (.op 16 b) OC_DRAM_UNCORRECTABLE pl (rebuildBegin b s)
  | .freeList => containError 3 (.block 16) OC_DRAM_UNCORRECTABLE pl s
  | .staging => stagedDiscard x.frame (containError 2 (.op 16 0) OC_DRAM_UNCORRECTABLE pl s)
  | .journalPage => if x.inReserve then record 14 OC_DRAM_UNCORRECTABLE pl s else c4Fault 14 OC_DRAM_UNCORRECTABLE pl s
  | .sheetBuild => containError 2 (.op 16 1) OC_DRAM_UNCORRECTABLE pl s
  | .steelyard => containError 3 (.block 17) OC_DRAM_UNCORRECTABLE pl s
  | .firmware => if x.reloadable then containError 3 (.block 0) OC_DRAM_UNCORRECTABLE pl s else c4Fault 14 OC_DRAM_UNCORRECTABLE pl s
  | .companion => record 14 OC_DRAM_UNCORRECTABLE pl s
  | .readCache => containError 2 (.op 13 0) OC_DRAM_UNCORRECTABLE pl s

/-- The device marked in a rank of a line's subchannel (18 R404). -/
def markedDevice (s : State) (line rank : Nat) : Option Nat :=
  (s.ecc.devs.find? (fun e => e.1 / 16 == devNo (lineSub line) rank 0 / 16 && e.2.marked)).map (·.1 % 16)

/-- How a read differs from a code word of its line: the flipped bits, the pattern of a poisoned line, and the address symbols where another
line's content answered (18 R400 to R405). -/
def readErrors (s : State) (line : Nat) (x : LineRead) : SymbolErrors :=
  let src := x.other.getD line
  let es := burstErrors x.flips
  let es := if s.ecc.poisoned.contains src then poisonErrors.foldl (fun es e => errorAdd e.1 e.2 es) es else es
  (addressErrors line src).foldl (fun es e => errorAdd e.1 e.2 es) es

/-- A read of DRAM line `line` by the patrol or by a requester (18 R402 to R407): corrected and written back, a C1 event; recognised as
poisoned; or beyond correction, and written back as poisoned. -/
def lineRead (line : Nat) (x : LineRead) (s : State) : State :=
  let sub := lineSub line
  match lineVerdict (markedDevice s line x.rank) (readErrors s line x) with
  | .clean => s
  | .poisoned => { s with ecc := { s.ecc with poisonReads := s.ecc.poisonReads + 1 } }
  | .corrected ds =>
    let s := containC1 { s with ecc := { s.ecc with ceLines := tabMod s.ecc.ceLines sub 0 (· + 1),
                                                    poisoned := s.ecc.poisoned.filter (· != line) } }
    forEach ds (correctDevice line x.rank) s
  | .uncorrectable =>
    poisonedArea line x { s with ecc := { s.ecc with ue := tabMod s.ecc.ue sub 0 (· + 1),
                                                     poisoned := s.ecc.poisoned.filter (· != line) ++ [line] } }

/-- PATROL_SCRUB_READ: the next line in ascending order; a pass over all lines ends and the next begins (18 R407). -/
def scrubRead (x : LineRead) (s : State) : State :=
  if s.ecc.scrubPaused then s
  else
    let s := if s.ecc.scrubbing then s else { s with ecc := { s.ecc with scrubbing := true, scrubAt := s.mono, scrubLine := 0, late := false } }
    let s := lineRead s.ecc.scrubLine x s
    if s.ecc.scrubLine + 1 < dramLines s then { s with ecc := { s.ecc with scrubLine := s.ecc.scrubLine + 1 } }
    else { s with ecc := { s.ecc with scrubLine := 0, passes := s.ecc.passes + 1, late := false,
                                      lastS := u32 ((s.mono - s.ecc.scrubAt) / 1000000000), scrubAt := s.mono } }

/-- SCRUB_LATE: the pass has not completed within 2 x SCRUB_HOURS; it goes on (18 R407). -/
def scrubLate (s : State) : State :=
  if s.ecc.scrubbing ∧ !s.ecc.late then
    let s := elapseTo (s.ecc.scrubAt + 2 * cadNum s 0x0920 0 * 3600000000000) s
    record 14 OC_SCRUB_LATE [u32 s.ecc.scrubLine] { s with ecc := { s.ecc with late := true } }
  else s

/-- A corrected word of on-chip SRAM: a C1 event, and OC_SRAM_HARD_CE at the third correction within one hour (18 R409). -/
def sramCorrected (bank word : Nat) (s : State) : State :=
  let k := bank * 131072 + word
  let e := tabGet s.ecc.sramHard k ([], false)
  let l := e.1.filter (fun t => decide (s.mono < t + 3600000000000)) ++ [s.mono]
  let hard := decide (3 ≤ l.length) && !e.2
  let s := containC1 { s with ecc := { s.ecc with sramCe := tabMod s.ecc.sramCe bank 0 (· + 1),
                                                  sramHard := tabPut s.ecc.sramHard k (l, e.2 || hard) } }
  if hard then record 14 OC_SRAM_HARD_CE [u32 bank, u32 word] s else s

/-- The number of the C2 operation that reads a head again; those below name directory buckets. -/
def headOp (i : Nat) : Nat := 4294967296 + i

/-- An uncorrectable error in the cached head of a parcel (03 R79): C3 for a dirty one; a clean one is discarded, to be read again from DRAM. -/
def headError (i word : Nat) (h : HeadLine) (s : State) : State :=
  if h.dirty then containError 3 (.parcel i) OC_SRAM_UNCORRECTABLE [u32 word] s
  else containError 2 (.op 16 (headOp i)) OC_SRAM_UNCORRECTABLE [u32 word]
    { s with store := { s.store with heads := s.store.heads.filter (fun x => x.index != i) } }

/-- The C2 operation of a discarded head repeats: tags that still hold the head get it from DRAM (03 R79). -/
def headReread (sc : Scope) (s : State) : State := match sc with
  | .op 16 n =>
    let i := n - headOp 0
    if n < headOp 0 ∨ headHolders s i = 0 ∨ s.store.heads.any (fun h => h.index == i) then s
    else headInstall { identity := (parcelOf s i).identity, index := i, place := .bypass, pins := headHolders s i } s
  | _ => s

/-- The number of the C2 operation that repeats a tag. -/
def tagOp (asn : Nat) : Nat := 1099511627776 + asn

/-- An uncorrectable word of on-chip SRAM, contained by what holds it (18 R409); a cached head by its dirty bit (03 R79). -/
def sramUncorrectable (holder : SramHolder) (word : Nat) (s : State) : State :=
  let s := { s with ecc := { s.ecc with sramUe := s.ecc.sramUe + 1 } }
  match holder with
  | .head i => match s.store.heads.find? (fun h => h.index == i) with
    | some h => headError i word h s
    | none => containError 3 (.parcel i) OC_SRAM_UNCORRECTABLE [u32 word] s
  | .tag a => containError 2 (.op 16 (tagOp a)) OC_SRAM_UNCORRECTABLE [u32 word] s
  | .ring (some a) => containError 2 (.op 16 (tagOp a)) OC_SRAM_UNCORRECTABLE [u32 word] s
  | .ring none => c4Fault 16 OC_SRAM_UNCORRECTABLE [u32 word] s
  | .other b => containError 3 (.block b) OC_SRAM_UNCORRECTABLE [u32 word] s

/-- How many bits of a word fail where cells of its row do: the columns of a row are interleaved over its 16 words (18 R408). -/
def wordErrors (word : Nat) (cells : List Nat) : Nat := ((List.range 72).filter (fun b => cells.contains (16 * b + word % 16))).length

/-- A read of a word of on-chip SRAM under its (72,64) code: one bit in error is corrected, two are detected, and more count as detected, of which
18 R408 guarantees nothing (log 132). -/
def sramRead (bank word : Nat) (cells : List Nat) (holder : SramHolder) (s : State) : State :=
  if wordErrors word cells = 0 then s
  else if wordErrors word cells = 1 then sramCorrected bank word s
  else sramUncorrectable holder word s

end Sys2Proof.Machine
end

