-- ==== Sys2Proof/Machine/Companion.lean ====
section
/-! DEFINITION. The companion port: mailbox channels, word queues and DMA (chapter 17). Channels 0 to 31 are those of the
non-secure block, 32 to 39 those of the secure block. -/

namespace Sys2Proof.Machine

/-! ### Mailbox channels (17 R381 to R387) -/

/-- A channel's record. -/
def chOf (s : State) (c : Nat) : Channel := tabGet s.mbox.ch c {}

/-- Replace a channel's record. -/
def setCh (c : Nat) (x : Channel) (s : State) : State := { s with mbox := { s.mbox with ch := tabPut s.mbox.ch c x } }

/-- Is the channel of the secure class (17 Table 17.3)? -/
def chSecure (c : Nat) : Bool := decide (32 ≤ c)

/-- Is the channel outbound (17 Table 17.3)? -/
def chOutbound (c : Nat) : Bool := decide (16 ≤ c ∧ c ≤ 31) || decide (36 ≤ c)

/-- Block number of a channel. -/
def chBlock (c : Nat) : Nat := if chSecure c then 5 else 4

/-- Companion function bound to a channel's class. -/
def chFn (c : Nat) : Nat := if chSecure c then 1 else 0

/-- May this requester send on the channel (17 R381)? Inbound: a companion function; outbound: the device-side party. -/
def maySend (r : Requester) (c : Nat) : Bool :=
  if chOutbound c then (if chSecure c then r == .warden else r == .firmware) else companionReq r

/-- May this requester take from the channel (17 R381)? -/
def mayTake (r : Requester) (c : Nat) : Bool :=
  if chOutbound c then companionReq r else (if chSecure c then r == .warden else r == .firmware)

/-- Reset count of a sender at posting (17 R380, R382). -/
def resetCount (r : Requester) (s : State) : U8 := match r with
  | .fn0 _ => s.mbox.fn0Resets
  | .fn1 _ => s.mbox.fn1Resets
  | _ => s.mbox.warmResets

/-- Does the channel hold a message in POSTED or TAKEN? -/
def chHolds (x : Channel) : Bool := x.state == .posted || x.state == .taken

/-- Does a class hold messages in both directions (17 R384)? -/
def classCrossing (secure : Bool) (s : State) : Bool :=
  s.mbox.ch.any (fun e => chSecure e.1 == secure && chOutbound e.1 && chHolds e.2) &&
  s.mbox.ch.any (fun e => chSecure e.1 == secure && !chOutbound e.1 && chHolds e.2)

/-- CROSSING of one class brought up to date; each setting is counted and raises vector 2 (17 R384). -/
def crossingClass (secure : Bool) (s : State) : State :=
  let k := if secure then 1 else 0
  let was := s.mbox.crossing.getLsbD k
  let now := classCrossing secure s
  let bits := if now then s.mbox.crossing ||| (1#2 <<< k) else s.mbox.crossing &&& ~~~(1#2 <<< k)
  let s := { s with mbox := { s.mbox with crossing := bits } }
  if now && !was then msix k 2 { s with mbox := { s.mbox with crossings := tabMod s.mbox.crossings k 0 (· + 1) } } else s

/-- CROSSING of both classes. -/
def crossingUpdate (s : State) : State := crossingClass true (crossingClass false s)

/-- CROSSING of one channel (17 R384). -/
def chCrossing (s : State) (c : Nat) : Bool := chHolds (chOf s c) && s.mbox.crossing.getLsbD (chFn c)

/-- Post a message on an outbound channel for the device-side party (17 R383, R388). -/
def postOut (c : Nat) (msg : Tab U32) (s : State) : State :=
  let r : Requester := if chSecure c then .warden else .firmware
  let s := setCh c { state := .posted, owner := stampOf r, stamp := stampOf r, stampRc := s.mbox.warmResets, msg := msg,
                     postedAt := s.mono } s
  crossingUpdate (msix (chFn c) 0 s)

/-- The lowest free outbound channel of a class. -/
def freeOut (secure : Bool) (s : State) : Option Nat :=
  (if secure then [36, 37, 38, 39] else (List.range 16).map (· + 16)).find? (fun c => (chOf s c).state == .empty)

/-- Post a response, or let it wait for a free channel (17 R388, R390). -/
def postResponse (secure : Bool) (msg : Tab U32) (s : State) : State := match freeOut secure s with
  | some c => postOut c msg s
  | none => { s with mbox := { s.mbox with waiting := s.mbox.waiting ++ [{ secure := secure, msg := msg, since := s.mono }] } }

/-- A channel has become free: the oldest waiting response of its class is posted (17 R390). -/
def postWaiting (secure : Bool) (s : State) : State :=
  match s.mbox.waiting.find? (fun w => w.secure == secure), freeOut secure s with
  | some w, some c => postOut c w.msg { s with mbox := { s.mbox with waiting := s.mbox.waiting.erase w } }
  | _, _ => s

/-- A read of CH_LOCK (17 R383): the word returned, and the lock taken where the channel is EMPTY. Against the direction the read is answered
OC_CMP_DIRECTION and takes nothing; as every read it leaves LAST_OUTCOME as it is (00 R10, log 92). -/
def chLockRead (r : Requester) (c : Nat) (s : State) : State × U32 :=
  let x := chOf s c
  if !maySend r c then (emit (.outcome OC_CMP_DIRECTION) s, 0x80000000 ||| x.owner)
  else if x.state = .empty then (setCh c { state := .locked, owner := stampOf r } s, 0)
  else (s, 0x80000000 ||| x.owner)

/-- A write of CH_MSG (17 R383). -/
def chMsgWrite (r : Requester) (c i : Nat) (v : U32) (s : State) : State × U16 :=
  let x := chOf s c
  if x.state = .empty ∨ x.owner ≠ stampOf r then (s, OC_CMP_NOT_OWNER)
  else if x.state ≠ .locked then (s, OC_CMP_STATE)
  else (setCh c { x with msg := tabPut x.msg i v } s, OC_OK)

/-- A write of CH_DOORBELL (17 R383). -/
def chPost (r : Requester) (c : Nat) (v : U32) (s : State) : State × U16 :=
  let x := chOf s c
  if v.toNat ≥ 2 then (s, OC_RESERVED_SET)
  else if v = 0 then (s, OC_OK)
  else if !maySend r c then (s, OC_CMP_DIRECTION)
  else if x.state = .empty ∨ x.owner ≠ stampOf r then (s, OC_CMP_NOT_OWNER)
  else if x.state ≠ .locked then (s, OC_CMP_STATE)
  else
    let s := setCh c { x with state := .posted, stamp := stampOf r, stampRc := resetCount r s, postedAt := s.mono } s
    (crossingUpdate (if chOutbound c then msix (chFn c) 0 s else s), OC_OK)

/-- A read of CH_STAMP (17 R383): the receiving side takes a posted message. -/
def chTake (r : Requester) (c : Nat) (s : State) : State × U32 :=
  let x := chOf s c
  if !mayTake r c then (s, 0)
  else if x.state = .posted then (setCh c { x with state := .taken } s, x.stamp)
  else if x.state = .taken then (s, x.stamp)
  else (s, 0)

/-- A channel reaches ACKED with a code; a channel whose owner is stale releases itself (17 R383, R387). -/
def chAcked (c : Nat) (code : U16) (s : State) : State :=
  let x := chOf s c
  let x := { x with ack := code, state := if x.lockStale then .empty else .acked, owner := if x.lockStale then 0 else x.owner,
                    senderStale := x.senderStale && !x.lockStale, lockStale := false }
  let s := setCh c x s
  crossingUpdate (if chOutbound c then s else msix (chFn c) 1 s)

/-- The device-side party acknowledges a message it has taken, where the channel still holds it (17 R386, R387). -/
def mboxAck (c : Nat) (code : U16) (s : State) : State :=
  if (chOf s c).state = .taken then chAcked c code (recordRefusal (if chSecure c then 5 else 4) code [u32 c] s) else s

/-- A write of CH_ACK (17 R383). -/
def chAckWrite (r : Requester) (c : Nat) (v : U32) (s : State) : State × U16 :=
  let x := chOf s c
  if v.toNat ≥ 65536 then (s, OC_RESERVED_SET)
  else if !mayTake r c then (s, OC_CMP_NOT_OWNER)
  else if x.state ≠ .taken then (s, OC_CMP_STATE)
  else (postWaiting (chSecure c) (chAcked c (v.setWidth 16) s), OC_OK)

/-- A write of CH_RELEASE (17 R383). -/
def chRelease (r : Requester) (c : Nat) (v : U32) (s : State) : State × U16 :=
  let x := chOf s c
  if v.toNat ≥ 2 then (s, OC_RESERVED_SET)
  else if v = 0 then (s, OC_OK)
  else if x.state = .empty ∨ x.owner ≠ stampOf r then (s, OC_CMP_NOT_OWNER)
  else if chHolds x then (s, OC_CMP_STATE)
  else (postWaiting (chSecure c) (setCh c { x with state := .empty, owner := 0, senderStale := false, lockStale := false } s), OC_OK)

/-- The device-side party of an outbound channel reads its acknowledgement and releases (17 R384 step 3, R388). -/
def chReleaseOwn (c : Nat) (s : State) : State :=
  let x := chOf s c
  if chOutbound c && x.state == .acked then setCh c { x with state := .empty, owner := 0 } s else s

/-- The receiving party of one channel was reset (17 R386). -/
def chReceiverReset (c : Nat) (s : State) : State :=
  if chHolds (chOf s c) then chAcked c OC_RECEIVER_RESET s else s

/-- The sending party of one channel was reset (17 R387). -/
def chSenderReset (c : Nat) (s : State) : State :=
  let x := chOf s c
  match x.state with
  | .empty => s
  | .locked => setCh c { x with state := .empty, owner := 0, msg := [] } s
  | .acked => setCh c { x with state := .empty, owner := 0 } s
  | _ => setCh c { x with senderStale := true, lockStale := true } s

/-- Does this stamp belong to the companion function `f`? -/
def stampFn (st : U32) (f : Nat) : Bool := !st.getLsbD 16 && (st.getLsbD 17 == (f == 1))

/-- Companion function `f` was reset: as receiver of its class's outbound channels and as sender (17 R386, R387). -/
def fnReset (f : Nat) (s : State) : State :=
  let s := { s with mbox := { s.mbox with fn0Resets := if f = 0 then s.mbox.fn0Resets + 1 else s.mbox.fn0Resets,
                                          fn1Resets := if f = 1 then s.mbox.fn1Resets + 1 else s.mbox.fn1Resets } }
  let cs := List.range 40
  let s := forEach (cs.filter (fun c => chOutbound c && chFn c == f)) chReceiverReset s
  let s := forEach (cs.filter (fun c => !chOutbound c && stampFn (chOf s c).owner f)) chSenderReset s
  crossingUpdate s

/-- The device itself was warm reset, as sender (17 R387); as receiver it is handled when firmware enables the block. -/
def mboxDeviceReset (s : State) : State :=
  let s := { s with mbox := { s.mbox with warmResets := s.mbox.warmResets + 1, crossings := [], withdrawn := [], waiting := [] } }
  crossingUpdate (forEach ((List.range 40).filter chOutbound) chSenderReset s)

/-- Firmware enables the mailbox blocks after a warm reset (17 R386). -/
def mboxEnable (s : State) : State :=
  forEach ((List.range 40).filter (fun c => !chOutbound c)) chReceiverReset s

/-- MB_SUMMARY of a block (17 Table 17.4). -/
def mbSummary (s : State) (secure : Bool) : U32 :=
  let b := if secure then 32 else 0
  let n := if secure then 4 else 16
  (List.range n).foldl (fun acc k =>
    acc ||| bitAt ((chOf s (b + k)).state == .acked) k ||| bitAt ((chOf s (b + n + k)).state == .posted) (16 + k)) 0

/-- CH_STATUS (17 Table 17.5). -/
def chStatus (s : State) (c : Nat) : U32 :=
  let x := chOf s c
  let st := match x.state with
    | .empty => 0
    | .locked => 1
    | .posted => 2
    | .taken => 3
    | .acked => 4
  fieldAt st 29 ||| bitAt (chCrossing s c) 28 ||| bitAt x.senderStale 27 ||| bitAt x.lockStale 26 ||| bitAt (chOutbound c) 25

/-- MBOX_OUTBOUND_WITHDRAW: an outbound message untaken for 10 s (17 R390). -/
def outboundWithdraw (c : Nat) (s : State) : State :=
  let x := chOf s c
  if chOutbound c && x.state == .posted then
    let s := elapseTo (x.postedAt + 10000000000) s
    let s := setCh c { x with state := .empty, owner := 0 } s
    let s := { s with mbox := { s.mbox with withdrawn := tabMod s.mbox.withdrawn (chFn c) 0 (· + 1) } }
    postWaiting (chSecure c) (crossingUpdate s)
  else s

/-- MBOX_RESPONSE_DROP: the oldest waiting response has found no free channel for 1 s (17 R390). -/
def responseDrop (s : State) : State := match s.mbox.waiting with
  | w :: ws =>
    let s := elapseTo (w.since + 1000000000) s
    { s with mbox := { s.mbox with waiting := ws } }
  | [] => s

/-! ### Word queues (17 R391 to R394) -/

/-- The idle word (17 R391). -/
def idleWord : U32 := 0xDEAD1D1E

/-- May this requester push (17 Table 17.7)? -/
def mayPush (r : Requester) (q : Nat) : Bool := if companionReq r then decide (q < 4) else decide (4 ≤ q ∧ q < 8)

/-- May this requester pop (17 Table 17.7)? -/
def mayPop (r : Requester) (q : Nat) : Bool := if companionReq r then decide (4 ≤ q) else decide (q < 4)

/-- Q_DATA write (17 R391, R393). -/
def queuePush (r : Requester) (q : Nat) (v : U32) (s : State) : State × U16 :=
  let w := tabGet s.queues q {}
  if !mayPush r q then (s, OC_CMP_DIRECTION)
  else if queueDepth q ≤ w.words.length then (s, OC_CMP_QUEUE_FULL)
  else (queueIrq q w.words.length (queueAppend q [(v, false)] s), OC_OK)

/-- Q_DATA read (17 R391, R392). -/
def queuePop (r : Requester) (q : Nat) (e : WordEcc) (s : State) : State × U32 :=
  let w := tabGet s.queues q {}
  if !mayPop r q then (s, idleWord)
  else match w.words with
    | [] => ({ s with queues := tabPut s.queues q { w with emptyLast := true, poisonLast := false } }, idleWord)
    | (v, p) :: ws =>
      let bad := p || (e == .uncorrectable)
      let fix := e == .corrected && decide (q < 8)
      let w := { w with words := ws, emptyLast := false, poisonLast := bad,
                        corrected := if fix then satTo 65535 (w.corrected + 1) else w.corrected,
                        poisoned := if bad then satTo 65535 (w.poisoned + 1) else w.poisoned }
      let s := { s with queues := tabPut s.queues q w }
      let s := if fix then containC1 s else s
      (if bad && decide (q < 8) then record 6 OC_SRAM_UNCORRECTABLE [u32 q] s else s, v)

/-- Words of a capture (17 R394). -/
def captureWords : Capture → List U32
  | .plc a b => [a.setWidth 32 ||| (b.setWidth 32 <<< 16)]
  | .radio rssi ok acked bytes =>
    (fieldAt bytes.length 16 ||| fieldAt rssi.toNat 8 ||| bitAt ok 0 ||| bitAt acked 1) ::
      (List.range ((bytes.length + 3) / 4)).map (fun k => u32 (leNat ((bytes.drop (4 * k)).take 4)))

/-- A stream producer writes one word, or discards it at a full queue (17 R393). -/
def streamWord (q : Nat) (v : U32) (s : State) : State :=
  let w := tabGet s.queues q {}
  if queueDepth q ≤ w.words.length then { s with queues := tabPut s.queues q { w with overflow := w.overflow + 1 } }
  else queueIrq q w.words.length (queueAppend q [(v, false)] s)

/-- STREAM_CAPTURE (17 R394): an enabled producer writes its words. -/
def streamCapture (q : Nat) (c : Capture) (s : State) : State :=
  if (tabGet s.queues q {}).enable && decide (8 ≤ q) then forEach (captureWords c) (streamWord q) s else s

/-- Q_CTRL write (17 Table 17.8). -/
def queueCtrl (q : Nat) (v : U32) (s : State) : State × U16 :=
  if v &&& 0x8000FFFE ≠ 0 then (s, OC_RESERVED_SET)
  else
    let w := tabGet s.queues q {}
    let en := if 8 ≤ q then v.getLsbD 0 else w.enable
    ({ s with queues := tabPut s.queues q { w with enable := en, threshold := field v 30 16 } }, OC_OK)

/-- Q_STATUS (17 Table 17.9). -/
def queueStatus (s : State) (q : Nat) : U32 :=
  let w := tabGet s.queues q {}
  bitAt w.emptyLast 31 ||| bitAt w.poisonLast 30 ||| bitAt (decide (8 ≤ q)) 29 ||| fieldAt w.words.length 0

/-! ### DMA (17 R395 to R399) -/

/-- Bytes of the companion area. -/
def cmpBytes : Nat := 268435456

/-- A DMA channel's record. -/
def dmaOf (s : State) (c : Nat) : DmaChan := tabGet s.dma c {}

/-- Replace a DMA channel's record. -/
def setDma (c : Nat) (x : DmaChan) (s : State) : State := { s with dma := tabPut s.dma c x }

/-- A write of DMA_RING (17 R395, Table 17.11). -/
def dmaRingWrite (c : Nat) (v : U32) (s : State) : State × U16 :=
  let x := dmaOf s c
  if x.run then (s, OC_BUSY)
  else if v.toNat % 64 ≠ 0 ∨ cmpBytes ≤ v.toNat then (s, OC_RANGE)
  else (setDma c { x with ring := v, head := 0, tail := 0 } s, OC_OK)

/-- Is this a permitted ring size (17 Table 17.11)? -/
def ringSizeOk (n : Nat) : Bool := [16, 32, 64, 128, 256, 512, 1024, 2048, 4096].contains n

/-- A write of DMA_RING_SIZE (17 R395, Table 17.11). -/
def dmaSizeWrite (c : Nat) (v : U32) (s : State) : State × U16 :=
  let x := dmaOf s c
  if x.run then (s, OC_BUSY)
  else if !ringSizeOk v.toNat then (s, OC_RANGE)
  else (setDma c { x with size := v, head := 0, tail := 0 } s, OC_OK)

/-- A write of DMA_TAIL (17 R395, Table 17.11). -/
def dmaTailWrite (c : Nat) (v : U32) (s : State) : State × U16 :=
  let x := dmaOf s c
  if x.size.toNat ≤ v.toNat then (s, OC_RANGE) else (setDma c { x with tail := v } s, OC_OK)

/-- DISABLE: all work of the channel is dropped; HEAD and the DONE count are undefined until the ring is written again
(17 R399): free values. -/
def dmaDisable (c : Nat) (s : State) : State :=
  let (h, s) := draw s
  let (d, s) := draw s
  setDma c { dmaOf s c with run := false, head := u32 h, done := u32 d } s

/-- A write of DMA_CTRL (17 R395, R398, R399): DISABLE, or RUN as written. -/
def dmaCtrlWrite (c : Nat) (v : U32) (s : State) : State × U16 :=
  if v.toNat ≥ 4 then (s, OC_RESERVED_SET)
  else if v.getLsbD 1 then (dmaDisable c s, OC_OK)
  else
    let x := dmaOf s c
    (setDma c { x with run := v.getLsbD 0, stopped := x.stopped && !v.getLsbD 0 } s, OC_OK)

/-- DMA_STATUS (17 Table 17.12). -/
def dmaStatus (s : State) (c : Nat) : U32 :=
  let x := dmaOf s c
  bitAt (x.run && !x.stopped && x.head != x.tail) 31 ||| bitAt x.stopped 30 ||| fieldAt x.lastCode.toNat 0

/-- A descriptor read from the companion area (17 Table 17.10). -/
structure Descriptor where
  op : Nat
  srcSpace : Nat
  dstSpace : Nat
  irq : Bool
  elemLog : Nat
  length : Nat
  src : Nat
  dst : Nat
  index : Nat
deriving DecidableEq, Repr, Inhabited

/-- The descriptor at address `a` (17 Table 17.10). -/
def descriptorAt (m : Memory) (a : Nat) : Descriptor :=
  { op := memReadLe m a 1, srcSpace := memReadLe m (a + 1) 1 % 4, dstSpace := memReadLe m (a + 1) 1 / 4 % 4,
    irq := (memRead m (a + 2)).getLsbD 0, elemLog := memReadLe m (a + 3) 1, length := memReadLe m (a + 4) 4,
    src := memReadLe m (a + 8) 8, dst := memReadLe m (a + 16) 8, index := memReadLe m (a + 24) 4 }

/-- What a descriptor's work ended with: its outcome, RESULT_ADDR, RESULT_COUNT, and the state with its writes made. -/
structure DmaResult where
  code : U16
  addr : Nat
  count : Nat
  st : State

/-- Does the range lie in its space (17 R395)? -/
def inSpace (space a n : Nat) : Bool := match space with
  | 0 => decide (a + n ≤ cmpBytes)
  | 1 => decide (a + n ≤ 18446744073709551616)
  | _ => true

/-- Is the space permitted as source or destination of this operation (17 R395, R398)? A queue stands where an operation reads or writes its
words in order: COPY, FILL and COMPARE (log 131). -/
def spaceOk (d : Descriptor) : Bool :=
  let q (a : Nat) := decide (a < 22)
  let pops (space a : Nat) := space == 2 && q a && mayPop (.fn0 0) a && d.length % 4 == 0
  let srcOk := decide (d.op = 2) || decide (d.srcSpace ≤ 1) || ((d.op == 1 || d.op == 3) && pops d.srcSpace d.src)
  let dstOk := decide (d.dstSpace ≤ 1) || (d.op == 3 && pops d.dstSpace d.dst) ||
    (decide (d.op ≤ 2) && d.dstSpace == 2 && q d.dst && mayPush (.fn0 0) d.dst && d.length % 4 == 0)
  srcOk && dstOk

/-- Pop `n` words of queue `q` for DMA: the bytes, whether one was poisoned, and the state after (17 R392, R396). -/
def dmaPop : Nat → Nat → State → List U8 × Bool × State
  | 0, _, s => ([], false, s)
  | n + 1, q, s =>
    let (s1, v) := queuePop (.fn0 0) q .clean s
    let bad := (tabGet s1.queues q {}).poisonLast
    let (bs, p, s2) := dmaPop n q s1
    (leBytes 4 v.toNat ++ bs, bad || p, s2)

/-- Write bytes to a space (17 R395, R396). -/
def dmaStore (space a : Nat) (bs : List U8) (poisoned : Bool) (s : State) : State := match space with
  | 0 =>
    let l := fixedBase s + mib 256
    emit (.cmpWrite a bs) (linesWritten (fun n => decide (a ≤ 64 * (n - l) ∧ 64 * (n - l) + 64 ≤ a + bs.length ∧ l ≤ n)) s)
  | 1 => emit (.hostWrite a bs poisoned) s
  | _ => forEach (List.range (bs.length / 4)) (fun k t => (queuePush (.fn0 0) a (u32 (leNat ((bs.drop (4 * k)).take 4))) t).1) s

/-- Bytes read from a space; the host's bytes come from `h` at offset `o` of its answer. -/
def dmaLoad (m : Memory) (h : HostAnswer) (o space a n : Nat) : List U8 :=
  if space = 0 then memReadBytes m a n else (h.data.drop o).take n

/-- The bytes of a range, of a queue by popping it (17 R395). -/
def dmaRead (h : HostAnswer) (o space a n : Nat) (s : State) : List U8 × State :=
  if space = 2 then
    let (bs, _, s) := dmaPop (n / 4) a s
    (bs, s)
  else (dmaLoad s.cmp h o space a n, s)

/-- Offset of the first differing byte, and how many differ. -/
def compareBytes : Nat → List U8 → List U8 → Option Nat × Nat
  | i, x :: xs, y :: ys =>
    let r := compareBytes (i + 1) xs ys
    if x = y then r else (some i, r.2 + 1)
  | _, _, _ => (none, 0)

/-- GATHER and SCATTER, element by element with its bounds checked first (17 R396, R398); `n` elements remain, `k` moved. -/
def dmaElements (d : Descriptor) (h : HostAnswer) : Nat → Nat → Memory → State → DmaResult
  | 0, k, _, s => ⟨OC_OK, 0, k, s⟩
  | n + 1, k, m, s =>
    let e := 2 ^ d.elemLog
    let ix := memReadLe m (d.index + 4 * k) 4
    let sa := if d.op = 4 then d.src + ix else d.src + k * e
    let da := if d.op = 4 then d.dst + k * e else d.dst + ix
    if !inSpace d.srcSpace sa e || !inSpace d.dstSpace da e || !inSpace 0 (d.index + 4 * k) 4 then ⟨OC_RANGE, 0, k, s⟩
    else
      let bs := dmaLoad m h (k * e) d.srcSpace sa e
      let m := if d.dstSpace = 0 then memWriteBytes m da bs else m
      dmaElements d h n (k + 1) m (dmaStore d.dstSpace da bs false s)

/-- The work of one descriptor (17 R396, R398). -/
def dmaWork (d : Descriptor) (h : HostAnswer) (s : State) : DmaResult :=
  let usesHost := (d.op != 2 && d.srcSpace == 1) || d.dstSpace == 1
  if d.op = 0 ∨ 5 < d.op ∨ d.length = 0 ∨ !spaceOk d then ⟨OC_CMP_DMA_DESC, 0, 0, s⟩
  else if (d.op = 4 ∨ d.op = 5) ∧ (d.elemLog < 2 ∨ 12 < d.elemLog) then ⟨OC_CMP_DMA_DESC, 0, 0, s⟩
  else if usesHost && !h.ok then ⟨OC_CMP_DMA_PCIE, 0, 0, s⟩
  else if d.op = 4 ∨ d.op = 5 then
    if 16777216 < d.length then ⟨OC_RANGE, 0, 0, s⟩ else dmaElements d h d.length 0 s.cmp s
  else if cmpBytes < d.length then ⟨OC_RANGE, 0, 0, s⟩
  else if !inSpace d.dstSpace d.dst d.length || (d.op != 2 && !inSpace d.srcSpace d.src d.length) then ⟨OC_RANGE, 0, 0, s⟩
  else if d.op = 1 then
    if d.srcSpace = 2 then
      let (bs, p, s) := dmaPop (d.length / 4) d.src s
      let s := dmaStore d.dstSpace d.dst bs p s
      ⟨if p && d.dstSpace == 0 then OC_CMP_POISON else OC_OK, 0, d.length, s⟩
    else ⟨OC_OK, 0, d.length, dmaStore d.dstSpace d.dst (dmaLoad s.cmp h 0 d.srcSpace d.src d.length) false s⟩
  else if d.op = 2 then
    let pat := leBytes 4 (d.src % 4294967296)
    let bs := (List.range d.length).map (fun i => pat.getD (i % 4) 0)
    ⟨OC_OK, 0, d.length, dmaStore d.dstSpace d.dst bs false s⟩
  else
    let (a, s) := dmaRead h 0 d.srcSpace d.src d.length s
    let (b, s) := dmaRead h (if d.srcSpace = 1 then d.length else 0) d.dstSpace d.dst d.length s
    let r := compareBytes 0 a b
    ⟨OC_OK, r.1.getD 0xFFFFFFFFFFFFFFFF, r.2, s⟩

/-- Is this an outcome that stops the channel (17 R398)? -/
def dmaFails (c : U16) : Bool := c == OC_CMP_DMA_DESC || c == OC_RANGE || c == OC_CMP_DMA_PCIE

/-- DMA_DESCRIPTOR_DONE: the engine ends the descriptor at HEAD, writes its result fields, OUTCOME and last DONE, and stops
on failure, which the field book records where its class asks for it (17 R397, R398, 00 Table 0.6). -/
def dmaDescriptor (c : Nat) (h : HostAnswer) (s : State) : State :=
  let x := dmaOf s c
  if !x.run || x.stopped || x.head == x.tail then s
  else
    let a := x.ring.toNat + 64 * x.head.toNat
    let d := descriptorAt s.cmp a
    let r := dmaWork d h s
    let s := emit (.cmpWrite (a + 32) (leBytes 8 r.addr ++ leBytes 4 r.count ++ leBytes 2 r.code.toNat ++ [1])) r.st
    let fail := dmaFails r.code
    let x := { dmaOf s c with lastCode := r.code, stopped := fail,
                              head := if fail then x.head else u32 ((x.head.toNat + 1) % max 1 x.size.toNat),
                              done := if fail then x.done else x.done + 1 }
    let s := recordRefusal 7 r.code [u32 c] (setDma c x s)
    if d.irq then msix 0 5 s else s

/-- A hot reset or link down (17 R380): both functions are reset and every DMA channel ends as DISABLE does. -/
def pcieDown (linkUp : Bool) (s : State) : State :=
  let s := fnReset 1 (fnReset 0 s)
  let s := forEach [0, 1, 2, 3] dmaDisable s
  { s with mbox := { s.mbox with linkUp := linkUp } }

/-- REFCLK_TRIP (16 R373, 17 R377): the clock side, and the companion port's link down. -/
def refclkTrip (s : State) : State := refclkTripClocks (pcieDown false s)

end Sys2Proof.Machine
end

