-- ==== Sys2Proof/Machine/Enrol.lean ====
section
/-! DEFINITION. Enrolment, retirement and release of parcels, and parcel keys (03 R71 to R78, 12 Table 12.7). -/

namespace Sys2Proof.Machine

/-- The parcel key slot of a role under a protocol (14 Table 14.8). -/
def parcelSlot (protocol role : Nat) : Option Nat :=
  if protocol = 0x01 ∨ protocol = 0x02 then (if 1 ≤ role ∧ role ≤ 3 then some (role - 1) else none)
  else if protocol = 0x11 then (if role = 4 then some 0 else none)
  else if protocol = 0x12 then (if role = 5 then some 0 else none)
  else none

/-- The key of an order's item: WRAPPED under the KTK of the head end that signed, or CLEAR from a mailbox (14 R327, R330). -/
def orderKey (mbox : Bool) (headend : Nat) (octets : List U8) (s : State) : Option Nat :=
  if mbox then some (beNat octets) else (headendKtk s headend).bind (fun k => keyUnwrap k octets)

/-- Bytes of the key that an item carries (14 Table 14.7). -/
def orderKeyLength (mbox : Bool) (octets : List U8) : Nat := if mbox then octets.length else octets.length - 8

/-- A key of an order wrapped under the current PKEK (03 R58). -/
def slotOf (headend : Nat) (s : State) (k : WrappedKey) : KeySlot := wrapSlot s k.role k.version ((orderKey false headend k.octets s).getD 0)

/-! ### ENROL (03 R71, R72) -/

/-- The profile sets an ENROL is checked against: the one in force and that of every committed amendment (05 R120). -/
def profileSets (s : State) : List (List (List Int)) := cadRows s 0x0201 :: s.cad.profilesDue

/-- Are the fields of an ENROL in range (12 Table 12.7, 05 R120, 06 R146, 07 R161)? -/
def enrolRanges (b : EnrolOrder) (s : State) : Bool :=
  b.identity != 0 && b.identity != BitVec.allOnes 64 && [0x01, 0x02, 0x11, 0x12].contains b.protocol && decide (b.medium ≤ 4) &&
  (calOf s b.calendar).current.isSome && decide (b.calendar ≤ 31) &&
  (profileSets s).all (fun l => match profileIn l b.veeProfile with
    | some f => targetsSuit b.medium f
    | none => false) &&
  (match b.balanceNode with
   | some n => ((tabFind (topoNow s).nodes n).map (fun x => x.medium == b.medium)).getD false
   | none => true) &&
  decide (b.flags ≤ 1) && decide (b.keys.length ≤ 6) &&
  b.keys.all (fun k => (parcelSlot b.protocol k.role).isSome && decide (k.version ≤ 65535) && decide (k.octets.length = 24)) &&
  distinctNats (b.keys.map (·.role)) &&
  (match b.energy with
   | some l => l.length == 32 && l.all (fun n => decide (n < 2 ^ 64))
   | none => true)

/-- The generation after one, skipping 0 (03 R72). -/
def nextGeneration (g : Nat) : Nat := if (g + 1) % 65536 = 0 then 1 else (g + 1) % 65536

/-- The accepted enrolment of the identity that waits in its domain: its index and digest (03 R73, log 111). -/
def enrolWaiting (b : EnrolOrder) (s : State) : Option (Nat × Nat) := s.trav.items.findSome? (fun x => match x.body with
  | .enrol y => if y.identity = b.identity then some (x.parcel, y.enrolDigest) else none
  | _ => none)

/-- Accepted enrolments that wait in their domains. -/
def enrolsWaiting (s : State) : Nat := (s.trav.items.filter (fun x => match x.body with
  | .enrol _ => true
  | _ => false)).length

/-- The checks of an ENROL after the ranges, with the existing parcel for the answer (03 R71). -/
def enrolCheck (headend : Nat) (b : EnrolOrder) (s : State) : Option (U16 × List U8) :=
  let held := s.store.parcels.find? (fun e => inUse e.2 && e.2.identity == b.identity)
  match held with
  | some (i, p) =>
    if goesAway p then some (OC_PARCEL_RETIRING, [])
    else if p.enrolDigest = b.digest then some (OC_ALREADY_ENROLLED, cborMap [cborInt i, cborInt p.generation])
    else some (OC_PARCEL_ENROLLED, [])
  | none =>
    if let some (x, y) := enrolWaiting b s then (if y = b.digest then some (OC_ALREADY_ENROLLED, cborMap [cborInt x, cborInt (nextGeneration (parcelOf s x).generation)])
      else some (OC_PARCEL_ENROLLED, []))
    else if b.keys.any (fun k => (orderKey false headend k.octets s).isNone) then some (OC_KEY_UNWRAP, [])
    else if capacityOf s.ecc.dramGib ≤ parcelsUsed s + enrolsWaiting s ∨ (freeHead s).isNone then some (OC_PARCEL_CAPACITY, [])
    else match dirInsert { identity := b.identity, index := 0, state := 1, generation := 0 } s with
      | .error c => some (c, [])
      | .ok _ => none

/-- Registers of an order's ENERGY: TOTAL is the sum over tariffs (12 Table 12.7). Place of (tariff t, pair k) is 4 t + k. -/
def enrolRegisters (l : List Nat) : Registers :=
  let put (t : Tab Nat) (k v : Nat) : Tab Nat := if v = 0 then t else tabPut t k v
  { energy := l.zipIdx.foldl (fun t e => put t e.2 e.1) [],
    total := (List.range 4).foldl (fun t k => put t k (((List.range 8).map (fun j => l.getD (4 * j + k) 0)).sum % 2 ^ 64)) [] }

/-- The parcel an ENROL entry creates (03 R72, 06 R148). -/
def enrolParcel (b : EnrolBody) (gen at_ : Nat) (s : State) : Parcel :=
  let p : Parcel := { state := .active, generation := gen, identity := b.identity, protocol := b.protocol, medium := b.medium,
                      calendar := b.calendar, veeProfile := b.veeProfile, balanceNode := b.balanceNode, keys := b.keys, producer := b.producer,
                      steel := { producer := b.producer, coveredFrom := (at_ + 999999999) / 1000000000 }, enrolTime := at_, enrolDigest := b.enrolDigest,
                      channelCount := ((profileIn (cadRows s 0x0201) b.veeProfile).map (·.channels.length)).getD 0,
                      registers := (b.energy.map (fun t => enrolRegisters ((List.range 32).map (fun k => tabGet t k 0)))).getD {} }
  enrolDemand b.calendar p s

/-- Apply an ENROL entry: the index leaves the free list, the whole parcel is written, and the directory entry inserted (03 R72). -/
def enrolApply (i gen at_ : Nat) (b : EnrolBody) (s : State) : State :=
  let s := { s with store := { s.store with free := rangesDrop i s.store.free } }
  let s := setParcel i (enrolParcel b gen at_ s) s
  match dirInsert { identity := b.identity, index := i, state := 1, generation := gen } s with
  | .ok t => t
  | .error _ => s

/-- The body of an ENROL entry (03 Table 3.12). -/
def enrolBody (e : Envelope) (b : EnrolOrder) (s : State) : EnrolBody :=
  { orderId := e.orderId, headend := e.headend, digest := e.digest, enrolDigest := b.digest, identity := b.identity,
    protocol := b.protocol, medium := b.medium, calendar := b.calendar, producer := b.flags == 1, veeProfile := b.veeProfile,
    balanceNode := b.balanceNode.getD 0xFFFFFFFF,
    keys := b.keys.foldl (fun t k => tabPut t ((parcelSlot b.protocol k.role).getD 0) (slotOf e.headend s k)) [],
    energy := b.energy.map (fun l => l.zipIdx.foldl (fun t x => tabPut t x.2 x.1) []) }

/-- The ENROL entry commits, and the parcel stands (03 R72). -/
def enrolCommit (i gen : Nat) (body : EnrolBody) (s : State) : State :=
  let s := commitMade (some i) gen (.enrol body) s
  enrolApply i gen (devTime s) body s

/-- Key slots wrapped under the PKEK current now (03 R72). -/
def rewrapped (s : State) (l : Tab KeySlot) : Tab KeySlot := l.map (fun k => (k.1, slotRewrap s k.2))

/-- ENROL (03 R71, R72, 12 Table 12.7). While earlier tags of the index's domain are in flight the entry waits its turn there (03 R73). -/
def orderEnrol (e : Envelope) (b : EnrolOrder) (s : State) : State :=
  orderRow 5 true (fun _ => true) (fun s =>
    if !enrolRanges b s then .now OC_RANGE [] 0 s
    else match enrolCheck e.headend b s with
      | some (c, d) => .now c d 0 s
      | none => match freeHead s with
        | none => .now OC_PARCEL_CAPACITY [] 0 s
        | some i =>
          let gen := nextGeneration (parcelOf s i).generation
          let body := enrolBody e b s
          if domainClear s i s.trav.nextJoin then
            let s := enrolCommit i gen body s
            .now OC_OK (cborMap [cborInt i, cborInt gen]) s.jrn.lastJsn s
          else
            .later (joinItem { parcel := i, body := .enrol body, answer := some (e.headend, e.orderId) }
              { s with store := { s.store with free := rangesDrop i s.store.free } })) e s

/-- The waiting ENROL entry of an item commits, and its order is answered (03 R72, R73). -/
def enrolItemCommit (x : DomainItem) (b : EnrolBody) (s : State) : State :=
  let gen := nextGeneration (parcelOf s x.parcel).generation
  let s := enrolCommit x.parcel gen { b with keys := rewrapped s b.keys } (dropItem x.joinNo s)
  match x.answer with
  | some (h, o) => orderAnswered h o OC_OK (cborMap [cborInt x.parcel, cborInt gen]) s.jrn.lastJsn s
  | none => s

/-! ### RETIRE and RELEASE (03 R75, R76) -/

/-- RETIRE (03 R75): the parcel counts as retiring from here, and its entry joins the domain. -/
def orderRetire (e : Envelope) (id : U64) (gen : Nat) (s : State) : State :=
  orderRow 6 true (fun _ => true) (fun s =>
    match s.store.parcels.find? (fun x => inUse x.2 && x.2.identity == id) with
    | none => .now OC_PARCEL_UNKNOWN [] 0 s
    | some (i, p) =>
      if goesAway p then .now OC_PARCEL_RETIRING [] 0 s
      else if p.generation ≠ gen then .now OC_HX_ORDER_STALE [] 0 s
      else .later (joinItem { parcel := i, body := .retire e.orderId e.headend e.digest id, answer := some (e.headend, e.orderId) }
        (setParcel i { p with retireAccepted := true } s))) e s

/-- Downlink waiting for a parcel is discarded on every path (03 R75). -/
def dropDownlink (i : Nat) (s : State) : State :=
  let ofPlc (p : PlcPort) : PlcPort := { p with queue := p.queue.filter (fun t => t.down.parcel != i) }
  let ofEp (x : RadioEp) : RadioEp := { x with pending := x.pending.filter (fun d => d.1.parcel != i) }
  let ofRadio (p : RadioPort) : RadioPort :=
    { p with inbox := p.inbox.filter (fun d => d.parcel != i), queue := p.queue.filter (fun t => t.down.parcel != i),
             eps := p.eps.map (fun x => (x.1, ofEp x.2)) }
  let s := { s with plc := { s.plc with ports := s.plc.ports.map (fun (e : Nat × PlcPort) => (e.1, ofPlc e.2)) } }
  let s := { s with radio := { s.radio with ports := s.radio.ports.map (fun (e : Nat × RadioPort) => (e.1, ofRadio e.2)) } }
  let p := parcelOf s i
  let s := setParcel i { p with downlink := [], downlinkPending := false } s
  modAct (fun a => { a with cells := a.cells.map (fun e => (e.1, { e.2 with queue := e.2.queue.filter (fun d => d.down.parcel != i) })) }) s

/-- Apply a RETIRE entry: STATE and RETIRE_TIME, the directory, the RETIRE snapshot, downlink and campaigns (03 R75, 06 R158). -/
def retireApply (i at_ jsn : Nat) (s : State) : State :=
  let p := parcelOf s i
  let v := calVersion (imageBefore (calOf s p.calendar) at_)
  let s := addItem 1 jsn (snapshotNums 1 i p.calendar v p.registers.periodStart at_ p p.registers) s
  let s := setParcel i { p with state := .retiring, retireAccepted := false, retireTime := at_, retireJsn := jsn } s
  dropDownlink i (dirState p.identity 2 s)

/-- The waiting item of a parcel's domain whose body fits. -/
def waitingItem (s : State) (i : Nat) (f : JBody → Bool) : Option DomainItem := s.trav.items.find? (fun x => x.parcel == i && f x.body)

/-- The committed tags of a parcel's domain pass stage 8 in commit order, so that a snapshot taken now holds their credits (03 R75, 04 R88). -/
def domainCredit (i : Nat) (s : State) : State :=
  let l := s.trav.tags.filter (fun t => t.state == .committed && (t.parcel.map domainOf) == some (domainOf i))
  forEach (sortNats (l.map (·.jsn))) (fun j s => match l.find? (fun t => t.jsn == j) with
    | some t => registerUpdate t.asn s
    | none => s) s

/-- RETIRE_ENTRY_COMMIT (03 R75). -/
def retireEntryCommit (i : Nat) (s : State) : State :=
  match waitingItem s i (fun b => match b with
      | .retire .. => true
      | _ => false) with
  | none => s
  | some x =>
    if !domainClear s i x.joinNo ∨ !mayCommitMade s then s
    else
      let s := commitMade (some i) (parcelOf s i).generation x.body (dropItem x.joinNo (domainCredit i s))
      let j := s.jrn.lastJsn
      let s := campaignRetire i (retireApply i (devTime s) j s)
      match x.answer with
      | some (h, o) => orderAnswered h o OC_OK [] j s
      | none => s

/-- Has the boundary work of an epoch completed, through step 8 (03 R76)? -/
def workComplete (s : State) (e : Int) : Bool := decide (e < s.epoch.current) && !s.epoch.work.any (fun w => decide (w.epoch ≤ e ∧ w.step < 8))

/-- Apply a RELEASE entry of a time (03 R76): the directory entry goes, the parcel is FREE, and its index goes to the tail of the free list. The
Steelyard still counts it for the intervals in which it was in use (07 R165). -/
def releaseApply (i at_ : Nat) (s : State) : State :=
  let p := parcelOf s i
  let s := modSteel (fun v => { v with gone := v.gone ++ [(i, at_, { p with state := .retiring })] }) s
  let s := dirRemove p.identity s
  let s := setParcel i { p with state := .free } s
  { s with store := { s.store with free := rangesAdd i s.store.free, heads := s.store.heads.filter (fun h => h.index != i) } }

/-- PARCEL_RELEASE: after the boundary work of the retirement epoch, a RELEASE entry frees the index (03 R76). -/
def parcelRelease (i : Nat) (s : State) : State :=
  let p := parcelOf s i
  let e := epochOfJsn s p.retireJsn
  if p.state ≠ .retiring ∨ !workComplete s e ∨ !domainClear s i s.trav.nextJoin ∨ !mayCommitMade s then s
  else releaseApply i (devTime s) (commitMade (some i) p.generation (.release p.identity p.retireJsn e) s)

/-! ### Parcel keys (03 R78, 14 R331) -/

/-- Apply a KEYLOAD entry: the slot is written, or cleared for an ERASE (03 R78). -/
def keyloadApply (i slotNo at_ : Nat) (k : KeySlot) (s : State) : State :=
  let p := parcelOf s i
  setParcel i { p with keys := if k.role = 0 then tabDel p.keys slotNo else tabPut p.keys slotNo k, keyInvalid := false, lastKeyload := at_ } s

/-- KEYLOAD_ENTRY_COMMIT: the slot is wrapped under the PKEK current at commit (03 R78, R457). -/
def keyloadEntryCommit (i : Nat) (s : State) : State :=
  match waitingItem s i (fun b => match b with
      | .keyload .. => true
      | _ => false) with
  | none => s
  | some x =>
    if !domainClear s i x.joinNo ∨ !mayCommitMade s then s
    else if (x.channel.map (fun c => (chOf s c).senderStale)).getD false then mboxAck (x.channel.getD 0) OC_SENDER_RESET (dropItem x.joinNo s)
    else
      let body := match x.body with
        | .keyload a b c d n k => .keyload a b c d n (if k.role = 0 then k else slotRewrap s k)
        | b => b
      let s := commitMade (some i) (parcelOf s i).generation body (dropItem x.joinNo s)
      let j := s.jrn.lastJsn
      let s := match body with
        | .keyload _ _ _ _ n k => keyloadApply i n (devTime s) k s
        | _ => s
      let s := match x.answer with
        | some (h, o) => orderAnswered h o OC_OK [] j s
        | none => s
      match x.channel with
      | some c => mboxAck c OC_OK s
      | none => s

end Sys2Proof.Machine
end

