-- ==== Sys2Proof/Machine/PanelDc.lean ====
section
/-! DEFINITION. DC book-keeping of the panel's segments (19 R422, R426, R427, R429). -/

namespace Sys2Proof.Machine

/-- Voltage of a PTOP level (19 R421, Table 19.4). -/
def ptopVolt (n : Nat) : Int := if n = 1 then 20 else if n = 2 then -20 else 0

/-- Voltage of a segment level (19 R421, Table 19.4). -/
def segVolt (n : Nat) : Int := if n = 1 then 15 else if n = 2 then -15 else 0

/-- Segment classes of an update (19 R422). -/
inductive SegClass
  | dark | light | keep
deriving DecidableEq, Repr, Inhabited

/-- Class of segment `i`; a segment of `all` is never kept (19 R422, R427, R429). -/
def segClass (all shown target : BitVec 96) (i : Nat) : SegClass :=
  if target.getLsbD i && (all.getLsbD i || !shown.getLsbD i) then .dark
  else if !target.getLsbD i && (all.getLsbD i || shown.getLsbD i) then .light
  else .keep

/-- Voltage of a segment of a class against PTOP in one frame byte (19 Table 19.4, R426). -/
def frameVolt (b : U8) (c : SegClass) : Int :=
  let n := b.toNat
  let seg := match c with
    | .dark => n / 4 % 4
    | .light => n / 16 % 4
    | .keep => n / 64 % 4
  segVolt seg - ptopVolt (n % 4)

/-- Sum over frames of voltage x half milliseconds, for at most `h` half milliseconds (19 R426, R429). -/
def frameSum (half : Nat) (c : SegClass) : List U8 → Nat → Int
  | [], _ => 0
  | b :: bs, h => frameVolt b c * (min half h : Nat) + frameSum half c bs (h - half)

/-- Segments that a waveform never keeps: all of them in a refresh (19 R427). -/
def drivenAll (k : WaveKind) : BitVec 96 := if k = .balance then ~~~0#96 else 0

/-- Accumulators after a waveform driven for at most `h` half milliseconds (19 R426). -/
def accWave (w : Waveform) (all target : BitVec 96) (h : Nat) (s : State) : State :=
  let acc := (List.range 96).map (fun i =>
    (i, tabGet s.panel.acc i 0 + frameSum w.half (segClass all s.panel.shown target i) w.frames h))
  { s with panel := { s.panel with acc := acc } }

/-- Compensation frames of length `f` that an accumulator of `a` asks for (19 R427). -/
def compWanted (f : Nat) (a : Int) : Nat := a.natAbs / (15 * max 1 f)

/-- Compensation frames of a refresh: the longest over all segments, at most 64 (19 R427). -/
def compFrames (f : Nat) (s : State) : Nat :=
  (List.range 96).foldl (fun m i => max m (min 64 (compWanted f (tabGet s.panel.acc i 0)))) 0

/-- Does the cap of 64 compensation frames apply to a segment (19 R427)? -/
def compCapped (f : Nat) (s : State) : Bool :=
  (List.range 96).any (fun i => decide (64 < compWanted f (tabGet s.panel.acc i 0)))

/-- Accumulators after at most `h` half milliseconds of compensation frames (19 R427). -/
def accCompensate (f h : Nat) (s : State) : State :=
  let one (a : Int) : Int :=
    let m : Int := 15 * (min h (f * min 64 (compWanted f a)) : Nat)
    if 0 < a then a - m else a + m
  { s with panel := { s.panel with acc := (List.range 96).map (fun i => (i, one (tabGet s.panel.acc i 0))) } }

/-- Half milliseconds of compensation before the waveform of a run (19 R427). -/
def compHalves (r : PanelRun) (s : State) : Nat := if r.kind = .balance then r.wave.half * compFrames r.wave.half s else 0

/-- Half milliseconds of a whole run. -/
def runHalves (r : PanelRun) (s : State) : Nat := compHalves r s + r.wave.half * r.wave.frames.length

/-- Accumulators of a run that was driven for `h` half milliseconds (19 R426, R427). -/
def accRun (r : PanelRun) (h : Nat) (s : State) : State :=
  let c := compHalves r s
  let s := if r.kind = .balance then accCompensate r.wave.half (min h c) s else s
  accWave r.wave (drivenAll r.kind) r.target (h - c) s

/-- A running waveform is cut: ACC is credited with the driven time, rounded up to 0.5 ms, and the segments that were
changing are remembered (19 R426, R429). -/
def panelCut (s : State) : State :=
  match s.panel.run with
  | none => { s with panel := { s.panel with changing := 0 } }
  | some r =>
    let m := drivenAll r.kind ||| (s.panel.shown ^^^ r.target)
    let s := accRun r ((s.mono - s.panel.lastStart.getD s.mono + 499999) / 500000) s
    { s with panel := { s.panel with run := none, changing := m } }

end Sys2Proof.Machine
end

