-- ==== Sys2Proof/Machine/KeyOrders.lean ====
section
/-! DEFINITION. Quotes, the KEYLOAD order and its mailbox form, MAINTENANCE, and the acceptance of a state change (14 R318 to R330,
R336). -/

namespace Sys2Proof.Machine

/-! ### Quotes (14 R336) -/

/-- AMEND_DIGEST: over the applied amendments in SEQUENCE order; 0 when there are none (14 Table 14.12). -/
def amendDigest (s : State) : Nat :=
  let l := s.cad.log.filter (fun a => amdBase a == s.cad.serial && decide (amdSequence a ≤ s.cad.lastSeq))
  if l.isEmpty then 0 else hashOf (l.flatMap (fun a => beBytes 32 (hashOf a.bytes)))

/-- The slot that runs. -/
def runningSlot (s : State) : Slot := tabGet s.upd.slots s.upd.running {}

/-- FLAGS of a quote (14 Table 14.12). -/
def quoteFlags (handover : Bool) (s : State) : Nat :=
  (if s.keys.rootSource = 2 then 1 else 0) + (if (runningSlot s).state = 3 then 2 else 0) + (if s.upd.fromRecovery then 4 else 0) +
    (if handover then 8 else 0) + 16 * (s.glob.straps.toNat % 4)

/-- The 208 bytes of a quote (14 Table 14.12). -/
def quoteBytes (nonce : Nat) (handover : Bool) (s : State) : List U8 :=
  asciiBytes "QTE1" ++ beBytes 2 1 ++ beBytes 1 (lifecycleCode s) ++ beBytes 1 (quoteFlags handover s) ++ beBytes 16 (unitOf s) ++
    beBytes 8 (devTime s) ++ beBytes 32 nonce ++ beBytes 32 (runningSlot s).headerHash ++
    hashBytes ((runningSlot s).parts.flatMap (fun p => beBytes 32 p.hash)) ++ beBytes 32 s.cad.imageHash ++ beBytes 32 (amendDigest s) ++
    beBytes 4 s.keys.floor ++ beBytes 2 (runningSlot s).journalFloor ++ zeros 2 ++ beBytes 4 0x80001049 ++ beBytes 4 Config.romVersion

/-- A quote with its signature, and with the incoming identity public key where it is a handover quote; none while no leaf may be used (14 R336). -/
def quote (nonce : Nat) (handover : Option Nat) (s : State) : Option (List U8 × State) :=
  (takeLeaf s).map (fun (q, t) =>
    let b := quoteBytes nonce handover.isSome s
    (b ++ signature b q ++ (match handover with
      | some st => if st = 6 then [] else identityKey s st
      | none => []), t))

/-- The quote at an entry into HEALTHY or DEGRADED, posted as a note (14 R336). -/
def attestQuote (s : State) : State := match quote 0 none s with
  | some (l, t) => addNote OC_ATTEST_QUOTE (byteNums l) t
  | none => s

/-! ### LOAD and ERASE (14 R327 to R329) -/

/-- Is a role or index permitted for a LOAD or an ERASE (14 R328)? -/
def keyRoleOk (erase : Bool) (b : KeyloadBody) (s : State) : Bool := match b.scope with
  | 0 => if erase then b.role == 3 || b.role == 7
    else [1, 2, 3, 7].contains b.role || (b.role == 4 && decide (b.index ≤ 5))
  | 1 => decide (1 ≤ b.role ∧ b.role ≤ 5)
  | 2 => decide (b.index ≤ 4095) && (cellRow s b.index).isSome
  | _ => false

/-- Bytes of the key of a scope and role (14 R328). -/
def keyLength (b : KeyloadBody) : Nat := if b.scope = 2 ∨ (b.scope = 0 ∧ [1, 2, 6, 7].contains b.role) then 32 else 16

/-- The parcel a KEYLOAD of scope 1 names. -/
def keyParcel (b : KeyloadBody) (s : State) : Option (Nat × Parcel) := s.store.parcels.find? (fun e => inUse e.2 && e.2.identity == b.identity)

/-- KEY_VERSION and key installed where a KEYLOAD points. -/
def keyInstalled (b : KeyloadBody) (s : State) : Option (Nat × Nat) := match b.scope with
  | 0 => ((roleSlot b.role b.index).bind (vaultKey s)).map (fun k => (k.version, k.key))
  | 1 => (keyParcel b s).bind (fun e => ((parcelSlot e.2.protocol b.role).bind (tabFind e.2.keys)).map (fun k => (k.version, (slotKey s k).getD (2 ^ 128))))
  | _ => (cellPsk s b.index).2.map (fun k => ((cellPsk s b.index).1, k))

/-- The checks of R329 in order. `mbox` is the mailbox form, whose key is clear (14 R327). -/
def keyCheck (mbox erase : Bool) (headend : Nat) (b : KeyloadBody) (s : State) : U16 :=
  let old := keyInstalled b s
  let bad : Bool := match b.octets with
    | none => !erase && !(b.scope == 0 && b.role == 1)
    | some w => !erase && (orderKeyLength mbox w != keyLength b || (!mbox && w.length % 8 != 0))
  let key := b.octets.bind (fun w => orderKey mbox headend w s)
  let parcel : U16 := if b.scope ≠ 1 then OC_OK else match keyParcel b s with
    | none => OC_PARCEL_UNKNOWN
    | some (_, p) =>
      if goesAway p then OC_PARCEL_RETIRING
      else if p.generation ≠ b.generation then OC_HX_ORDER_STALE
      else if (parcelSlot p.protocol b.role).isNone then OC_KEY_ROLE
      else OC_OK
  if !keyRoleOk erase b s then OC_KEY_ROLE
  else if (b.scope = 1 ∧ 65535 < b.version) ∨ bad then OC_RANGE
  else if parcel ≠ OC_OK then parcel
  else if erase then (if old.isNone then OC_KEY_ALREADY else OC_OK)
  else
    let same : Bool := match old, key with
      | some (v, k), some w => v == b.version && k == w
      | _, _ => false
    let low : Bool := match old with
      | some (v, _) => decide (b.version ≤ v)
      | none => false
    if b.octets.isSome && !mbox && !ktkLoaded s headend then OC_KEY_ABSENT
    else if b.octets.isSome && key.isNone then OC_KEY_UNWRAP
    else if same then OC_KEY_ALREADY
    else if low then OC_KEY_VERSION
    else if b.scope = 0 ∧ ((b.role = 1 ∧ s.store.rewrap) ∨ (b.role = 4 ∧ (plcOf s b.index).rekey.isSome)) then OC_BUSY
    else OC_OK

/-- Install or erase a vault key from an entry (14 R329). -/
def vaultApply (erase : Bool) (role index version key : Nat) (s : State) : State := match roleSlot role index with
  | none => s
  | some n =>
    if erase then vaultDel n s
    else match role with
      | 1 => pkekLoad { role := 1, version := version, key := key } s
      | 2 => headendKeys (vaultPut n { role := 2, version := version, key := key } s)
      | 4 => gmkRekey index key version s
      | _ => vaultPut n { role := role, version := version, key := key } s

/-- Install or erase the PSK of a cell from the entry of a JSN, and save the cell key section (14 R329, 08 R202). -/
def cellKeyApply (erase : Bool) (cell version key jsn : Nat) (s : State) : State :=
  let t := tabPut s.act.psk cell (version, if erase then none else some key, jsn)
  modFlash (fun f => { f with imagePsk := t }) (modAct (fun a => { a with psk := t }) s)

/-- BODY of the ORDER entry of a KEYLOAD of scope 0 or 2: the map of Table 14.7 with the key under PJK as WRAPPED, and with no key in an ERASE
(14 R329, log 113). -/
def keyBody (erase : Bool) (b : KeyloadBody) (key : Nat) (s : State) : List U8 :=
  cborKeyed ([(1, cborInt (if erase then 1 else 0)), (2, cborInt b.scope)] ++ (if b.scope = 0 then [(3, cborInt b.role)] else []) ++
    [(4, cborInt b.index), (7, cborInt b.version)] ++
    (if erase then [] else [(8, cborBytes (keyWrap (((vaultKey s 26).map (·.key)).getD 0) (keyLength b) key))]))

/-- An accepted LOAD or ERASE: its entry and its effect. `item` answers at the commit of a parcel's entry; otherwise the JSN of the
committed entry comes back (14 R329). A mailbox's is journalled with SOURCE 1. -/
def keyAccept (mbox erase : Bool) (e : Envelope) (b : KeyloadBody) (item : DomainItem) (s : State) : Option Nat × State :=
  let (drawn, s) := if b.octets.isNone && !erase then draw s else (0, s)
  let key := (b.octets.bind (fun w => orderKey mbox e.headend w s)).getD (drawn % 256 ^ keyLength b)
  let source := if mbox then 1 else 0
  let order (ns : List Int) (s : State) : State := commitSized (keyBody erase b key s) none 0 (.order 7 source e.orderId e.headend e.digest ns) s
  match b.scope with
  | 1 => match keyParcel b s with
    | none => (none, s)
    | some (i, p) =>
      let n := (parcelSlot p.protocol b.role).getD 0
      let k : KeySlot := if erase then {} else wrapSlot s b.role b.version key
      (none, joinItem { item with parcel := i, body := .keyload e.orderId e.headend e.digest source n k } s)
  | 2 =>
    let s := order [if erase then 1 else 0, 2, b.index, b.version, key] s
    (some s.jrn.lastJsn, cellKeyApply erase b.index b.version key s.jrn.lastJsn s)
  | _ =>
    let s := order [if erase then 1 else 0, 0, b.role, b.index, b.version, key] s
    (some s.jrn.lastJsn, vaultApply erase b.role b.index b.version key s)

/-- KEYLOAD_LOAD and KEYLOAD_ERASE (14 R329); an ACTION of Table 14.7's range alone is permitted. -/
def orderKeyload (erase : Bool) (action : Nat) (e : Envelope) (b : KeyloadBody) (s : State) : State :=
  orderRow 7 true (fun _ => true) (fun s =>
    let c := if 4 < action then OC_RANGE else keyCheck false erase e.headend b s
    if c ≠ OC_OK then .now c [] 0 s
    else match keyAccept false erase e b { answer := some (e.headend, e.orderId) } s with
      | (some j, s) => .now OC_OK [] j s
      | (none, s) => .later s) e s

/-! ### MAINTENANCE (14 R321) -/

/-- The answer to a request to enter (`on`) or leave MAINTENANCE, before any effect (14 R318, R321). -/
def maintCheck (on : Bool) (s : State) : U16 :=
  if s.keys.state ≠ 3 then OC_LIFECYCLE else if s.keys.maintenance = on then OC_ALREADY_APPLIED else OC_OK

/-- The flag is set or cleared in the warden record. -/
def maintApply (on : Bool) (s : State) : State := modKeys (fun k => { k with maintenance := on }) s

/-- ENTER_MAINTENANCE and LEAVE_MAINTENANCE (14 R321). -/
def orderMaintenance (on : Bool) (e : Envelope) (s : State) : State :=
  orderRow 7 true (fun _ => true) (fun s =>
    let c := maintCheck on s
    if c ≠ OC_OK then .now c [] 0 s
    else
      let s := commitOrder 7 e [if on then 2 else 3] s
      .now OC_OK [] s.jrn.lastJsn (maintApply on s)) e s

/-! ### State changes (14 R318 to R320) -/

/-- Is a transition one of Table 14.3, through an order or the mailbox? -/
def transitionOk (mbox : Bool) (old new : Nat) : Bool :=
  (mbox && old == 1 && new == 2) || (old == 2 && new == 3) || (old == 3 && new == 5) ||
    (decide (1 ≤ old ∧ old ≤ 5) && (mbox || old == 2 || old == 3) && new == 6)

/-- A root source chosen under 02 R35 has produced the root at this start (14 Table 14.3). -/
def rootReady (s : State) : Bool :=
  s.keys.rootOk && (s.keys.rootLocked || s.keys.rootSource == rootChosen (cadNum s 0x0021 0) s)

/-- The precondition of a transition (14 Table 14.3). -/
def transitionReady (new : Nat) (carry : List WrappedKey) (s : State) : Bool := match new with
  | 2 => rootReady s
  | 3 => s.cad.signed && (cadRows s 0x0702).any (fun r => (r.getD 2 0).toNat.testBit 0) &&
      (carry.any (fun k => k.role == 2) || (vaultKey s 2).isSome)
  | _ => true

/-- The checks of a CHANGE_STATE (14 R318, R320, R327 to R330). -/
def changeCheck (mbox : Bool) (headend new : Nat) (carry : List WrappedKey) (s : State) : U16 :=
  let roleBad (k : WrappedKey) : Bool := !keyRoleOk false { scope := 0, role := k.role, index := k.index } s
  if !([3, 5, 6].contains new || (mbox && new == 2)) ∨ 8 < carry.length ∨ (carry ≠ [] ∧ new ≠ 3) then OC_RANGE
  else if !transitionOk mbox s.keys.state new then OC_LIFECYCLE
  else if s.keys.change.isSome then OC_BUSY
  else if carry.any roleBad then OC_KEY_ROLE
  else if carry.any (fun k => orderKeyLength mbox k.octets != keyLength { scope := 0, role := k.role }) then OC_RANGE
  else if carry ≠ [] ∧ !mbox ∧ !ktkLoaded s headend then OC_KEY_ABSENT
  else if carry.any (fun k => (orderKey mbox headend k.octets s).isNone) then OC_KEY_UNWRAP
  else if !transitionReady new carry s then OC_LC_PRECONDITION
  else OC_OK

/-- Steps 1 and 2 of Table 14.4: DETAIL with the incoming UNIT (SCRAP has none) and the handover quote, and the boundary at which the change is
executed. -/
def changeAccept (mbox : Bool) (headend new : Nat) (carry : List WrappedKey) (s : State) : List U8 × State :=
  let (l, s) := (quote (hashOf [BitVec.ofNat 8 new]) (some new) s).getD ([], s)
  let c : StateChange := { newState := new, accepted := s.mono, boundary := epochEnd s s.epoch.current,
                           carry := carry.map (fun k => { role := k.role, index := k.index, version := k.version, key := (orderKey mbox headend k.octets s).getD 0 }) }
  (cborMap [cborBytes (beBytes 16 (if new = 6 then 0 else unitIn s new)), cborBytes l], modKeys (fun k => { k with change := some c, carried := c.carry }) s)

/-- CHANGE_STATE by order: only the unit that TARGET names executes it (14 R320). -/
def orderChangeState (e : Envelope) (new : Nat) (carry : List WrappedKey) (s : State) : State :=
  orderRow 7 true (fun s => [3, 5, 6].all (fun k => k != new) || transitionOk false s.keys.state new) (fun s =>
    if e.target ≠ .unit (unitOf s) then .now OC_HX_TARGET [] 0 s
    else
      let c := changeCheck false e.headend new carry s
      if c ≠ OC_OK then .now c [] 0 s
      else
        let (l, s) := changeAccept false e.headend new carry s
        .now OC_OK l 0 s) e s

end Sys2Proof.Machine
end

