-- ==== Sys2Proof/Machine/Amend.lean ====
section
/-! DEFINITION. Amendments: the AMEND order, the staging of values by class, and their effect at a boundary or an idle point
(02 R49 to R53). -/

namespace Sys2Proof.Machine

/-- Change the cadastre's state. -/
def modCad (f : CadSt → CadSt) (s : State) : State := { s with cad := f s.cad }

/-- Bytes of an amendment body (02 R51). -/
def amendBytes (a : Amendment) : Nat := a.bytes.length

/-- A field's value after an amendment: node records are added to those before them (07 R160), any other value replaces. -/
def amendValue (base : CadValues) (e : Nat × List (List Int)) : List (List Int) :=
  if e.1 = 0x0301 then valRows base 0x0301 ++ e.2 else e.2

/-- Values with those of an amendment. -/
def amendInto (base v : CadValues) : CadValues := v.foldl (fun b e => tabPut b e.1 (amendValue base e)) base

/-- Does an amendment remove a profile that an ACTIVE or RETIRING parcel names (05 R120), or change it so that the parcel breaks the rules for
ENROL (06 R146)? -/
def profileInUse (v : CadValues) (s : State) : Bool := match tabFind v 0x0201 with
  | none => false
  | some rows => s.store.parcels.any (fun e => inUse e.2 && !(match profileIn rows e.2.veeProfile with
    | some f => targetsSuit e.2.medium f
    | none => false))

/-- Does a restart value of an amendment differ from its stored value (02 R49)? -/
def restartDiffers (v : CadValues) (s : State) : Bool := v.any (fun e => match fieldSpec e.1 with
  | some f => f.cls == .restart && e.2 != valRows s.cad.stored e.1
  | none => false)

/-- The checks of an amendment in order: its values, or the first code (02 R51 to R53). -/
def amendCheck (a : Amendment) (s : State) : Except U16 CadValues :=
  if leAt a.bytes 0 4 ≠ 0x444E4D41 ∨ 262144 < amendBytes a ∨ amendBytes a ≠ 24 + amdTlv a then .error OC_CDST_FORMAT
  else if leAt a.bytes 5 1 ≠ 1 then .error OC_VERSION
  else if leAt a.bytes 6 2 ≠ 0 then .error OC_RESERVED_SET
  else if s.cad.last = some a then .error OC_ALREADY_APPLIED
  else if amdBase a ≠ s.cad.serial ∨ amdSequence a ≠ s.cad.lastSeq + 1 then .error OC_AMEND_BASE
  else match nodeAreaCheck (amdArea a) s.cad.stored s with
    | .error c => .error c
    | .ok v =>
      if profileInUse v s then .error OC_PROFILE_IN_USE
      else if lifecycleCode s ≠ 4 ∧ restartDiffers v s then .error OC_NOT_IN_MAINT
      else if 2097152 < s.cad.logBytes + amendBytes a then .error OC_AMEND_LOG_FULL
      else .ok v

/-- The values of one class. -/
def ofClass (c : FieldClass) (v : CadValues) : CadValues := v.filter (fun e => match fieldSpec e.1 with
  | some f => f.cls == c
  | none => false)

/-- A value still to take effect, or the running one. -/
def pendingBase (waiting : CadValues) (s : State) : CadValues := waiting.foldl (fun b e => tabPut b e.1 e.2) s.cad.running

/-- Records of optional tags that were skipped (02 R43). -/
def recordSkipped (rs : List CadRecord) (s : State) : State := forEach (skippedTags rs) (fun t => record 0 OC_CDST_TAG_SKIPPED [u32 t]) s

/-- An accepted amendment is logged in both QSPI devices, and its values are staged by class (02 R49, R52). -/
def amendAccept (a : Amendment) (v : CadValues) (s : State) : State :=
  let live := (ofClass .live v).foldl (fun w e => tabPut w e.1 (amendValue (pendingBase s.cad.live s) e)) s.cad.live
  let staged := (ofClass .quiescent v).foldl (fun w e => tabPut w e.1 e.2) s.cad.staged
  recordSkipped (amdRecords a) (modCad (fun c =>
    { c with log := c.log ++ [a], logBytes := c.logBytes + amendBytes a, last := some a, lastSeq := amdSequence a,
             profilesDue := c.profilesDue ++ (tabFind v 0x0201).toList, live := live, staged := staged, stored := amendInto c.stored v }) s)

/-- AMEND (02 R51 to R53, 12 R287). -/
def orderAmend (e : Envelope) (a : Amendment) (s : State) : State :=
  orderRow 1 true (fun _ => true) (fun s => match amendCheck a s with
    | .error c => .now c [] 0 s
    | .ok v =>
      let s := amendAccept a v s
      let s := commitOrderOf (a.bytes.take 24 ++ hashBytes a.bytes) 1 e [amdBase a, amdSequence a, hashOf a.bytes] s
      let s := if (tagsOf (amdRecords a)).contains 0x0602 then modAct (fun t => { t with cellsJsn := s.jrn.lastJsn }) s else s
      .now OC_OK [] s.jrn.lastJsn s) e s

/-! ### Taking effect (02 R49, R50) -/

/-- What follows when values take effect at boundary `b`: topology versions (07 R162), cells and head ends (11 R266, 12 R271), beacons (11 R262). -/
def valuesChanged (b : Nat) (old : State) (s : State) : State :=
  let topo := cadRows old 0x0301 != cadRows s 0x0301 || cadRows old 0x0302 != cadRows s 0x0302
  let s := if topo then modSteel (fun v => { v with topos := topoOf b (cadRows s 0x0301) (cadRows s 0x0302) :: v.topos }) s else s
  let s := cellsAmended (cadRows old 0x0602) s
  let s := if cadRows old 0x0702 = cadRows s 0x0702 then s else headendsAmended (headendKeys s)
  beaconChanged (cadNum old 0x0603 0) s

/-- Live values take effect at a boundary (02 R49, 01 Table 1.8 step 1); the set of profiles before it is kept for the tags admitted under it
(05 R119). -/
def liveApply (s : State) : State :=
  let b := epochEnd s (s.epoch.current - 1)
  let was := if (tabFind s.cad.live 0x0201).isSome then some (b, cadRows s 0x0201) else s.cad.profilesWas
  let t := modCad (fun c => { c with running := c.live.foldl (fun b e => tabPut b e.1 e.2) c.running, live := [], profilesDue := [],
                                     profilesWas := was }) s
  valuesChanged b s t

/-- Is the block that uses a quiescent field idle (02 R50)? 0x0406 reclamation, 0x0513 the radio ports with what they have queued. A PLC receiver
is idle between frames: 0x0502 is installed at once, and a frame in reception ends under the values before (`blanking`). -/
def blockIdle (tag : Nat) (s : State) : Bool := match tag with
  | 0x0406 => s.flash.job.isNone
  | 0x0513 => s.radio.ports.all (fun e => e.2.current.isNone && e.2.ack.isNone && e.2.queue.isEmpty)
  | _ => true

/-- Install a staged quiescent value; dispatch resumes (02 R50). -/
def installStaged (tag : Nat) (s : State) : State := match tabFind s.cad.staged tag with
  | none => s
  | some v =>
    let s := if tag = 0x0502 then modCad (fun c => { c with blankWas := some (s.mono, valRows c.running 0x0502) }) s else s
    let s := modCad (fun c => { c with running := tabPut c.running tag v, staged := tabDel c.staged tag, draining := c.draining.filter (· != tag) }) s
    if tag = 0x0406 then gcStart s else s

/-- The drain of every staged quiescent value starts; a block that is idle takes its value at once (02 R50). -/
def drainStart (s : State) : State := forEach (s.cad.staged.map (·.1)) (fun tag s =>
  let s := modCad (fun c => { c with draining := if c.draining.contains tag then c.draining else c.draining ++ [tag] }) s
  if blockIdle tag s then installStaged tag s else s) s

/-- QUIESCENT_APPLY: the drained block is idle (02 R50). -/
def quiescentApply (tag : Nat) (s : State) : State :=
  if s.cad.draining.contains tag && blockIdle tag s then installStaged tag s else s

end Sys2Proof.Machine
end

