-- ==== Sys2Proof/Machine/Manifest.lean ====
section
/-! DEFINITION. Device update up to activation: the manifest's checks, staging by MANIFEST orders, schedules, and the choice of the
slot to boot (13 R295 to R307). -/

namespace Sys2Proof.Machine

/-- Change the update state. -/
def modUpd (f : UpdSt → UpdSt) (s : State) : State := { s with upd := f s.upd }

/-- A firmware slot. -/
def fwSlot (s : State) (n : Nat) : Slot := tabGet s.upd.slots n {}

/-- The 128 bytes of a slot record, little-endian (13 Table 13.2). -/
def slotRecord (x : Slot) : List U8 :=
  let b := asciiBytes "SLOT" ++ leBytes 4 x.copySeq ++ leBytes 1 x.state ++ leBytes 1 x.trialBoots ++ leBytes 2 x.journalFloor ++ leBytes 4 x.actSeq ++
    leBytes 4 x.recorded ++ leBytes 4 x.retiredMask ++ leBytes 8 x.updateId ++ leBytes 8 x.activateAt ++ beBytes 32 x.headerHash ++
    leBytes 4 x.securityFloor ++ zeros 48
  b ++ leBytes 4 (crc32c b).toNat

/-- Write a slot record: COPY_SEQ rises, the unit's floor is copied into it, and the two copies are written alternately (13 R296, R299). -/
def setFwSlot (n : Nat) (x : Slot) (s : State) : State :=
  let y : Slot := { x with copySeq := x.copySeq + 1, securityFloor := s.keys.floor }
  modUpd (fun u => { u with slots := tabPut u.slots n y, records := tabPut u.records (2 * n + y.copySeq % 2) (slotRecord y) }) s

/-- The staging slot: the one that does not run (13 R296). -/
def stagingNo (s : State) : Nat := 1 - s.upd.running

/-- The staging slot's record. -/
def stagingSlot (s : State) : Slot := fwSlot s (stagingNo s)

/-- Is the unit one of a twin pair (15 R338)? -/
def inPair (s : State) : Bool := s.twin.role != 0

/-- DETAIL of every MANIFEST answer (13 R303): SLOT, STATE, NEXT_OFFSET, in a pair PARTNER_STATE and PARTNER_NEXT_OFFSET, and the code of a refused
cadastre part (13 R302). -/
def updDetailWith (code : Option U16) (s : State) : List U8 :=
  cborKeyed ([(1, cborInt (stagingNo s)), (2, cborInt (stagingSlot s).state), (3, cborInt (stagingSlot s).nextOffset)] ++
    (if inPair s then [(4, cborInt s.upd.peerSlot.1), (5, cborInt s.upd.peerSlot.2)] else []) ++
    (match code with
     | some c => [(6, cborInt c.toNat)]
     | none => []))

/-- DETAIL of a MANIFEST answer without such a code (13 R303). -/
def updDetail (s : State) : List U8 := updDetailWith none s

/-! ### The manifest as bytes (13 Tables 13.3, 13.4) -/

/-- MAGIC, HEADER_SIZE, DEVICE_CLASS and the other numbers of a header, little-endian, by offset and size. -/
def mhAt (m : ManifestHead) (off n : Nat) : Nat := leAt m.bytes off n
/-- PART_COUNT. -/
def mhParts (m : ManifestHead) : Nat := mhAt m 15 1
/-- HEADER_SIG_LENGTH. -/
def mhSigLength (m : ManifestHead) : Nat := mhAt m 20 4
/-- TOTAL_LENGTH. -/
def mhTotal (m : ManifestHead) : Nat := mhAt m 16 4

/-- Bytes of header, signature and part table. -/
def headBytes (m : ManifestHead) : Nat := 256 + mhSigLength m + 64 * mhParts m

/-- Are the reserved bytes of a header 0, and the reserved bits of LIFECYCLE_MASK? -/
def mhReservedOk (m : ManifestHead) : Bool := mhAt m 30 2 == 0 && decide (mhAt m 14 1 < 64) && (m.bytes.drop 128).take 128 == zeros 128

/-- The bytes of the part table. -/
def mhTable (m : ManifestHead) : List U8 := (m.bytes.drop (256 + mhSigLength m)).take (64 * mhParts m)

/-- An entry of the part table. -/
def mhPart (m : ManifestHead) (k : Nat) : MPart :=
  let o := 256 + mhSigLength m + 64 * k
  { kind := mhAt m o 1, offset := mhAt m (o + 4) 4, length := mhAt m (o + 8) 4, version := mhAt m (o + 12) 4, hash := beAt m.bytes (o + 16) 32 }

/-- The part table. -/
def mhPartList (m : ManifestHead) : List MPart := (List.range (mhParts m)).map (mhPart m)

/-- Are the reserved bytes of the part table 0? -/
def mhTableReserved (m : ManifestHead) : Bool := (List.range (mhParts m)).all (fun k =>
  let o := 256 + mhSigLength m + 64 * k
  mhAt m (o + 1) 3 == 0 && (m.bytes.drop (o + 48)).take 16 == zeros 16)

/-- HEADER_HASH: SHA-256 of header and header signature (13 Table 13.2). -/
def mhHash (m : ManifestHead) : Nat := hashOf (m.bytes.take (256 + mhSigLength m))

/-- May a signature have this length under some parameter set of 14 R332? -/
def anySigLength (n : Nat) : Bool := [15, 20, 25].any (fun a => n == 2192 + 32 * a || [15, 20, 25].any (fun b => n == 4436 + 32 * a + 32 * b))

/-- Do two parts overlap? -/
def partsOverlap (a b : MPart) : Bool := decide (a.offset < b.offset + b.length ∧ b.offset < a.offset + a.length)

/-- The part table's rules (13 R297, Tables 13.4, 13.5). -/
def partsOk (m : ManifestHead) : Bool :=
  let l := mhPartList m
  let ks := l.map (·.kind)
  hashBytes (mhTable m) == (m.bytes.drop 56).take 32 && decide (1 ≤ mhParts m ∧ mhParts m ≤ 16) && mhTableReserved m && distinctNats ks &&
  ks.all (fun k => decide ((1 ≤ k ∧ k ≤ 8) ∨ (128 ≤ k ∧ k ≤ 255))) && [1, 2, 3, 4, 5, 6, 7].all ks.contains &&
  l.all (fun p => decide (p.offset % 4096 = 0 ∧ headBytes m ≤ p.offset ∧ p.offset + p.length ≤ mhTotal m ∧ 1 ≤ p.length ∧
    p.length ≤ 33554432)) &&
  l.zipIdx.all (fun a => l.zipIdx.all (fun b => a.2 == b.2 || !partsOverlap a.1 b.1))

/-- The checks of R301 in order; `order` where the rules on schedule, UPDATE_ID and repeats bind too (13 R310). -/
def manifestCheck (order : Option Nat) (m : ManifestHead) (s : State) : U16 :=
  let x := stagingSlot s
  if m.bytes.take 4 ≠ asciiBytes "AKXM" ∨ mhAt m 6 2 ≠ 256 ∨ !mhReservedOk m ∨ m.bytes.length ≠ headBytes m then OC_UPD_HEADER
  else if mhAt m 5 1 ≠ 1 then OC_VERSION
  else if mhAt m 8 4 ≠ 0x8000 ∨ 0x10 < mhAt m 12 1 ∨ mhAt m 13 1 < 0x10 then OC_UPD_CLASS
  else if 58654720 < mhTotal m then OC_UPD_TOO_BIG
  else if !(mhAt m 14 1).testBit (lifecycleCode s) then OC_LIFECYCLE
  else if !m.signerOk ∨ !anySigLength (mhSigLength m) then OC_SIG
  else if mhAt m 24 4 < s.keys.floor then OC_UPD_ROLLBACK
  else if mhAt m 28 2 < max (fwSlot s 0).journalFloor (fwSlot s 1).journalFloor then OC_UPD_JOURNAL_LEVEL
  else if !partsOk m then OC_UPD_PART_TABLE
  else match order with
    | none => OC_OK
    | some id =>
      if s.upd.schedule.isSome then OC_UPD_SCHEDULED
      else if (x.state = 1 ∨ x.state = 2) ∧ x.updateId = id ∧ x.headerHash = mhHash m then OC_UPD_ALREADY
      else OC_OK

/-- A slot with a manifest's header accepted: STAGING, the bytes of the header stored and its payload to come (13 R301). -/
def slotBegun (id : Nat) (m : ManifestHead) (old : Slot) : Slot :=
  { state := 1, journalFloor := old.journalFloor, actSeq := old.actSeq, nextOffset := headBytes m, recorded := headBytes m, updateId := id,
    headerHash := mhHash m, securityFloor := old.securityFloor, copySeq := old.copySeq, securityVersion := mhAt m 24 4,
    journalLevel := mhAt m 28 2, lifecycleMask := mhAt m 14 1, total := mhTotal m, release := mhAt m 32 8, parts := mhPartList m,
    retiredMask := old.retiredMask, erased := false, payload := [(0, m.bytes)] }

/-- BEGIN on this unit: its outcome (13 R301). -/
def beginCore (id : Nat) (m : ManifestHead) (s : State) : U16 × State :=
  let c := manifestCheck (some id) m s
  if c ≠ OC_OK then (c, s)
  else (OC_OK, setFwSlot (stagingNo s) (slotBegun id m (stagingSlot s)) s)

/-! ### DATA (13 R302) -/

/-- The staged bytes of a slot from one offset to another. -/
def stagedBytes (x : Slot) (a n : Nat) : List U8 :=
  x.payload.flatMap (fun e =>
    if e.1 + e.2.length ≤ a ∨ a + n ≤ e.1 then [] else (e.2.drop (a - e.1)).take (a + n - max a e.1))

/-- The check of a complete cadastre part: R45, R47, and a SERIAL above the running one (13 R298). -/
def cadPartCode (i : CadImage) (s : State) : U16 :=
  let c := checkCode (cadCheck i s)
  if c ≠ OC_OK then c else if imgSerial i ≤ s.cad.serial then OC_CDST_ROLLBACK else OC_OK

/-- A part whose last byte has been staged: its hash, and its checks where it is a cadastre, whose signature verifies where `cadOk`. The outcome, and
the code that a refused cadastre part got. -/
def partDone (p : MPart) (cadOk : Bool) (x : Slot) (s : State) : U16 × Option U16 × Slot :=
  let b := stagedBytes x p.offset p.length
  let img : CadImage := { bytes := b, sigOk := cadOk }
  if hashOf b ≠ p.hash then (OC_UPD_PART_HASH, none, { x with state := 5 })
  else if p.kind = 8 ∧ cadPartCode img s ≠ OC_OK then (OC_UPD_PART_REFUSED, some (cadPartCode img s), { x with state := 5 })
  else (OC_OK, none, if p.kind = 8 then { x with cadImage := some img } else x)

/-- Program bytes at NEXT_OFFSET, read them back, and judge the parts they complete, in order (13 R302). -/
def slotProgram (bytes : List U8) (cadOk : Bool) (x : Slot) (s : State) : U16 × Option U16 × Slot :=
  let n0 := x.nextOffset
  let n1 := n0 + bytes.length
  let x := { x with payload := x.payload ++ [(n0, bytes)], nextOffset := n1 }
  let ended := x.parts.filter (fun p => decide (n0 < p.offset + p.length ∧ p.offset + p.length ≤ n1))
  let r := ended.foldl (fun (a : U16 × Option U16 × Slot) p => if a.1 ≠ OC_OK then a else partDone p cadOk a.2.2 s) (OC_OK, none, x)
  if r.1 ≠ OC_OK then r
  else
    let left := x.parts.filter (fun p => decide (n1 < p.offset + p.length))
    let first := (left.map (·.offset)).foldl min x.total
    let x : Slot := if ended.isEmpty then r.2.2 else { r.2.2 with recorded := first }
    (OC_OK, none, if x.nextOffset = x.total then { x with state := 2 } else x)

/-- DATA on a slot whose erase is done: its outcome, what DETAIL adds, and the slot (13 R302). -/
def dataCore (n : Nat) (d : StageData) (s : State) : U16 × Option U16 × State :=
  let x := fwSlot s n
  let len := d.bytes.length
  if x.state ≠ 1 ∨ x.updateId ≠ d.updateId then (OC_UPD_SEQUENCE, none, s)
  else if len = 0 ∨ 4000000 < len ∨ x.total < d.offset + len then (OC_RANGE, none, s)
  else if d.offset = x.nextOffset then
    let (c, l, y) := slotProgram d.bytes d.cadOk x s
    (c, l, setFwSlot n y s)
  else if d.offset + len ≤ x.nextOffset ∧ stagedBytes x d.offset len = d.bytes then (OC_UPD_ALREADY, none, s)
  else (OC_UPD_SEQUENCE, none, s)

/-! ### The orders (13 R301 to R305) -/

/-- In a pair, may BEGIN and DATA be forwarded: is the standby there and resynchronised (13 R304)? -/
def partnerReady (s : State) : Bool := !inPair s || (s.twin.link.paired && s.twin.resynced)

/-- What the standby answered to the bytes forwarded to it (13 R304): the outcome of the pair. -/
def partnerAnswer (partner : U16 × Nat × Nat) (c : U16) (s : State) : U16 × State :=
  if !inPair s then (c, s)
  else
    let s := modUpd (fun u => { u with peerSlot := partner.2 }) s
    (if 1 < ocClass partner.1 then partner.1 else c, s)

/-- MANIFEST_BEGIN (13 R301, R304). -/
def manifestBegin (e : Envelope) (id : Nat) (m : ManifestHead) (partner : U16 × Nat × Nat) (s : State) : State :=
  orderRow 4 false (fun _ => true) (fun s =>
    if id = 0 then .now OC_RANGE (updDetail s) 0 s
    else if !partnerReady s then .now OC_UPD_PARTNER (updDetail s) 0 s
    else
      let (c, s) := beginCore id m s
      if c ≠ OC_OK then .now c (updDetail s) 0 s
      else
        let s := if inPair s then blSendState 6 (.manifestHead id m) s else s
        let (c, s) := partnerAnswer partner c s
        .now c (updDetail s) 0 s) e s

/-- A DATA order is performed: this unit's staging, then the standby's answer. -/
def dataPerform (d : StageData) (s : State) : U16 × List U8 × State :=
  let (c, l, s) := dataCore (stagingNo s) d s
  if 1 < ocClass c then (c, updDetailWith l s, s)
  else
    let s := if inPair s then blSendState 6 (.manifestBytes d) s else s
    let (c, s) := partnerAnswer d.partner c s
    (c, updDetailWith l s, s)

/-- MANIFEST_DATA: bytes that reach ahead of the erase wait for it (13 R302, R304). -/
def manifestData (e : Envelope) (d : StageData) (s : State) : State :=
  orderRow 4 false (fun _ => true) (fun s =>
    let d := { d with headend := e.headend, orderId := e.orderId }
    let x := stagingSlot s
    if !partnerReady s then .now OC_UPD_PARTNER (updDetail s) 0 s
    else if x.state = 1 ∧ x.updateId = d.updateId ∧ !x.erased then .later (modUpd (fun u => { u with waiting := u.waiting ++ [d] }) s)
    else
      let (c, l, s) := dataPerform d s
      .now c l 0 s) e s

/-- STAGING_ERASE_DONE: the erase of the staging slot is complete, and the DATA orders that waited proceed (13 R301, R302). -/
def stagingEraseDone (s : State) : State :=
  let x := stagingSlot s
  if x.erased then s
  else
    let w := s.upd.waiting
    let s := modUpd (fun u => { u with slots := tabPut u.slots (stagingNo s) { x with erased := true }, waiting := [] }) s
    forEach w (fun d s =>
      let (c, l, s) := dataPerform d s
      orderAnswered d.headend d.orderId c l 0 s) s

/-- The schedule that an entry sets or removes: action 2 SCHEDULE with UPDATE_ID and ACTIVATE_AT, 3 CANCEL with DISCARD
(13 R305). -/
def scheduleApply (action id : Nat) (v : Nat) (s : State) : State :=
  if action = 2 then
    setFwSlot (stagingNo s) { stagingSlot s with activateAt := v }
      (modUpd (fun u => { u with schedule := some (id, v), deferredAt := none }) s)
  else
    let x := stagingSlot s
    let y := if v = 1 then { x with state := 0, activateAt := 0, updateId := 0, parts := [], payload := [], cadImage := none, nextOffset := 0, recorded := 0 }
      else { x with activateAt := 0 }
    setFwSlot (stagingNo s) y (modUpd (fun u => { u with schedule := none, deferredAt := none }) s)

/-- MANIFEST_SCHEDULE (13 R305). -/
def manifestSchedule (e : Envelope) (id at_ : Nat) (s : State) : State :=
  orderRow 4 true (fun _ => true) (fun s =>
    let x := stagingSlot s
    let staged := x.state == 2 && x.updateId == id && (!inPair s || s.upd.peerSlot.1 == 2)
    let c := if s.upd.schedule = some (id, at_) then OC_UPD_ALREADY
      else if !staged then OC_UPD_NOT_STAGED
      else if !x.lifecycleMask.testBit (lifecycleCode s) then OC_LIFECYCLE
      else if at_ % epochLen s ≠ 0 then OC_RANGE
      else if at_ < s.billing.time + 60000000000 then OC_UPD_TOO_LATE
      else OC_OK
    if c ≠ OC_OK then .now c (updDetail s) 0 s
    else
      let s := commitOrder 4 e [2, id, at_] s
      let j := s.jrn.lastJsn
      let s := scheduleApply 2 id at_ s
      .now OC_OK (updDetail s) j s) e s

/-- MANIFEST_CANCEL (13 R305). -/
def manifestCancel (e : Envelope) (id : Nat) (discard : Bool) (s : State) : State :=
  orderRow 4 true (fun _ => true) (fun s =>
    let x := stagingSlot s
    let names : Bool := s.upd.schedule.any (fun p => p.1 == id) || (discard && x.updateId == id && x.state != 0)
    if s.upd.activating then .now OC_BUSY (updDetail s) 0 s
    else if !names then .now OC_UPD_ALREADY (updDetail s) 0 s
    else
      let v : Nat := if discard then 1 else 0
      let s := commitOrder 4 e [3, id, v] s
      let j := s.jrn.lastJsn
      let s := scheduleApply 3 id v s
      .now OC_OK (updDetail s) j s) e s

/-- MANIFEST_STATUS (13 R303); an ACTION beyond Table 13.6 is out of range. -/
def manifestStatus (e : Envelope) (action : Nat) (s : State) : State :=
  orderRow 4 false (fun _ => true) (fun s => .now (if 4 < action then OC_RANGE else OC_OK) (updDetail s) 0 s) e s

/-! ### The slot to boot (13 R307) -/

/-- The COMMITTED slot of highest ACT_SEQ among `l`, the strap's slot on a tie. -/
def committedBest (s : State) (l : List Nat) : Option Nat :=
  let pref := if s.glob.straps.toNat % 4 = 1 then 1 else 0
  match l.filter (fun n => (fwSlot s n).state == 4) with
  | [] => none
  | [n] => some n
  | _ =>
    let a := (fwSlot s 0).actSeq
    let b := (fwSlot s 1).actSeq
    some (if a = b then pref else if a < b then 1 else 0)

/-- A slot whose trial ended: FAILED, recorded, counted and noted for the first REPORT (13 R307, R308). -/
def trialFailed (n : Nat) (s : State) : State :=
  let s := setFwSlot n { fwSlot s n with state := 5 } s
  addNote OC_UPD_FALLBACK [n] (record 10 OC_UPD_FALLBACK [u32 n] (modUpd (fun u => { u with fallbacks := u.fallbacks + 1, trialAt := none }) s))

/-- Where R307 leads: the slot to boot, or the code that leads to RECOVERY. `bad` names the slots a part of which fails its hash. -/
def bootSelect (bad : List Nat) (s : State) : Except U16 Nat × State :=
  let s := forEach ([0, 1].filter (fun n => (fwSlot s n).state == 3 && decide (1 ≤ (fwSlot s n).trialBoots))) trialFailed s
  let (first, s) := match [0, 1].find? (fun n => (fwSlot s n).state == 3) with
    | some n => (some n, modUpd (fun u => { u with activations := u.activations + 1 }) (setFwSlot n { fwSlot s n with trialBoots := 1 } s))
    | none => (committedBest s [0, 1], s)
  let (pick, s) := match first with
    | none => (none, s)
    | some n =>
      if bad.contains n then
        let s := record 10 OC_UPD_PART_HASH [u32 n] (setFwSlot n { fwSlot s n with state := 5 } s)
        match committedBest s [1 - n] with
        | none => (none, s)
        | some k =>
          if bad.contains k then (none, record 10 OC_UPD_PART_HASH [u32 k] (setFwSlot k { fwSlot s k with state := 5 } s)) else (some k, s)
      else (some n, s)
  match pick with
  | none => (.error OC_UPD_PART_HASH, s)
  | some n =>
    if (fwSlot s n).journalLevel < max (fwSlot s 0).journalFloor (fwSlot s 1).journalFloor then (.error OC_UPD_JOURNAL_LEVEL, s)
    else (.ok n, s)

end Sys2Proof.Machine
end

