-- ==== Sys2Proof/Machine/Replay.lean ====
section
/-! DEFINITION. Replay: re-applying committed entries above each target's watermark, at a start (04 R101 to R104), for one parcel
under a C3 reload (03 R79), and on a standby as the active's entries commit (15 R346). -/

namespace Sys2Proof.Machine

/-- IMAGE_JSN of a parcel (08 R202), 0 where it has no record. -/
def imageJsn (s : State) (i : Nat) : Nat := ((tabFind s.store.image i).map (·.2)).getD 0

/-- Apply a READING entry: its estimated values (05 R132), the head, then the tariff engine, the Steelyard and the archive (04 R101). -/
def replayReading (i : Nat) (e : JEntry) (rs : List Rec) (tail : ReadTail) (s : State) : State :=
  let p := parcelOf s i
  let prevs := prevTimes rs p.channels
  let s := setParcel i (headAfter e e.epoch rs tail p) (keepEstimates e.jsn p e.profiles rs s)
  archEntry i e rs (steelEntry i e rs tail prevs (creditEntry i e rs prevs s))

/-- Apply a CAMPAIGN_STEP entry to its parcel (12 R287, Table 12.10). -/
def campaignStepApply (i : Nat) (ns : List Int) (s : State) : State :=
  let p := parcelOf s i
  let n (k : Nat) : Nat := (ns.getD k 0).toNat
  setParcel i { p with inCampaign := !epTerminal (n 1),
                       campaign := { p.campaign with campaign := n 0, ep := n 1, attempts := n 2, nextBlock := n 3, stateTime := n 4,
                                                     lastCode := n 5, lastActivated := n 6 } } s

/-- Apply an entry bound to parcel `i` (03 R72 to R78, 07 R176, 12 R287, 03 R58). -/
def applyBound (e : JEntry) (i : Nat) (s : State) : State := match e.body with
  | .reading rs t => replayReading i e rs t s
  | .enrol b => enrolApply i e.generation e.admitAt b s
  | .retire .. => retireApply i e.admitAt e.jsn s
  | .release .. => releaseApply i e.admitAt s
  | .keyload _ _ _ _ n k => keyloadApply i n e.admitAt k s
  | .order k _ _ _ _ ns =>
    if k = 9 then applyTopology i (ns.getD 3 0).toNat (ns.getD 2 0).toNat e.admitAt s
    else if k = 0x81 then campaignStepApply i ns s
    else if k = 0x84 then setParcel i { parcelOf s i with keyInvalid := true, keyInvalidPending := false } s
    else s
  | _ => s

/-- Is an ENROL entry, which is exempt from the generation test (04 R101)? -/
def isEnrol : JBody → Bool
  | .enrol _ => true
  | _ => false

/-- An entry whose GENERATION differs is skipped and counted (04 R101, 03 R77). -/
def genSkip (s : State) : State := modTrav (fun t => { t with genSkipped := t.genSkipped + 1 }) s

/-- The free list after an entry, where the list's own watermark is below it (03 R73). -/
def freeAfter (e : JEntry) (i : Nat) (s : State) : List (Nat × Nat) :=
  if e.jsn ≤ s.store.imageFree.2 then s.store.free
  else match e.body with
    | .enrol _ => rangesDrop i s.store.free
    | .release .. => rangesAdd i s.store.free
    | _ => s.store.free

/-- Replay an entry bound to a parcel: to the parcel where its IMAGE_JSN is below, to the Steelyard's own state where its watermark is,
and to the free list where the list's is (04 R101). -/
def replayBound (e : JEntry) (i : Nat) (s : State) : State :=
  let free := freeAfter e i s
  let t := if e.jsn ≤ imageJsn s i then s
    else if isEnrol e.body || e.generation == (parcelOf s i).generation then
      let u := applyBound e i s
      if e.jsn ≤ tabGet s.flash.imageMarks 1 0 then { u with steel := s.steel } else u
    else genSkip s
  { t with store := { t.store with free := free } }

/-- The image an ORDER entry of kind 2 carries: after calendar number, activation instant and presence. -/
def calendarImage (ns : List Int) : Option (List Nat) :=
  if ns.getD 2 0 = 0 then none else some ((ns.drop 3).map Int.toNat)

/-- A logged amendment of a sequence, committed at `t`, changes the topology and the loss classes from the boundary that followed (07 R162). -/
def topoReplay (q t : Nat) (s : State) : State := match s.cad.log.find? (fun a => amdSequence a == q && amdBase a == s.cad.serial) with
  | none => s
  | some a =>
    let nodes := tagRows (amdRecords a) 0x0301
    let losses := tagRows (amdRecords a) 0x0302
    topoPush (topoAmend ((t / epochLen s + 1) * epochLen s) nodes losses (topoNow s)) s

/-- Replay an entry bound to no parcel, to the calendar store, the Steelyard, the free list and campaign members (04 R101, 06 R142). -/
def replayFree (e : JEntry) (s : State) : State := match e.body with
  | .calendarActivate ns =>
    if e.jsn ≤ s.billing.saved.2 then s
    else
      let c := (ns.getD 0 0).toNat
      modBilling (fun b => { b with cals := tabPut b.cals c (activateSlot (tabGet b.cals c {})) }) s
  | .epochSeal n _ ms off =>
    if e.jsn ≤ tabGet s.flash.imageMarks 1 0 then s else sealReplay n ((n + 1 - off) * (ms : Int) * 1000000).toNat e.jsn s
  | .order k _ _ _ _ ns =>
    let n (j : Nat) : Nat := (ns.getD j 0).toNat
    if k = 2 then (if e.jsn ≤ s.billing.saved.2 then s else calendarApply (n 0) (n 1) (calendarImage ns) e.jsn s)
    else if k = 3 ∧ n 0 = 0 then
      let ms := ((campaignOf s (n 1)).map (·.members)).getD []
      forEach (ms.filter (fun i => decide (imageJsn s i < e.jsn))) (fun i t =>
        let t := memberWaits (n 1) i t
        let p := parcelOf t i
        setParcel i { p with campaign := { p.campaign with stateTime := e.admitAt } } t) s
    else if k = 1 then (if e.jsn ≤ tabGet s.flash.imageMarks 1 0 then s else topoReplay (n 1) e.admitAt s)
    else if k = 0x80 then
      (if e.jsn ≤ tabGet s.flash.imageMarks 1 0 then s else cellTransition (n 0) (n 1 == 2) (n 4) s)
    else if k = 0x85 then (if e.jsn ≤ s.store.imageFree.2 then s else applyCapacity (n 0) (n 1) s)
    else s
  | _ => s

/-- Replay one entry (04 R101, R102). -/
def replayEntry (e : JEntry) (s : State) : State := match e.parcel with
  | some i => replayBound e i s
  | none => replayFree e s

/-- Sheet items that a replay adds to those held: estimated values, register snapshots, corrections, balance records and the Steelyard's events of
entries whose work had not run (05 R132, 06 R154, R156, R157, 07 R166). -/
def replayItems (s t : State) : List SheetItem :=
  s.hx.items ++ (t.hx.items.drop s.hx.items.length).filter (fun x => decide (x.sec ≤ 3) || (x.sec == 5 && decide (4 ≤ x.nums.headD 0 ∧ x.nums.headD 0 ≤ 12)))

/-- The state `t` after a replay from `s`: replay advances no counter but GEN_SKIPPED, sends nothing and records nothing; what the sheets
owe of the replayed entries is kept (04 R102, 06 R157, R159, 07 R180, 08 R203, 12 R294). -/
def quietly (f : State → State) (s : State) : State :=
  let t := f { s with jrn := { s.jrn with replaying := true } }
  let b := { t.billing with credits := s.billing.credits, degradedCredits := s.billing.degradedCredits, corrections := s.billing.corrections,
                            excluded := s.billing.excluded, mdUpdates := s.billing.mdUpdates, periodCloses := s.billing.periodCloses,
                            boundaryCommits := s.billing.boundaryCommits, activations := s.billing.activations }
  let v := { t.steel with closed := s.steel.closed, invalid := s.steel.invalid, suspended := s.steel.suspended, late := s.steel.late,
                          evict := s.steel.evict, suspects := s.steel.suspects, outageEvents := s.steel.outageEvents,
                          theoPasses := s.steel.theoPasses, proposals := s.steel.proposals, applied := s.steel.applied,
                          phaseVotes := s.steel.phaseVotes }
  { t with billing := b, steel := v, hx := { s.hx with items := replayItems s t }, out := s.out, notes := s.notes, downs := s.downs, fb := s.fb,
           jrn := { t.jrn with replaying := s.jrn.replaying },
           flash := { t.flash with notArchived := s.flash.notArchived, chunksWritten := s.flash.chunksWritten, released := s.flash.released },
           trav := { s.trav with genSkipped := t.trav.genSkipped } }

/-- Last JSN of the reserve page that holds an entry (04 R99, R103). -/
def pageEnd (s : State) (j : Nat) : Nat := (s.jrn.reserve.find? (fun e => decide (j ≤ e))).getD j

/-- Entries a start cannot read (04 R103): a bad header loses the rest of its page, a bad body its entry. -/
def unreadable (s : State) (l : List (Nat × Bool)) (j : Nat) : Bool :=
  l.any (fun c => if c.2 then decide (c.1 ≤ j ∧ j ≤ pageEnd s c.1) else c.1 == j)

/-- Record the losses of a replay, each once, and keep them for the first sheet (04 R103). -/
def recordLosses (l : List (Nat × Bool)) (s : State) : State :=
  forEach l (fun c t =>
    let last := if c.2 then pageEnd t c.1 else c.1
    let par := ((t.jrn.entries.find? (fun e => e.jsn == c.1)).bind (·.parcel)).getD 0x1FFFFFF
    let t := record 16 OC_JOURNAL_CORRUPT [lo32 c.1, hi32 c.1, lo32 last, hi32 last, u32 par] t
    { t with jrn := { t.jrn with losses := t.jrn.losses ++ [(19, c.1, if c.2 then 0xFFFFFF else par)] } }) s

/-- Replay of the whole journal (04 R102): every readable entry above its targets' watermarks, in JSN order. -/
def replayAll (corrupt : List (Nat × Bool)) (s : State) : State :=
  let es := s.jrn.entries.filter (fun e => decide (e.jsn ≤ s.jrn.durable) && !unreadable s corrupt e.jsn)
  let t := quietly (forEach es replayEntry) (recordLosses corrupt s)
  { t with jrn := { t.jrn with entries := t.jrn.entries.filter (fun e => !unreadable s corrupt e.jsn) } }

/-- Re-apply an entry to a parcel under reload. Of a READING entry whose frame has not passed stage 8, 9 or 10 yet, those stages are left to the
frame's tag and to the engine queues, so that each effect lands once (04 R101). -/
def reloadEntry (s : State) (e : JEntry) (i : Nat) (u : State) : State := match e.body with
  | .reading rs t =>
    let tag := s.trav.tags.find? (fun x => x.state == .committed && x.jsn == e.jsn)
    let reg := (tag.map (·.regDone)).getD true
    let waits (k : Nat) : Bool := !reg || (engineQueue s k).any (fun x => x.entry.jsn == e.jsn)
    let p := parcelOf u i
    let prevs := prevTimes rs p.channels
    let u := setParcel i (headAfter e e.epoch rs t p) u
    let u := if reg then creditEntry i e rs prevs u else u
    let u := if waits 1 || (tag.map (fun x => !x.steelDone)).getD false then u else steelEntry i e rs t prevs u
    if waits 2 || (tag.map (fun x => !x.archDone)).getD false then u else archEntry i e rs u
  | _ => applyBound e i u

/-- PARCEL_RESTORE_DONE: a parcel under C3 reload takes its image record, and the entries of its domain since are applied to it alone;
it is ACTIVE again and the handling ends (03 R79, 04 R102). -/
def parcelRestoreDone (i : Nat) (s : State) : State :=
  let p := parcelOf s i
  if p.state ≠ .restoring then s
  else
    let img := ((tabFind s.store.image i).map (·.1)).getD {}
    let es := s.jrn.entries.filter (fun e => e.parcel == some i)
    let redo (t : State) : State := forEach es (fun e u =>
      if e.jsn ≤ imageJsn u i then u
      else if isEnrol e.body || e.generation == (parcelOf u i).generation then reloadEntry s e i u else genSkip u) t
    let t := quietly redo (setParcel i img s)
    let q := parcelOf t i
    let q := { q with state := if q.state = .restoring then .active else q.state, retireAccepted := p.retireAccepted,
                      keyInvalidPending := p.keyInvalidPending, downlink := p.downlink, downlinkPending := p.downlinkPending }
    let s := setParcel i q { s with trav := { s.trav with genSkipped := t.trav.genSkipped } }
    let s := linesWritten (fun l => areaOf s l == .parcel i) s
    match s.trav.handlings.find? (fun h => h.scope == .parcel i) with
    | some h => handlingEnd h.id s
    | none => s

/-! ### A standby applies the active's entries (15 R346, R352) -/

/-- A BOUNDARY entry of the active (06 R150, R151, Table 6.11): kept for R151, and a closure of a period starts its sweep. -/
def boundaryApply (kind : Nat) (ns : List Int) (jsn time : Nat) (s : State) : State :=
  let n (j : Nat) : Nat := (ns.getD j 0).toNat
  let b : BoundaryEntry := { jsn := jsn, kind := kind, calendar := n 0, period := n 1 % 2 == 1, catchUp := n 1 / 2 % 2 == 1, through := n 2,
                             prevThrough := n 3, nextAsn := n 4, billingTime := n 5, periodEnd := n 6 }
  let w : Sweep := { calendar := some b.calendar, epoch := epochAt s time, through := b.through, jsn := jsn }
  modBilling (fun x => { x with bounds := b :: x.bounds, boundaryCommits := x.boundaryCommits + 1,
                                sweeps := if kind = 1 ∧ b.period then x.sweeps ++ [w] else x.sweeps }) s

/-- The range of a sealed epoch, from its EPOCH_SEAL entry; outages whose window is over are reported here too (04 R454, 07 R178,
12 Table 12.5). -/
def sealApply (e : Int) (ms jsn q : Nat) (s : State) : State :=
  let s := steelSeal (epochEnd s e) (outageReport jsn (epochEnd s e) s)
  { s with hx := { s.hx with ranges := s.hx.ranges ++ [(e, jsn, q, ms)] },
           jrn := { s.jrn with lastSeal := jsn, sealed := some (e, ms, epochEnd s e) } }

/-- Campaign orders of the active: a start with the copied campaign, or a cancel (12 R290, R291, 15 R346). -/
def campaignEntryApply (ns : List Int) (jsn : Nat) (s : State) : State :=
  let n (j : Nat) : Nat := (ns.getD j 0).toNat
  if n 0 = 1 then campaignStop (n 1) 2 0 s
  else match tabFind s.hx.copies (n 1) with
    | none => s
    | some c =>
      let hold := (s.hx.campaigns.filter (fun e => e.2.members.any (fun i => c.members.contains i))).map (·.1)
      let s := if n 4 = 1 then forEach hold (fun k s => campaignStop k 3 c.number s) s else s
      let s := { s with hx := { s.hx with campaigns := tabPut s.hx.campaigns c.number { c with jsn := jsn }, copies := tabDel s.hx.copies c.number } }
      forEach c.members (memberWaits c.number) s

/-- A KEYLOAD or lifecycle entry of the active: vault and cell keys, and MAINTENANCE (14 R321, R329). -/
def keyEntryApply (ns : List Int) (jsn : Nat) (s : State) : State :=
  let n (j : Nat) : Nat := (ns.getD j 0).toNat
  if n 0 = 2 then maintApply true s
  else if n 0 = 3 then maintApply false s
  else if n 1 = 2 then cellKeyApply (n 0 == 1) (n 2) (n 3) (n 4) jsn s
  else vaultApply (n 0 == 1) (n 2) (n 3) (n 4) (n 5) s

/-- A snapshot mark from an ORDER or SNAPSHOT_MARK entry: scope, calendar and list after the instant (12 R288). -/
def markOf (ns : List Int) : SnapMark :=
  { at_ := (ns.getD 0 0).toNat, scope := (ns.getD 1 0).toNat, calendar := (ns.getD 2 0).toNat,
    identities := (ns.drop 3).map (fun x => BitVec.ofNat 64 x.toNat) }

/-- An ORDER entry of the active bound to no parcel (12 R287). -/
def orderEntryApply (kind : Nat) (ns : List Int) (amend : Option Amendment) (jsn time : Nat) (s : State) : State :=
  let n (j : Nat) : Nat := (ns.getD j 0).toNat
  match kind with
  | 1 => match amend with
    | some a => match amendCheck a s with
      | .ok v =>
        let s := amendAccept a v s
        if (tagsOf (amdRecords a)).contains 0x0602 then modAct (fun t => { t with cellsJsn := jsn }) s else s
      | .error _ => s
    | none => s
  | 2 => calendarApply (n 0) (n 1) (calendarImage ns) jsn s
  | 3 => campaignEntryApply ns jsn s
  | 4 => scheduleApply (n 0) (n 1) (n 2) s
  | 7 => keyEntryApply ns jsn s
  | 11 => modBilling (fun b => { b with marks := b.marks ++ [markOf ns] }) s
  | 0x80 => cellTransition (n 0) (n 1 == 2) (n 4) (modAct (fun t =>
      { t with cells := tabMod t.cells (n 0) {} (fun c => { c with link := if n 1 = 2 then 3 else 2 }) }) s)
  | 0x82 =>
    let m := markOf (ns.drop 1)
    modBilling (fun b => { b with marks := b.marks.map (fun x => if x = m then { x with committed := some (jsn, n 0) } else x),
                                  sweeps := b.sweeps ++ [{ calendar := none, epoch := epochAt s time, through := m.at_, jsn := jsn }] }) s
  | 0x83 => utcApply (n 0) (ns.getD 1 0) s
  | 0x85 => applyCapacity (n 0) (n 1) s
  | _ => s

/-- A campaign of the active ends with the last step of its members: complete, or at its deadline (12 R292, 15 R346). -/
def campaignFollow (e : JEntry) (s : State) : State := match e.body with
  | .order k _ _ _ _ ns =>
    if k = 0x81 then
      let n := (ns.getD 0 0).toNat
      campaignCompleteAs (if (campaignOf s n).any (fun c => decide (c.deadline ≤ e.admitAt)) then 1 else 0) n s
    else s
  | _ => s

/-- A standby applies an entry of the active as it commits with its JSN (15 R346); EPOCH_OFFSET is that of the active's journal (01 R22). -/
def applyEntry (e : JEntry) (amend : Option Amendment) (s : State) : State := match e.parcel with
  | some i => if isEnrol e.body || e.generation == (parcelOf s i).generation then campaignFollow e (applyBound e i s) else genSkip s
  | none => match e.body with
    | .boundary k ns => boundaryApply k ns e.jsn e.admitAt s
    | .calendarActivate ns =>
      let c := (ns.getD 0 0).toNat
      modBilling (fun b => { b with cals := tabPut b.cals c (activateSlot (tabGet b.cals c {})), activations := b.activations + 1 }) s
    | .epochSeal n _ ms off =>
      sealApply n ms e.jsn s.glob.tq { s with epoch := { s.epoch with offset := off, current := ((devTime s / epochLen s : Nat) : Int) + off } }
    | .order k _ _ _ _ ns => orderEntryApply k ns amend e.jsn e.admitAt s
    | _ => s

end Sys2Proof.Machine
end

