-- ==== Sys2Proof/Machine/Restart.lean ====
section
/-! DEFINITION. Warm and cold reset (00 R7): which state stands after a restart. Media (NAND, QSPI, OTP), the always-on domain
and the RWS registers survive; everything else takes its reset value. -/

namespace Sys2Proof.Machine

/-- The journal a restart finds: the entries in the reserve (04 R99, R102). -/
def journalAfter (s : State) : JournalSt :=
  let j := s.jrn
  let es := j.entries.filter (fun e => decide (e.jsn ≤ j.durable))
  let seals := es.filterMap (fun e => match e.body with
    | .epochSeal n _ ms o => some (e.jsn, n, ms, o)
    | _ => none)
  let kept : Bool := decide (j.lastSeal ≤ j.durable)
  let last := seals.getLast?
  { entries := es, lastJsn := j.durable, durable := j.durable, reserve := j.reserve,
    lastSeal := if kept then j.lastSeal else (last.map (·.1)).getD 0,
    sealed := if kept then j.sealed else last.map (fun x => (x.2.1, x.2.2.1, ((x.2.1 + 1 - x.2.2.2) * (x.2.2.1 : Int) * 1000000).toNat)),
    losses := j.losses }

/-- Was an ORDER entry of a kind and body lost with the journal's tail? -/
def orderLost (s : State) (kind : Nat) (body : List Int → Bool) : Bool :=
  s.jrn.entries.any (fun e => decide (s.jrn.durable < e.jsn) && (match e.body with
    | .order k _ _ _ _ ns => k == kind && body ns
    | _ => false))

/-- Billing as a restart finds it: boundary entries, running sweeps (begun again) and snapshot marks of the durable journal, and the
calendar store of the image (06 R142, R151, 12 R288). -/
def billingAfter (s : State) : BillingSt :=
  let b := s.billing
  let d := s.jrn.durable
  { time := b.time, bounds := b.bounds.filter (fun x => decide (x.jsn ≤ d)), cals := b.saved.1, saved := b.saved,
    sweeps := (b.sweeps.filter (fun w => decide (w.jsn ≤ d))).map (fun w => { w with slice := 0, waiting := [] }),
    marks := (b.marks.filter (fun m => !orderLost s 11 (fun ns => ns == markNums m))).map (fun m => match m.committed with
      | some (j, _) => if d < j then { m with committed := none } else m
      | none => m) }

/-- Head-end Exchange as a restart finds it: ranges and section items of the durable journal, ACK_THROUGH of the image, campaigns
whose entries are durable (12 R281, R282, R291). -/
def hxAfter (s : State) : HxSt :=
  let h := s.hx
  let d := s.jrn.durable
  { nextSid := h.nextSid, acks := h.acksSaved, acksSaved := h.acksSaved, items := h.items.filter (fun i => decide (i.jsn ≤ d)),
    ranges := h.ranges.filter (fun r => decide (r.2.1 ≤ d)), campaigns := h.campaigns.filter (fun c => decide (c.2.jsn ≤ d)),
    campImages := h.campImages, copies := h.copies }

/-- Keys as a restart finds them: OTP, the warden record, the vault section (14 R319, R326, R334). -/
def keysAfter (s : State) : KeySt :=
  let k := s.keys
  { state := k.state, maintenance := k.maintenance, rootLocked := k.rootLocked, rootSource := k.rootSource, rootInit := k.rootInit, fuseRoot := k.fuseRoot, enrolled := k.enrolled,
    uid := k.uid, floor := k.floor, vaultSaved := k.vaultSaved, pkekGen := k.pkekGen, pkekPrev := k.pkekPrev,
    controlEnd := k.controlEnd, wardenA := k.wardenA, wardenB := k.wardenB, rangeFuses := k.rangeFuses, carried := k.carried,
    firstStart := k.firstStart }

/-- Device update as a restart finds it: a slot being staged resumes at the NEXT_OFFSET last recorded (13 R302), the schedule stands,
and the RWS fields stand where VCC_AON was kept (13 R313, 02 R40). -/
def updAfter (cold : Bool) (s : State) : UpdSt :=
  let u := s.upd
  let resume (x : Slot) : Slot := if x.state = 1 then
      { x with nextOffset := x.recorded, payload := x.payload.filter (fun p => decide (p.1 < x.recorded)) } else x
  { slots := u.slots.map (fun e => (e.1, resume e.2)),
    running := u.running, schedule := u.schedule, trialAt := if cold then none else u.trialAt, recoveryDone := !cold && u.recoveryDone,
    peerRelease := u.peerRelease, activations := if cold then 0 else u.activations,
    fallbacks := if cold then 0 else u.fallbacks, recoveries := if cold then 0 else u.recoveries,
    bootAttempts := if cold then 0 else u.bootAttempts }

/-- A copy cut in the middle: of each page that stands twice the source is kept, and the target is erased (08 R189, R197). -/
def gcUndone (s : State) : State := match s.flash.job with
  | none => s
  | some j => modFlash (fun f => { f with erasing := f.erasing ++ [j.target] })
      (modSeg j.victim (fun g => { g with pages := g.pages.map (fun p =>
        if j.copied.any (fun c => c.page == p.page) then { p with valid := !p.chunks.isEmpty } else p) }) s)

/-- NAND and what stands in it; work under way is lost (08 R197, R201, R202). -/
def flashAfter (s : State) : FlashSt :=
  let f := (gcUndone s).flash
  { fitted := f.fitted, formatted := f.formatted, ringPages := f.ringPages, ringSpares := f.ringSpares, archGood := f.archGood,
    free := f.free, spare := f.spare, erasing := f.erasing, retired := f.retired, pe := f.pe, segments := f.segments,
    nextSerial := f.nextSerial, seqs := f.seqs, ringTags := f.ringTags, imageTags := f.imageTags, laps := f.laps, control := f.control, imagePsk := f.imagePsk, imageSteel := f.imageSteel, imageMarks := f.imageMarks, ringPos := f.ringPos }

/-- Field books: the keeper's buffer, HOURS and CYCLES are always-on; the ring is rebuilt at step 12 from the saved section and the
buffer (18 R412, R415). After a cold reset CYCLES advances and both take the higher of their own and the saved values. -/
def fbAfter (cold : Bool) (s : State) : FbSt :=
  let f := s.fb
  let buf := if cold then [] else f.buffer
  let h := (f.savedTime.map (·.1)).getD 0
  let c := (f.savedTime.map (·.2)).getD 0
  { saved := f.saved, savedSeq := f.savedSeq, savedTime := f.savedTime, buffer := buf, lost := if cold then none else f.lost,
    nextSeq := max f.savedSeq (buf.foldl (fun m e => max m e.1) 0) + 1,
    hours := if cold then h else f.hours, cycles := if cold then satTo 0xFFFFFF (c + 1) else f.cycles, hoursAt := if cold then s.mono else f.hoursAt }

/-- The journal names a lost CELL_STATE entry of a cell? Then its link state is that of the last durable one (11 R263, log 25). -/
def cellsAfter (s : State) : Tab ActCell :=
  s.act.cells.filterMap (fun e =>
    let last := s.jrn.entries.foldl (fun (m : Option Nat) x => match x.body with
      | .order k _ _ _ _ ns => if k = 0x80 ∧ ns.getD 0 (-1) = (e.1 : Int) ∧ x.jsn ≤ s.jrn.durable then some (if ns.getD 1 0 = 2 then 3 else 2) else m
      | _ => m) none
    let link := match last with
      | some l => l
      | none => if orderLost s 0x80 (fun ns => ns.getD 0 (-1) == (e.1 : Int)) then 0 else e.2.link
    if link = 0 then none else some (e.1, { link := link }))

/-- The cadastre as a restart finds it: the regions, the amendment log and the highest serials of both QSPI devices (02 R41, R47, R52). -/
def cadAfter (s : State) : CadSt :=
  let c := s.cad
  { log := c.log, logBytes := c.logBytes, highA := c.highA, highB := c.highB, integratorKey := c.integratorKey, regionA := c.regionA, regionB := c.regionB }

/-- The state after a reset, in RESET at step 1 of Table 2.4. `cold` is a reset with loss of VCC_AON (00 R7). -/
def resetAs (cold : Bool) (s : State) : State :=
  let t : State :=
    { mono := s.mono, freeCtr := s.freeCtr, out := s.out, pending := s.pending,
      glob := { startAt := s.mono, startWd := s.keys.state != 6 },
      bench := { aonTime := if cold then 0 else s.bench.aonTime, aonValid := !cold && s.bench.aonValid },
      clk := {},
      fb := fbAfter cold s,
      ecc := { dramGib := s.ecc.dramGib, speed := s.ecc.speed, channels := s.ecc.channels, uniform := s.ecc.uniform, ranks := s.ecc.ranks },
      mbox := if cold then {} else s.mbox,
      power := if cold then { marker := s.power.marker, tripped := s.power.tripped }
        else { trips := s.power.trips, lgLastUs := s.power.lgLastUs, lgKib := s.power.lgKib, marker := s.power.marker, tripped := s.power.tripped },
      panel := { shown := s.panel.shown, acc := if cold then [] else (panelCut s).panel.acc, accKnown := !cold && s.panel.accKnown },
      cad := cadAfter s,
      store := { image := s.store.image, imageCapacity := s.store.imageCapacity, imageFree := s.store.imageFree, hashDraw := s.freeCtr },
      jrn := journalAfter s, billing := billingAfter s, hx := hxAfter s,
      steel := { s.flash.imageSteel with closed := 0, invalid := 0, suspended := 0, late := 0, evict := 0, suspects := 0, outageEvents := 0,
                                         theoPasses := 0, proposals := 0, applied := 0, phaseVotes := 0 },
      keys := keysAfter s, upd := updAfter cold s, flash := flashAfter s,
      plc := { ports := s.plc.ports.map (fun e => (e.1, { joined := e.2.joined, freed := e.2.freed, keyIndex := e.2.keyIndex, rekey := e.2.rekey })) },
      radio := { ports := s.radio.ports.map (fun e => (e.1, { eps := e.2.eps, freed := e.2.freed, buckets := e.2.buckets })) },
      act := { cells := cellsAfter s, psk := s.flash.imagePsk, cellsJsn := s.act.cellsJsn } }
  let t := if cold ∧ s.fb.savedTime.isNone then record 3 OC_FB_TIME_RESET [] t else t
  let t := if cold then t else mboxDeviceReset t
  (draw t).2

/-- A warm reset: a restart without loss of VCC_AON (00 R7). TWIN_ALIVE and TWIN_ROLE stand low in the reset season. -/
def warmReset (s : State) : State := resetAs false s

end Sys2Proof.Machine
end

