-- ==== Sys2Proof/Machine/Startup.lean ====
section
/-! DEFINITION. The start-up sequence of 02 Table 2.4, steps 1 to 14, from the reset season to enabled ports. -/

namespace Sys2Proof.Machine

/-- A part of the sequence: the state it reaches, or the state in which the start stopped. -/
abbrev Start := Except State State

/-- The start stops in HALTED (02 R39). -/
def stopAt (code : U16) (payload : List U32) (s : State) : Start := .error (halt code payload s)

/-- Step `n` of Table 2.4 is done. -/
def stepDone (n : Nat) (s : State) : State := { s with glob := { s.glob with startStep := n } }

/-- Steps 1 to 4: FIO, the rails, XA with CPLL and TPLL (16 R370, 20 R437). A rail or source that fails is named in the record; step 4
states no code, and OC_FAULT naming source 1 stands for it (log 27). -/
def startPower (i : StartInfo) (s : State) : Start :=
  let s := { s with clk := { s.clk with fio := { good := i.fioGood, failed := !i.fioGood, since := s.mono }, keeperSio := !i.fioGood } }
  let s := stepDone 2 s
  match i.railFail with
  | some r => stopAt OC_FAULT [u32 r] s
  | none =>
    let s := stepDone 3 { s with power := { s.power with railEn := true, huEn := true, armed := true } }
    if !i.clocksGood then stopAt OC_FAULT [0x101#32] s
    else
      let s := { s with clk := { s.clk with xa := { good := true }, pllLock := 0b1001#4 }, bench := { s.bench with running := true } }
      .ok (stepDone 4 (ratioTaken i.xaCount s))

/-- Step 5: the straps, and device time from the always-on counter (02 R33, R34, 16 R361). -/
def startStraps (i : StartInfo) (s : State) : State :=
  let st := i.pins.setWidth 6
  let bad : Bool := st.toNat / 16 != 0
  let s := { s with glob := { s.glob with straps := st, gpioIn := i.pins, strapErr := bad } }
  let s := applyIf bad (record 0 OC_RESERVED_SET [u32 (st.toNat / 16)]) s
  let t := if s.bench.aonValid then s.bench.aonTime else 0
  let s := setAnchor t { s with glob := { s.glob with tq := if s.bench.aonValid then 2 else 3 },
                                epoch := { s.epoch with clock := t }, billing := { s.billing with tqAt := t }, ptp := { s.ptp with suspectAt := s.mono } }
  stepDone 5 s

/-- Boot source SP[1:0] (02 Table 2.1). -/
def bootSrc (s : State) : Nat := s.glob.straps.toNat % 4

/-- The blocks that the ROM enables for the companion's images: update, DMA, queues and mailboxes (17 R379). -/
def romBlocks (s : State) : State := { s with clk := { s.clk with enable0 := 0x1780#32 } }

/-- The DRAM population is trained and meets R18. -/
def dramOk (i : StartInfo) (s : State) : Bool :=
  i.trained && decide (s.ecc.speed ≤ 2 ∧ s.ecc.channels = 2) && s.ecc.uniform && [32, 64, 128, 256].contains s.ecc.dramGib

/-- The DRAM population found at this start: GiB, speed grade, channels populated, and whether the subchannels are equal (01 R18). -/
def dramFound (i : StartInfo) (s : State) : State := match i.dram with
  | some (g, sp, c, u) => { s with ecc := { s.ecc with dramGib := g, speed := sp, channels := c, uniform := u, trained := i.trained } }
  | none => { s with ecc := { s.ecc with trained := i.trained } }

/-- REFCLK has been judged good and SPLL is locked, and the companion port is up where a companion is attached (16 R370, 17 R377, R379). -/
def portUp (i : StartInfo) (s : State) : State :=
  { s with clk := { s.clk with refclk := { good := true }, pllLock := s.clk.pllLock ||| 0b0100#4 }, mbox := { s.mbox with linkUp := i.companion, attached := i.companion } }

/-- RECOVERY is entered for a reason: 0 strap, 1 three failed boots, 2 no bootable slot. The start watchdog stops, DRAM is trained, and the
device announces itself (13 R310, R311, 02 R40). -/
def enterRecovery (reason : Nat) (i : StartInfo) (s : State) : State :=
  let s := dramFound i s
  let s := romBlocks (portUp i { s with glob := { s.glob with startWd := false, season := .boot, clustersUp := 1 } })
  let s := if dramOk i s then emit .memClear { s with clk := { s.clk with pllLock := s.clk.pllLock ||| 0b0010#4 } } else s
  let s := modUpd (fun u => { u with reason := reason, recoveries := u.recoveries + 1, download := none, announcing := true, announcedAt := s.mono }) s
  setDevState .recovery s

/-- Step 6: the boot season, or RECOVERY. RECOVERY_DONE makes the device ignore the strap and the count once (02 Table 2.4, 13 R310). -/
def startBoot (i : StartInfo) (s : State) : Start :=
  let done := s.upd.recoveryDone
  let s := modUpd (fun u => { u with recoveryDone := false, fromRecovery := done }) s
  if !done && bootSrc s == 3 then .error (enterRecovery 0 i s)
  else if !done && decide (3 ≤ s.upd.bootAttempts) then .error (enterRecovery 1 i s)
  else
    let s := setDevState .boot { s with glob := { s.glob with season := .boot, clustersUp := 1, bootAt := s.mono } }
    let s := modUpd (fun u => { u with bootAttempts := satTo 3 (u.bootAttempts + 1) }) s
    let s := portUp i s
    .ok (stepDone 6 (if bootSrc s = 2 then romBlocks s else s))

/-- Step 7: the root secret and the state root (14 R314 to R317). BLANK and SCRAP have none. The cadastre of this start is not read yet:
ROOT_SOURCE_INIT is that of the one last accepted (02 R35, log 42). -/
def startRoot (i : StartInfo) (s : State) : Start :=
  let src := if s.keys.rootLocked then s.keys.rootSource else rootChosen s.keys.rootInit s
  if s.keys.state = 0 ∨ s.keys.state = 6 then .ok (stepDone 7 s)
  else
    let moved : Bool := s.keys.rootSource != 0 && s.keys.rootSource != src
    let s := modKeys (fun k => { k with rootSource := src, rootOk := i.rootMade, enrolled := k.enrolled || src == 1,
                                        pufErrors := if src = 1 then i.pufErrors else 0,
                                        vaultSaved := if moved then [] else k.vaultSaved }) s
    if !i.rootMade then stopAt OC_ROOT_FAIL [u32 src] s
    else
      let s := if src = 1 ∧ 12 < i.pufErrors then addNote OC_PUF_MARGIN [i.pufErrors] (record 9 OC_PUF_MARGIN [u32 i.pufErrors] s) else s
      let (p, s) := draw s
      let (m, s) := draw s
      .ok (stepDone 7 (modKeys (fun k => { k with perm := p, mask := m }) s))

/-- The NAND counts as empty: journal, image area and archive, and with them what they kept (14 R319). -/
def freshMedia (s : State) : State :=
  let f := s.flash
  { s with jrn := {}, store := { s.store with image := [], imageCapacity := 0, imageFree := ([], 0) }, billing := { tqAt := s.billing.tqAt }, steel := {},
           hx := { s.hx with acks := [], acksSaved := [], ranges := [], items := [], campaigns := [], campImages := [], copies := [] }, act := {},
           fb := { s.fb with saved := [], savedTime := none }, power := { s.power with marker := none },
           flash := { fitted := f.fitted, retired := f.retired, pe := f.pe, control := { format := f.control.format } },
           keys := { s.keys with vaultSaved := [], controlEnd := none, pkekGen := 0, pkekPrev := 0 } }

/-- Step 8: DRAM, and the erasures of RMA and SCRAP (01 R18, 14 R317, R319, 17 R379). -/
def startDram (i : StartInfo) (s : State) : Start :=
  let s := dramFound i s
  if !dramOk i s then stopAt OC_MEM_CONFIG [u32 s.ecc.speed, u32 s.ecc.channels, u32 s.ecc.dramGib] s
  else
    let s := emit .memClear { s with clk := { s.clk with pllLock := s.clk.pllLock ||| 0b0010#4 } }
    let s := if s.keys.state = 6 ∨ (s.keys.state = 5 ∧ s.keys.firstStart) then freshMedia s else s
    if s.keys.state = 6 then stopAt OC_LIFECYCLE [6] s else .ok (stepDone 8 s)

/-- Step 9 from QSPI: the slot of R307 is read, verified and loaded; none leads to RECOVERY (13 R307). -/
def startSlot (i : StartInfo) (s : State) : Start := match bootSelect i.badSlots s with
  | (.ok n, s) => .ok (stepDone 9 (modUpd (fun u => { u with running := n }) s))
  | (.error c, s) => .error (enterRecovery 2 i (record 10 c [] s))

/-- Install an accepted cadastre (02 R41, R44, R47, R49). -/
def cadInstall (src : Nat) (img : CadImage) (v : CadValues) (s : State) : State :=
  let s := modCad (fun c => { c with accepted := true, serial := imgSerial img, imageHash := imageDigest img,
                                     signed := imgSigned img == 1, running := v, stored := v, live := [], staged := [], draining := [],
                                     integratorKey := (ownKey (recordsOf (imgArea img))).orElse (fun _ => c.integratorKey),
                                     highA := max (max c.highA c.highB) (imgSerial img), highB := max (max c.highA c.highB) (imgSerial img),
                                     lastSeq := 0, last := none }) s
  recordSkipped (recordsOf (imgArea img)) { s with glob := { s.glob with cdstSrc := src } }

/-- Try the cadastre copies in order: a refused copy is recorded and noted for the next REPORT (02 R41). -/
def cadTry : List (Nat × Option CadImage) → State → Start
  | [], s => stopAt OC_NO_CADASTRE [] s
  | (_, none) :: l, s => cadTry l s
  | (src, some img) :: l, s => match cadCheck img s with
    | .ok v => .ok (cadInstall src img v s)
    | .error c => cadTry l (addNote c [src] (record 0 c [u32 src] s))

/-- Apply the logged amendments of the accepted cadastre in SEQUENCE order, up to the first gap (02 R53). -/
def amendLogApply (s : State) : State :=
  let l := s.cad.log.filter (fun a => amdBase a == s.cad.serial)
  let high := l.foldl (fun m a => max m (amdSequence a)) 0
  let s := forEach (List.range l.length) (fun _ s => match l.find? (fun a => amdSequence a == s.cad.lastSeq + 1) with
    | some a => match tlvWalk (amdArea a) with
      | .ok v =>
        let w := amendInto s.cad.running v
        modCad (fun c => { c with running := w, stored := w, lastSeq := amdSequence a, last := some a }) s
      | .error _ => s
    | none => s) s
  if s.cad.lastSeq < high then record 0 OC_AMEND_GAP [u32 (s.cad.lastSeq + 1), u32 high] s else s

/-- The change of MANUFACTURE to PROVISION of PROVISION_ON_START: the fuse and the root choice are blown, the vault zeroised (14 R316, R320). -/
def lifecycleFuse (new : Nat) (s : State) : State :=
  modKeys (fun k => { k with state := new, firstStart := true, maintenance := false, vault := [], vaultSaved := [], challenge := false,
                             rootLocked := k.rootLocked || (new == 2), change := none }) s

/-- CDST_KEK_INIT loads slot 2 with KEY_VERSION 0; a key that a LOAD installed in this state stands (14 Table 14.6, log 44). -/
def kekInit (key : Nat) (s : State) : State :=
  let loaded := match tabFind s.keys.vaultSaved 2 with
    | some k => decide (1 ≤ k.version)
    | none => false
  if loaded && !s.keys.firstStart then s else vaultPut 2 { role := 2, key := key } s

/-- The topology of the accepted image, before its amendments, where the Steelyard's image holds none (07 R162). -/
def topoBase (s : State) : State :=
  if s.steel.topos.isEmpty then topoPush (topoOf 0 (cadRows s 0x0301) (cadRows s 0x0302)) s else s

/-- Step 10: the cadastre, the amendment log, and what the accepted values change at once (02 R35, R41, 14 R318). CDST_KEK_INIT counts
only before DEPLOY (14 R330). -/
def startCadastre (s : State) : Start :=
  let own := if bootSrc s ≠ 2 ∧ s.upd.running = 1 then [(2, s.cad.regionB), (1, s.cad.regionA)] else [(1, s.cad.regionA), (2, s.cad.regionB)]
  let posted := if bootSrc s = 2 ∧ s.upd.cadastreLen ≠ 0 then [(3, s.cad.posted)] else []
  match cadTry (posted ++ own) s with
  | .error s => .error s
  | .ok s =>
    let s := amendLogApply (topoBase s)
    let kek := cadRows s 0x0802
    let s := match kek with
      | [r] => if s.keys.state = 1 ∨ s.keys.state = 2 then kekInit (r.getD 0 0).toNat s else record 0 OC_LIFECYCLE [0x0802#32] s
      | _ => s
    let init := cadNum s 0x0021 0
    let s := if s.keys.rootLocked then
        (if init = 0 ∨ s.keys.rootSource = init then s else record 0 OC_CDST_CONFLICT [0x0021#32, u32 init] s)
      else modKeys (fun k => { k with rootInit := init }) s
    if s.keys.state = 1 ∧ cadNum s 0x0803 0 = 1 ∧ rootReady s then .error (warmReset (lifecycleFuse 2 s))
    else .ok (stepDone 10 s)

/-- The initial levels of GPIO_OUT pins (02 Table 2.3). -/
def gpioInitial (s : State) : U16 := BitVec.ofNat 16 ((cadRows s 0x0020).zipIdx.foldl (fun a e =>
  a + (if e.1.getD 0 0 = 2 ∧ e.1.getD 1 0 = 1 then 2 ^ e.2 else 0)) 0)

/-- Step 11: STARTING, the run season, SP_ASSIGN, every block and cluster up, and sessions accepted from its end (02 Table 2.4, 12 R271,
16 R375, 17 R379, R386, 15 R339). -/
def startRun (s : State) : State :=
  let s := setDevState .starting { s with glob := { s.glob with season := .run, gpioOut := gpioInitial s, clustersUp := 15 } }
  let s := { s with clk := { s.clk with enable0 := 0x3FFFF80#32, enable1 := 0xFF#32, refclk := { good := true }, pllLock := 0xF#4 },
                    twin := { s.twin with toggling := spHas s 4, toggledAt := s.mono },
                    ptp := { s.ptp with utc := (cadRows s 0x0914).map (fun r => ((r.getD 0 0).toNat, r.getD 1 0)) } }
  stepDone 11 (hxListen (mboxEnable s))

/-- The first start in a lifecycle state: the NAND counts as empty, carried keys are loaded, and slots 0, 4 to 9 and 26 are drawn where no
key was carried (14 R319, R320, Table 14.6). -/
def firstStartKeys (s : State) : State :=
  let s := forEach s.keys.carried (fun k s => vaultApply false k.role k.index k.version k.key s) s
  let s := forEach [0, 4, 5, 6, 7, 8, 9, 26] (fun n s => if (vaultKey s n).isSome then s
    else if n = 0 then (let (v, s) := draw s; pkekLoad { role := 1, key := v } s) else vaultDraw n s) s
  let s := { s with store := { s.store with rewrap := false } }
  modKeys (fun k => { k with carried := [], firstStart := false }) s

/-- The parcel store from the image (08 R202, 03 R73): each parcel as its record has it; what waited for a commit at the restart is gone. -/
def restoreParcels (s : State) : State :=
  let back (p : Parcel) : Parcel := { p with state := if p.state = .restoring then .active else p.state, retireAccepted := false,
                                             keyInvalidPending := false, downlink := [], downlinkPending := false }
  let cap := capacityOf s.ecc.dramGib
  let none_ := s.store.imageCapacity == 0
  dirRebuild { s with store := { s.store with parcels := s.store.image.map (fun e => (e.1, back e.2.1)),
                                              free := if none_ then [(0, cap)] else s.store.imageFree.1,
                                              capacity := if none_ then cap else s.store.imageCapacity } }

/-- Campaigns whose image cannot be read are not restored (12 R291, 04 R103). -/
def dropCampaigns (l : List Nat) (s : State) : State :=
  forEach l (fun n s => match campaignOf s n with
    | none => s
    | some c =>
      let s := record 16 OC_JOURNAL_CORRUPT [lo32 c.jsn, hi32 c.jsn, lo32 c.jsn, hi32 c.jsn, 0xFFFFFF#32] s
      { s with hx := { s.hx with campaigns := tabDel s.hx.campaigns n, campImages := tabDel s.hx.campImages n },
               jrn := { s.jrn with losses := s.jrn.losses ++ [(19, c.jsn, 0x1FFFFFF)] } }) s

/-- The highest ADMIT_TIME and sealed-epoch end of the journal (16 R361). -/
def journalTime (s : State) : Nat := s.jrn.entries.foldl (fun m e => max m e.admitAt) ((s.jrn.sealed.map (·.2.2)).getD 0)

/-- The UTC offset table: UTC_OFFSETS and every UTC_OFFSET entry (16 R367). -/
def utcRestore (s : State) : State := s.jrn.entries.foldl (fun t e => match e.body with
  | .order k _ _ _ _ ns => if k = 0x83 then utcApply (ns.getD 0 0).toNat (ns.getD 1 0) t else t
  | _ => t) s

/-- EPOCH_OFFSET after a change of L (01 R23), and the epoch in progress. Ingest starts at the next boundary after this start. -/
def epochRestore (s : State) : State :=
  let l := epochLen s
  let t := devTime s
  let off := match s.jrn.sealed with
    | none => 0
    | some (n, ms, b) =>
      if ms * 1000000 = l then n + 1 - ((b / l : Nat) : Int) else n + 1 - (((t / l + 1 : Nat)) : Int)
  { s with epoch := { offset := off, current := ((t / l : Nat) : Int) + off, clock := t } }

/-- The field book ring: the saved section and the keeper's buffer, with the OVERRUN record of what the buffer dropped; then saved once
(18 R415). -/
def ringRestore (s : State) : State :=
  let t := { s with fb := { s.fb with ringUp := true, ring := fbTrim 16777216 (s.fb.saved ++ s.fb.buffer), buffer := [], lost := none } }
  fbSave (match s.fb.lost with
    | some (n, lo, hi, c, h1, h2) => fbOverrun n lo hi c h1 h2 t
    | none => t)

/-- The last gasp's marker: OC_LG_COMPLETE, a gap as OC_JOURNAL_LOST, or OC_LG_NO_MARKER after a trip without one (19 R430). -/
def markerNotes (s : State) : State :=
  let s := match s.power.marker with
    | some (t, last, dur) =>
      let s := addNote OC_LG_COMPLETE [t, last] s
      if dur < last then
        let s := record 2 OC_JOURNAL_LOST [lo32 (dur + 1), hi32 (dur + 1), lo32 last, hi32 last] s
        { s with jrn := { s.jrn with losses := s.jrn.losses ++ [(20, dur + 1, last)] } }
      else s
    | none => if s.power.tripped then addNote OC_LG_NO_MARKER [] (record 2 OC_LG_NO_MARKER [] s) else s
  { s with power := { s.power with marker := none, tripped := false } }

/-- A journalled schedule more than 2 L past is abandoned (13 R306). -/
def scheduleExpired (s : State) : State := match s.upd.schedule with
  | some (id, a) => if a + 2 * epochLen s < devTime s then
      addNote OC_UPD_ABANDONED [id] (modUpd (fun u => { u with schedule := none, deferredAt := none }) s)
    else s
  | none => s

/-- The rewrap goes on after a start that finds slots wrapped under the PKEK before the current one (03 R59). -/
def rewrapRestore (s : State) : State :=
  let old (k : Nat × KeySlot) : Bool := k.2.role != 0 && k.2.kekGen == s.keys.pkekPrev
  { s with store := { s.store with rewrap := s.keys.pkekPrev != 0 && s.store.parcels.any (fun e => e.2.keys.any old) } }

/-- The CAPACITY entry due, or the highest index that no longer fits (03 R74). -/
def capacityDue (s : State) : Except Nat State :=
  let cap := capacityOf s.ecc.dramGib
  if s.store.capacity = cap then .ok s
  else
    let high := s.store.parcels.foldl (fun (m : Option Nat) e => if inUse e.2 ∧ cap ≤ e.1 then some e.1 else m) none
    match high with
    | some i => .error i
    | none => .ok { s with jrn := { s.jrn with waiting := s.jrn.waiting ++ [(0x85, [(s.store.capacity : Int), (cap : Int)])] } }

/-- Slots 28 and 29: VSK and the tree cache key, derived from the state root (14 Tables 14.5 and 14.6). -/
def rootKeys (s : State) : State :=
  let derived (label : String) : Nat := beNat (kdf (stateRoot s s.keys.state) label (uidBytes s))
  vaultPut 29 { key := derived "tree cache" } (vaultPut 28 { key := derived "vault store" } s)

/-- Step 12, first part: NAND against NAND_PROFILE, its areas, the vault and the keys of the head ends (08 R191, R201, 14 R326). -/
def startVault (i : StartInfo) (s : State) : Start :=
  let s := match i.nand with
    | some l => modFlash (fun f => { f with fitted := l }) s
    | none => s
  if !nandMatches s then stopAt OC_NAND_CONFIG (s.flash.fitted.map i32) s
  else
    let first := s.keys.firstStart
    let s := if first then freshMedia s else s
    let s := if s.flash.formatted then s else flashFormat s
    let s := modFlash (fun f => { f with chUp := BitVec.ofNat 8 (nandNum s 0), untilHealthy := true }) s
    let s := if s.flash.ringPages < 16384 then c4Fault 13 OC_RESERVE_SHORT [u32 s.flash.ringPages] s else s
    let carried := s.keys.vault
    let s := forEach carried (fun e s => vaultPut e.1 e.2 s) (modKeys (fun k => { k with vault := k.vaultSaved }) s)
    let s := if s.keys.rootOk then rootKeys s else s
    let s := if first then firstStartKeys s else s
    .ok (headendKeys s)

/-- NEXT_ASN that an entry carries: BOUNDARY, CALENDAR_ACTIVATE, SNAPSHOT_MARK and CELL_STATE do (04 R83, 06 Tables 6.6 and 6.11, 11 Table 11.11,
12 R288). -/
def nextAsnOf : JBody → Nat
  | .boundary _ ns => (ns.getD 4 0).toNat
  | .calendarActivate ns => (ns.getD 4 0).toNat
  | .order k _ _ _ _ ns => if k = 0x82 then (ns.getD 0 0).toNat else if k = 0x80 then (ns.getD 6 0).toNat else 0
  | _ => 0

/-- Step 12, second part: the parcel store, replay, and what the journal sets (04 R102 to R104, 01 R23, 06 R136, R142, 16 R361, 04 R83). -/
def startReplay (i : StartInfo) (s : State) : Start := match i.reservedEntry with
  | some j => stopAt OC_JOURNAL_TYPE [lo32 j, hi32 j] (restoreParcels s)
  | none =>
    let t := journalTime s
    let since := if s.jrn.entries.isEmpty then 0 else (t / epochLen s + 1) * epochLen s
    let topo := topoOf since (cadRows s 0x0301) (cadRows s 0x0302)
    let s := firstCalendars (utcRestore (restoreParcels s))
    let s := topoPush topo (rewrapRestore (dropCampaigns i.campUnreadable (replayAll i.corrupt s)))
    match capacityDue s with
    | .error k => stopAt OC_PARCEL_DRAM_SHRUNK [u32 k] s
    | .ok s =>
      let s := if devTime s < t then applyStep ((t : Int) - devTime s) s else s
      let s := epochRestore (ringRestore s)
      let bt := s.billing.bounds.foldl (fun m b => max m b.billingTime) t
      let s := modBilling (fun b => { b with time := if s.glob.tq ≤ 1 then max bt (devTime s) else bt, tqDue := true }) s
      let asn := s.jrn.entries.foldl (fun m e => max m (max (e.asn + 1) (nextAsnOf e.body))) 1
      let s := { s with trav := { s.trav with nextAsn := asn }, jrn := { s.jrn with firstAsn := asn, marks := tabPut s.jrn.marks 3 s.jrn.lastSeal } }
      .ok (stepDone 12 (scheduleExpired (markerNotes s)))

/-- Step 13: the leaf counter restarts and the next block is reserved (14 R334, R335). -/
def startLeaves (i : StartInfo) (s : State) : Start :=
  if s.keys.state < 1 then .ok (stepDone 13 s)
  else
    let s := modKeys (fun k => { k with q := leafRestart s, reservedEnd := 0 }) s
    let s := modKeys (fun k => { k with reservedEnd := k.q }) s
    let s := lmsReserve i.lmsFail s
    if s.keys.reserveFailed then stopAt OC_LMS_RESERVE [] s else .ok (stepDone 13 s)

/-- PLC ports that the cadastre enables. -/
def plcEnabled (s : State) : List Nat := (List.range 6).filter (fun n => plcCfg s n 0 != 0)

/-- Radio ports that the cadastre enables. -/
def radioEnabled (s : State) : List Nat := (List.range 8).filter (fun n => radioCfg s n 0 != 0)

/-- The ports come up: those of the list do so at once, PLC n as 100 + n and radio n as 200 + n; START_PORT_TIMEOUT_MS counts from here
(09 R208, 10 R232). -/
def portsUp (l : List Nat) (s : State) : State :=
  let s := forEach (plcEnabled s) (fun n s => if l.contains (100 + n) then modPlc n (fun p => { p with up := true }) s else s) s
  let s := forEach (radioEnabled s) (fun n s => if l.contains (200 + n) then radioArm n (runScript n 0 0 s) else s) s
  { s with glob := { s.glob with portsAt := s.mono } }

/-- Are all enabled ports up or retired? -/
def portsSettled (s : State) : Bool :=
  (plcEnabled s).all (fun n => (plcOf s n).up || (plcOf s n).retired) && (radioEnabled s).all (fun n => (radioOf s n).up || (radioOf s n).retired)

/-- Ports still not up are retired (09 R208, 10 R232). -/
def portsRetire (s : State) : State :=
  let s := forEach (plcEnabled s) (fun n s => if (plcOf s n).up then s else plcRetire n s) s
  forEach (radioEnabled s) (fun n s => if (radioOf s n).up then s
    else retireResource (200 + n) (modRadio n (fun p => { p with retired := true }) s)) s

end Sys2Proof.Machine
end

