-- ==== Sys2Proof/Machine/TwinBase.lean ====
section
/-! DEFINITION. What the twin pair exchanges at an epoch boundary, and arbitration for the active role (15 R338 to R341, R348). -/

namespace Sys2Proof.Machine

/-- Change the twin's state. -/
def modTwin (f : TwinSt → TwinSt) (s : State) : State := { s with twin := f s.twin }

/-- Change the link's state. -/
def modLink (f : LinkSt → LinkSt) (s : State) : State := modTwin (fun t => { t with link := f t.link }) s

/-! ### Digests (15 Table 15.4) -/

/-- Entries of an epoch's journal range (04 R454). -/
def epochEntries (s : State) (e : Int) : List JEntry := match rangeOf s e with
  | some (lo, hi, _) => s.jrn.entries.filter (fun x => decide (lo < x.jsn ∧ x.jsn ≤ hi))
  | none => []

/-- REGISTERS and DEMAND_STATE of every parcel. -/
def regsNow (s : State) : Tab (Registers × DemandState) := s.store.parcels.map (fun e => (e.1, e.2.registers, e.2.demand))

/-- The four digests of an epoch: journal, sheet root, registers changed since the last digest, confirmations (15 Table 15.4). -/
def digestsOf (s : State) (e : Int) : List Nat :=
  let es := epochEntries s e
  let hi := ((rangeOf s e).map (fun r => r.2.1)).getD 0
  let lo := ((rangeOf s e).map (fun r => r.1)).getD 0
  let changed := s.store.parcels.filter (fun x => tabGet s.twin.regs x.1 ({}, {}) != (x.2.registers, x.2.demand))
  [hashOf (es.flatMap entryBytes), mth ((leavesIn s lo hi).map recBytes),
   hashOf (changed.flatMap (fun x => leBytes 3 x.1 ++ leBytes 2 x.2.generation ++ registersBytes x.2.registers ++ demandBytes x.2.demand)),
   hashOf (es.flatMap (fun x => match x.body with
     | .reading _ t => leBytes 8 x.jsn ++ confirmBytes t.confirm
     | _ => []))]

/-- Take the digests of an epoch, and keep them for a recheck; at most 16 epochs are kept. -/
def takeDigests (e : Int) (s : State) : List Nat × State :=
  let d := digestsOf s e
  (d, modTwin (fun t => { t with regs := regsNow s, digests := (t.digests ++ [(e, d)]).drop ((t.digests.length + 1) - 16) }) s)

/-- RELEASE of the running slot. -/
def releaseOf (s : State) : Nat := (runningSlot s).release

/-- UPD_STATUS.MIXED: the two units run different RELEASE values (13 R309). -/
def mixed (s : State) : Bool := s.twin.role != 0 && (match s.upd.peerRelease with
  | some r => r != releaseOf s
  | none => false)

/-- Step 7 of Table 1.8 at the active: the DELTA_PAGEs not yet sent, then EPOCH_END (15 R348). -/
def epochEndSend (e : Int) (s : State) : State :=
  let (lo, hi) := match rangeOf s e with
    | some (lo, hi, _) => (lo, hi)
    | none => (0, 0)
  let pages := (s.jrn.reserve ++ s.jrn.pages).filter (fun j => decide (s.twin.sentJsn < j ∧ j ≤ hi))
  let ends := s.twin.sentJsn :: pages
  let s := forEach pages.zipIdx (fun p s =>
    blSend 0x13 0 (beInt 8 e ++ beBytes 4 p.2 ++ zeros 4 ++ journalPage s (ends.getD p.2 0) p.1) s) s
  let (d, s) := takeDigests e s
  let s := modTwin (fun t => { t with sentJsn := pages.foldl max t.sentJsn }) s
  blSend 0x14 0 (beInt 8 e ++ beBytes 8 (lo + 1) ++ beBytes 8 hi ++ beBytes 4 pages.length ++ zeros 4 ++ d.flatMap (beBytes 32)) s

/-- STATE_COPY of kinds 1 to 4 once the boundary work is done (15 R346). -/
def stateCopySend (s : State) : State :=
  let s := forEach s.plc.ports (fun p s => blSendState 1 (.plc p.1 p.2) s) s
  let s := forEach s.radio.ports (fun p s => blSendState 3 (.buckets p.1 p.2.buckets) (blSendState 2 (.radio p.1 p.2) s)) s
  blSendState 4 (.acks s.hx.acks) s

/-! ### Frames of the link (15 R343, R344) -/

/-- Fields of a frame's header (15 Table 15.1). -/
def BlFrame.type (h : BlFrame) : Nat := beAt h.head 3 1
/-- LENGTH -/
def BlFrame.length (h : BlFrame) : Nat := beAt h.head 4 4
/-- LINK_SEQ -/
def BlFrame.seq (h : BlFrame) : Nat := beAt h.head 8 8
/-- ACK_SEQ -/
def BlFrame.ackSeq (h : BlFrame) : Nat := beAt h.head 16 8
/-- SESSION -/
def BlFrame.session (h : BlFrame) : Nat := beAt h.head 24 4

/-- Does a frame begin with MAGIC and VERSION, and is its LENGTH in range and that of a body of `n` bytes? -/
def BlFrame.framed (h : BlFrame) (n : Nat) : Bool :=
  h.head.length == 32 && beAt h.head 0 2 == 0x424C && beAt h.head 2 1 == 1 && h.length == 48 + n && decide (h.length ≤ 131120)

/-- Frame types (15 Table 15.2). -/
def blTypes : List Nat :=
  [0x01, 0x02, 0x10, 0x11, 0x12, 0x13, 0x14, 0x15, 0x20, 0x30, 0x31, 0x32, 0x40, 0x41, 0x42, 0x50, 0x60, 0x61, 0x7F]

/-- k_hello: the key of HELLO frames under a twin link key (15 R343). -/
def blHelloKey (tlk : Nat) : Nat := beNat (hkdfExpand (hkdfExtract (zeros 32) (beBytes 32 tlk)) (asciiBytes "BL hello"))

/-- The keys of a session from N of unit a, N of unit b and the twin link key: that of frames from a to b, and from b to a (15 R343). -/
def sessionKeys (na nb tlk : Nat) : Nat × Nat :=
  let p := hkdfExtract (beBytes 32 na ++ beBytes 32 nb) (beBytes 32 tlk)
  (beNat (hkdfExpand p (asciiBytes "BL a to b")), beNat (hkdfExpand p (asciiBytes "BL b to a")))

/-- The bytes of a HELLO's body (15 Table 15.2). -/
def helloBytes (h : BlHello) : List U8 :=
  beBytes 8 h.uid ++ beBytes 16 h.unit ++ beBytes 1 h.role ++ beBytes 1 h.sp2 ++ beBytes 1 h.state ++ beBytes 1 h.lifecycle ++ beBytes 8 h.serial ++
    beBytes 4 h.amendSeq ++ beBytes 8 h.release ++ beInt 8 h.lastSealed ++ beBytes 32 h.nonce

/-- A HELLO's body read. -/
def helloRead (b : List U8) : Option BlHello :=
  if b.length ≠ 88 then none
  else some { uid := beAt b 0 8, unit := beAt b 8 16, role := beAt b 24 1, sp2 := beAt b 25 1, state := beAt b 26 1, lifecycle := beAt b 27 1,
              serial := beAt b 28 8, amendSeq := beAt b 36 4, release := beAt b 40 8, lastSealed := beSigned b 48 8, nonce := beAt b 56 32 }

/-- Set the step of an epoch's boundary work. -/
def workStep (e : Int) (n : Nat) (s : State) : State :=
  { s with epoch := { s.epoch with work := s.epoch.work.map (fun w => if w.epoch = e then { w with step := n } else w) } }

/-- The oldest boundary work goes on past step 6: step 7 in a pair waits for EPOCH_RESULT, step 8 for the pages of the epoch
(01 Table 1.8). -/
def boundaryAdvance (s : State) : State := match s.epoch.work with
  | [] => s
  | w :: rest =>
    let s := if w.step = 6 then
        (if !shadowing s then workStep w.epoch 7 s
         else if s.twin.digests.any (fun d => d.1 == w.epoch) then s
         else epochEndSend w.epoch s)
      else s
    let now : Nat := (s.epoch.work.head?.map (·.step)).getD 0
    let hi : Nat := ((rangeOf s w.epoch).map (fun r => r.2.1)).getD 0
    if now = 7 ∧ hi ≤ s.jrn.durable then
      let s := { s with epoch := { s.epoch with work := rest } }
      if shadowing s then stateCopySend s else s
    else s

/-! ### Pairing and arbitration (15 R338 to R341) -/

/-- TWIN_PARAMS (15 Table 15.8). -/
def twinParam (s : State) (i : Nat) : Nat := cadNum s 0x0810 i

/-- Is the unit listed in TWIN_PARAMS, and twin operation enabled (15 R338)? -/
def twinRun (s : State) : Bool := twinParam s 0 == 1 && (s.keys.uid == twinParam s 5 || s.keys.uid == twinParam s 6)

/-- SP[2] as sampled. -/
def sp2 (s : State) : Nat := if s.glob.straps.getLsbD 2 then 1 else 0

/-- Is the peer alive and driving TWIN_ROLE high? -/
def peerActive (s : State) : Bool := s.twin.peerAlive && s.twin.peerRole

/-- Begin arbitration: TWIN_ROLE goes high for 10 ms. While the peer is active the unit stays (15 R340); where the peer is lost its
TWIN_ROLE is ignored (Table 15.5 step 2). -/
def arbitrate (s : State) : State :=
  if peerActive s then modTwin (fun t => { t with arb := .none }) s
  else modTwin (fun t => { t with roleOut := true, arb := .waiting s.mono }) s

/-- OC_TWIN_STRAP: both units strapped alike (15 R340), once per start. -/
def strapNote (s : State) : State := match s.twin.peer with
  | some (_, p, _, _) =>
    if p = sp2 s ∧ s.twin.noted % 2 = 0 then record 11 OC_TWIN_STRAP [u32 p] (modTwin (fun t => { t with noted := t.noted + 1 }) s) else s
  | none => s

/-- The journal's last sealed epoch, LAST_SEALED of HELLO (15 Table 15.2). -/
def lastSealedEpoch (s : State) : Int := (s.jrn.sealed.map (·.1)).getD 0

/-- The unit's own HELLO (15 Table 15.2). -/
def ownHello (s : State) (n : Nat) : BlHello :=
  { uid := s.keys.uid, unit := unitOf s, role := s.twin.role, sp2 := sp2 s, state := stateCode s.glob.state, lifecycle := lifecycleCode s,
    serial := s.cad.serial, amendSeq := s.cad.lastSeq, release := releaseOf s, lastSealed := lastSealedEpoch s, nonce := n }

/-- Send the unit's own HELLO, with a LINK_SEQ and an N drawn at random and SESSION 0, on the first lane in use (15 R343, Tables 15.1, 15.2). -/
def helloSend (s : State) : State :=
  if s.twin.link.lanes = 0 then s
  else
    let (n, s) := draw s
    let (q, s) := draw s
    let n := n % 2 ^ 256
    let lane := if s.twin.link.lanes.getLsbD 0 then 0 else 1
    let b := helloBytes (ownHello s n)
    emit (.baseline lane (blHead 0x01 b.length (q % 2 ^ 64) s.twin.link.rxSeq 0 ++ b) none)
      (modLink (fun k => { k with helloSent := true, nonce := n, framesTx := k.framesTx + 1, lastTx := s.mono }) s)

end Sys2Proof.Machine
end

