-- ==== Sys2Proof/Machine/Serve.lean ====
section
/-! DEFINITION. From enabled ports to service: the twin role, HEALTHY or DEGRADED, the trial's commit, and the start of ingest
(02 Table 2.4 steps 14 to 17, 13 R306, 04 R456). -/

namespace Sys2Proof.Machine

/-- RETIRED_SET as Table 13.9 codes it: PLC n as bit n, RP n as bit 8 + n, NAND channel n as bit 16 + n (13). -/
def retiredSet (s : State) : Nat := s.glob.retired.foldl (fun m r =>
  let k := if 300 ≤ r then 16 + (r - 300) else if 200 ≤ r then 8 + (r - 200) else if 100 ≤ r then r - 100 else 24
  if m.testBit k then m else m + 2 ^ k) 0

/-- Is the DEGRADED state of a trial the one the unit already had: the retired resources a subset of RETIRED_MASK of the running slot
(13 R306, log 28)? -/
def retiredKnown (s : State) : Bool :=
  let mask := (runningSlot s).retiredMask
  (List.range 24).all (fun k => !(retiredSet s).testBit k || mask.testBit k)

/-- The running slot is committed: RETIRED_MASK, JOURNAL_FLOOR and the security floor rise, with its copies in both slot records, and
amendment log entries of an older SERIAL are erased (13 R299, R300, R306, 02 R53). -/
def commitSlot (s : State) : State :=
  let n := s.upd.running
  let x := fwSlot s n
  let fl := max x.journalLevel (max (fwSlot s 0).journalFloor (fwSlot s 1).journalFloor)
  let rises := decide (s.keys.floor < x.securityVersion)
  let s := modKeys (fun k => { k with floor := max k.floor x.securityVersion }) s
  let s := setFwSlot n { x with state := 4, retiredMask := retiredSet s, journalFloor := fl } s
  let s := if rises then setFwSlot (1 - n) (fwSlot s (1 - n)) s else s
  let s := modUpd (fun u => { u with trialAt := none, activating := false, schedule := none }) s
  let kept := s.cad.log.filter (fun a => decide (s.cad.serial ≤ amdBase a))
  modCad (fun c => { c with log := kept, logBytes := (kept.map amendBytes).sum }) s

/-- A trial that reaches HEALTHY, or DEGRADED with known retirements, is committed (13 R306, R308). -/
def trialCommit (s : State) : State :=
  if (runningSlot s).state ≠ 3 ∨ s.upd.companionBoot then s
  else if s.glob.state = .healthy ∨ (s.glob.state = .degraded ∧ retiredKnown s) then commitSlot s
  else s

/-- Step 16: HEALTHY, or DEGRADED where a port was retired (02 Table 2.4, R40). -/
def startDone (s : State) : State :=
  let s := { s with glob := { s.glob with startWd := false, startStep := 16 },
                    flash := { s.flash with untilHealthy := s.flash.untilHealthy && !s.glob.retired.isEmpty } }
  let s := setDevState (if s.glob.retired.isEmpty then .healthy else .degraded) (modUpd (fun u => { u with bootAttempts := 0 }) s)
  trialCommit s

/-- The unit takes the active role at its start (15 R341). -/
def serveActive (s : State) : State := startDone (modTwin (fun t => { t with role := 1, roleOut := true, arb := .none }) s)

/-- The unit joins an active peer as a resynchronising standby (15 R341, R352). -/
def joinPeer (s : State) : State :=
  startDone (helloSend (modTwin (fun t => { t with role := 3, roleOut := false, arb := .none, resynced := false, caughtUp := false }) s))

/-- Step 15: the twin role (15 R338, R341). While the peer has not been alive for 5 s the unit waits, then arbitrates. -/
def roleResolve (s : State) : State :=
  if twinParam s 0 = 0 then startDone s
  else if !twinRun s then startDone (record 11 OC_TWIN_NOT_LISTED [] s)
  else if peerActive s then joinPeer s
  else match s.twin.peer with
    | some (_, p, sealed_, _) =>
      let own := lastSealedEpoch s
      if sealed_ < own ∨ (sealed_ = own ∧ sp2 s = 0 ∧ p ≠ 0) ∨ (sealed_ = own ∧ sp2 s = 0 ∧ p = 0) then arbitrate (strapNote s) else strapNote s
    | none =>
      if s.twin.peerAlive then (if sp2 s = 0 then arbitrate s else s)
      else modTwin (fun t => { t with arb := .backoff (s.mono + 5000000000) }) s

/-- Is step 15 still to be resolved? -/
def roleOpen (s : State) : Bool := s.glob.state == .starting && s.glob.startStep == 14

/-- Step 14 done: ACT opens its port, and the role is resolved (02 Table 2.4). -/
def startPorts (s : State) : State :=
  let s := actStart (stepDone 14 s)
  let lanes : BitVec 2 := if twinRun s then 3 else 0
  let s := modLink (fun k => { k with lanes := lanes, lastRx := s.mono }) s
  roleResolve (if twinRun s && !peerActive s then helloSend s else s)

/-- The start from step 10 on. -/
def startRest (i : StartInfo) (s : State) : Start := do
  let s ← startCadastre s
  let s ← startVault i (elapse i.dtRun (startRun s))
  let s ← startReplay i s
  let s ← startLeaves i s
  let s := portsUp i.portsUp s
  .ok (if portsSettled s then startPorts s else s)

/-- The state in which a start ends or waits. -/
def Start.state : Start → State
  | .ok s => s
  | .error s => s

/-- Step 9 with boot source 0b10 waits for the companion's doorbell; otherwise it boots a slot and the start goes on (02 Table 2.4). -/
def startBooted (i : StartInfo) (s : State) : Start :=
  if bootSrc s = 2 then .ok s
  else do
    let s ← startSlot i s
    startRest i s

/-- The start sequence from the reset season (02 Table 2.4). -/
def startSequence (i : StartInfo) (s : State) : Start := do
  let s ← startPower i (stepDone 1 s)
  let s ← startBoot i (elapse i.dtBoot (startStraps i s))
  let s ← startRoot i s
  let s ← startDram i s
  startBooted i s

/-- STARTUP: PORST_N rises, or a warm reset has occurred, and the device runs the start-up sequence (02 R39). A cold start resets
everything but media; a device that is not in RESET is warm reset first. -/
def startup (i : StartInfo) (s : State) : State :=
  let s := if i.cold then resetAs true s else if s.glob.state = .reset then s else warmReset s
  (startSequence i { elapse i.dt s with glob := { (elapse i.dt s).glob with startAt := s.mono, startWd := s.keys.state != 6 } }).state

/-- PORT_START_TIMEOUT: ports not up within START_PORT_TIMEOUT_MS are retired, and the start goes on (09 R208, 10 R232). -/
def portStartTimeout (s : State) : State :=
  if s.glob.state = .starting ∧ s.glob.startStep = 13 then
    startPorts (portsRetire (elapseTo (s.glob.portsAt + cadNum s 0x0022 0 * 1000000) s))
  else if s.twin.cause ≠ 0 ∧ serving s ∧ !portsSettled s then portsRetire (elapseTo (s.glob.portsAt + cadNum s 0x0022 0 * 1000000) s)
  else s

/-- START_WATCHDOG_EXPIRY: 180 s from step 1 without HEALTHY or DEGRADED (02 R40). -/
def startWatchdogExpiry (s : State) : State :=
  if s.glob.startWd && !serving s then warmReset (elapseTo (s.glob.startAt + 180000000000) s) else s

/-- HALTED_RESET_TIMER: 10 s after HALTED was entered before HEALTHY or DEGRADED (02 R40); in SCRAP it does not run. -/
def haltedResetTimer (s : State) : State := match s.glob.haltedAt with
  | some t => if s.glob.state = .halted ∧ s.keys.state ≠ 6 then warmReset (elapseTo (t + 10000000000) s) else s
  | none => s

/-- COMPANION_IMAGE_TIMEOUT: boot source 0b10 and no doorbell within 60 s of step 6 (02 R39). -/
def companionImageTimeout (s : State) : State :=
  if s.glob.state = .boot ∧ s.glob.startStep = 8 ∧ bootSrc s = 2 then halt OC_NO_CADASTRE [] (elapseTo (s.glob.bootAt + 60000000000) s) else s

/-! ### Ingest (04 R456) -/

/-- Journal losses of the start become events of the sheet in progress (04 R103, R112). -/
def reportLosses (s : State) : State :=
  let t := devTime s
  let ev (l : U16 × Nat × Nat) : List Int :=
    if l.1 = 20 then [20, t, l.2.1, l.2.2]
    else [19, t, l.2.1, (if 0xFFFFFF ≤ l.2.2 then 0xFFFFFF else l.2.2 : Nat), if l.2.2 = 0xFFFFFF then 1 else 0]
  let s' := forEach s.jrn.losses (fun l s => addItemAt s.epoch.current 5 0 (ev l) s) s
  { s' with jrn := { s'.jrn with losses := [] } }

/-- Sweeps at the start of ingest: those of the journal begin again, and every calendar whose last period closure has no sweep gets one
(06 R157 step 3). -/
def resweep (s : State) : State :=
  let cur := s.epoch.current
  let s := modBilling (fun b => { b with sweeps := b.sweeps.map (fun w => { w with epoch := cur, slice := 0, waiting := [] }) }) s
  forEach (List.range 32) (fun c s => match s.billing.bounds.find? (fun b => b.kind == 1 && b.calendar == c && b.period) with
    | some b => if s.billing.sweeps.any (fun w => w.calendar == some c) then s
      else modBilling (fun x => { x with sweeps := x.sweeps ++ [{ calendar := some c, epoch := cur, through := b.through, jsn := b.jsn }] }) s
    | none => s) s

/-- Commit the device-made entries that waited, of a kind or of the others (04 R456). -/
def commitWaiting (capacity : Bool) (s : State) : State :=
  let l := s.jrn.waiting.filter (fun w => (w.1 == 0x85) == capacity)
  let s := { s with jrn := { s.jrn with waiting := s.jrn.waiting.filter (fun w => (w.1 == 0x85) != capacity) } }
  forEach l (fun w s =>
    let s := deviceOrder w.1 w.2 s
    let n (k : Nat) : Nat := (w.2.getD k 0).toNat
    if w.1 = 0x85 then applyCapacity (n 0) (n 1) s
    else if w.1 = 0x83 then utcApply (n 0) (w.2.getD 1 0) s
    else s) s

/-- Ingest starts at an epoch boundary in HEALTHY or DEGRADED: the entries that start-up left due commit first (04 R456, 06 R157). -/
def ingestStart (s : State) : State :=
  let s := { s with glob := { s.glob with ingest := true, startStep := 17 }, trav := { s.trav with stopped := false },
                    flash := { s.flash with scored := false } }
  if !makesEntries s then s
  else
    let s := modBilling (fun b => { b with resumed := devTime s }) s
    let s := commitWaiting false (commitDue (commitTq (commitWaiting true s)))
    reportLosses (campaignsResume (resweep s))

end Sys2Proof.Machine
end

