-- ==== Sys2Proof/Machine/Drain.lean ====
section
/-! DEFINITION. Sealing an epoch, draining Traverse, and closing an epoch to step 8 of Table 1.8 (01 R25, 04 R454), which an
activation, a state change and a planned takeover share. -/

namespace Sys2Proof.Machine

/-- Step 4 of Table 1.8 for one epoch: the EPOCH_SEAL entry cuts the journal range and the root closes over it; the partial page is
closed (01 Table 1.8, 04 R99, R454). -/
def sealEpoch (w : BoundaryWork) (s : State) : State :=
  let s := outageReport (itemJsn s) w.boundary s
  let root := mth ((leavesIn s s.jrn.lastSeal s.jrn.lastJsn).map recBytes)
  let ms := epochLen s / 1000000
  let s := commitMade none 0 (.epochSeal w.epoch root ms s.epoch.offset) s
  let j := s.jrn.lastJsn
  let s := { s with hx := { s.hx with ranges := s.hx.ranges ++ [(w.epoch, j, s.glob.tq, ms)] },
                    jrn := { s.jrn with lastSeal := j, sealed := some (w.epoch, ms, w.boundary) } }
  workStep w.epoch 4 (closePage (steelSeal w.boundary s))

/-- Tags of epoch `n` or an earlier one that have not committed. -/
def undrained (s : State) (n : Int) : Bool := s.trav.tags.any (fun t => decide (t.epoch ≤ n) && t.state != .committed)

/-- EPOCH_SEAL_COMMIT: steps 3 and 4 of Table 1.8 for the oldest epoch whose work is not finished. While tags of the epoch remain, time passes
to 5 ms after the boundary, and they are carried in the next epoch (01 R25, 04 R454). -/
def epochSealCommit (s : State) : State := match s.epoch.work with
  | [] => s
  | w :: _ =>
    if 4 ≤ w.step ∨ !makesEntries s ∨ !s.glob.ingest then s
    else
      let s := if undrained s w.epoch then elapseDev (w.boundary + 5000000) s else s
      if !commitRoom 128 s then s else sealEpoch w s

/-- The stages of one tag up to READY, as far as they can go (04 Table 4.1). -/
def driveTag (asn : Nat) (s : State) : State :=
  let s := match (tagOf s asn).bind (fun t => t.arr.identity) with
    | some id => missDone id s
    | none => s
  veeDone asn (normalisationDone asn (decryptionDone asn (domainJoin asn s)))

/-- The stages of a committed tag (04 R85). -/
def retireTag (asn : Nat) (s : State) : State := tagRetire asn (archiveApply asn (steelyardApply asn (registerUpdate asn s)))

/-- Is an entry one that commits by itself when its place in its domain comes: ENROL, TOPOLOGY_ACCEPT, CAMPAIGN_STEP (03 R73, 07 R176, 12 R292)? -/
def turns : JBody → Bool
  | .enrol _ => true
  | .order k _ _ _ _ _ => k == 9 || k == 0x81
  | _ => false

/-- The entry of an item commits where its place in its domain has come (04 R88). -/
def itemTurn (x : DomainItem) (s : State) : State :=
  if !turns x.body ∨ !domainClear s x.parcel x.joinNo ∨ !mayCommitMade s then s
  else match x.body with
    | .enrol b => enrolItemCommit x b s
    | .order k _ _ _ _ ns =>
      let t := devTime s
      let s := commitSized x.received (some x.parcel) (parcelOf s x.parcel).generation x.body (dropItem x.joinNo s)
      let j := s.jrn.lastJsn
      let s := if k = 9 then applyTopology x.parcel (ns.getD 3 0).toNat (ns.getD 2 0).toNat t s else s
      match x.answer with
      | some (h, o) => orderAnswered h o OC_OK [] j s
      | none => s
    | _ => s

/-- The entries whose places in their domains have come commit, in join order (04 R88). -/
def domainTurn (s : State) : State := forEach s.trav.items itemTurn s

/-- Tags and domain entries admitted so far commit or end (13 Table 13.7 step 2). -/
def drainTags (s : State) : State :=
  let s := forEach (s.trav.tags.map (·.asn)) (fun asn s => commitJudged asn (driveTag asn s)) s
  let s := domainTurn (forEach (s.trav.items.map (·.parcel)) (fun i s => keyInvalidCommit i (retireEntryCommit i (keyloadEntryCommit i s))) s)
  forEach (s.trav.tags.map (·.asn)) retireTag s

/-- The boundary of the epoch in progress has come without its work: the work begins (01 Table 1.8). -/
def workDue (s : State) : State :=
  let n := s.epoch.current
  let b := epochEnd s n
  if b ≤ devTime s ∧ makesEntries s ∧ s.glob.ingest then
    { s with epoch := { s.epoch with current := n + 1, work := s.epoch.work ++ [{ epoch := n, step := 2, boundary := b }] } }
  else s

/-- The boundary work of one epoch is done to step 8: sealed, signed, and written to the reserve. A unit that serves on alone does not wait
for a partner's comparison (01 Table 1.8, 13 Table 13.7 step 3). -/
def closeEpoch (e : Int) (s : State) : State :=
  let s := match s.epoch.work.find? (fun w => w.epoch == e && decide (w.step < 4)) with
    | some w => sealEpoch w s
    | none => s
  let s := boundaryAdvance (flushPages (closePage (sheetSign 0 s)))
  boundaryAdvance (if s.epoch.work.any (fun w => w.epoch == e && w.step == 6) then workStep e 7 s else s)

/-- The boundary work of every epoch closed so far is done, oldest epoch first (01 R25). -/
def closeEpochs (s : State) : State :=
  let s := workDue s
  forEach (s.epoch.work.map (·.epoch)) closeEpoch s

/-- A commit that finds no room in the journal waits: meanwhile committed tags pass their stages, the image writer runs at preempting priority
while the reserve stands at the low mark, and pages reach the reserve (04 R99, R100, log 116). -/
def awaitRoom (s : State) : State :=
  if !s.glob.ingest ∨ !makesEntries s ∨ commitRoom 65536 s then s
  else
    let s := forEach (s.trav.tags.map (·.asn)) retireTag s
    let s := forEach ((engineQueue s 1).map (·.asn)) steelyardApply s
    let s := flushPages (forEach ((engineQueue s 2).map (·.asn)) archiveApply s)
    forEach (List.range (s.store.parcels.length + 2)) (fun _ s => if reserveFull s then flushPages (parcelImageWrite s) else s) s

/-- No frame is admitted and no reception accepted from now on (13 Table 13.7 step 1, 14 Table 14.4 step 3). -/
def backPressureHold (s : State) : State := modTrav (fun v => { v with stopped := true, bpAct := true, bpLocal := true }) s

/-- Service goes on: the threshold alone governs back-pressure again (04 R106). -/
def backPressureFree (s : State) : State :=
  backPressure (modTrav (fun v => { v with stopped := v.c4.isSome, bpAct := false, bpLocal := false }) s)

end Sys2Proof.Machine
end

