-- ==== Sys2Proof/Machine/Activate.lean ====
section
/-! DEFINITION. Activation of an update, the trial, RECOVERY and the companion's images (13 R306 to R312), and the execution of state
changes (14 R318, R320). -/

namespace Sys2Proof.Machine

/-! ### The slot on trial (13 R296, R298, R306) -/

/-- Write the cadastre region of one QSPI device: 0 A, 1 B (02 R41). -/
def regionWrite (n : Nat) (img : CadImage) (s : State) : State :=
  modCad (fun c => if n = 0 then { c with regionA := some img } else { c with regionB := some img }) s

/-- The cadastre image that runs (02 R41, Table 2.7). -/
def runningImage (s : State) : Option CadImage :=
  if s.glob.cdstSrc = 1 then s.cad.regionA else if s.glob.cdstSrc = 2 then s.cad.regionB else s.cad.posted

/-- A slot enters TRIAL: TRIAL_BOOTS 0, ACT_SEQ one above the highest of both slots, and RETIRED_MASK that of the run that last wrote
COMMITTED (13 Table 13.2, Table 13.7 step 4, log 28). -/
def slotTrial (n : Nat) (s : State) : State :=
  let m := max (fwSlot s 0).actSeq (fwSlot s 1).actSeq
  let o := fwSlot s (1 - n)
  let mask := if o.state = 4 then o.retiredMask else (fwSlot s n).retiredMask
  setFwSlot n { fwSlot s n with state := 3, trialBoots := 0, actSeq := m + 1, activateAt := 0, retiredMask := mask } s

/-- The schedule ends, with a code reported (13 R306, R309). -/
def scheduleEnd (c : U16) (s : State) : State :=
  let id : Nat := (s.upd.schedule.map (·.1)).getD 0
  let s := modUpd (fun u => { u with schedule := none, deferredAt := none, twinWait := none, activating := false }) s
  addNote c [id] (recordRefusal 10 c [u32 id] s)

/-- Steps 4 and 5 of Table 13.7: every part re-hashed from flash, the staging slot TRIAL with its cadastre part, or a copy of the running
image, in its device (log 29); OC_UPD_ACTIVATING reported; and the warm reset, at which the keeper starts the trial timer (13 R298, R306,
R308). `bad` where a part does not match its HASH. -/
def activateSlot13 (bad : Bool) (s : State) : State :=
  let n := stagingNo s
  let x := fwSlot s n
  if bad then backPressureFree (scheduleEnd OC_UPD_PART_HASH (setFwSlot n { x with state := 5, activateAt := 0 } s))
  else
    let s := slotTrial n s
    let s := match x.cadImage.orElse (fun _ => runningImage s) with
      | some img => regionWrite n img s
      | none => s
    let s := reportAll (addNote OC_UPD_ACTIVATING [(n : Int)] s)
    let s := warmReset (modUpd (fun u => { u with schedule := none, deferredAt := none }) s)
    modUpd (fun u => { u with trialAt := some s.mono }) s

/-- The activation of a single unit or of a standby: steps 1 to 5 of Table 13.7. A standby takes its commits from the active and applies no
back-pressure (13 R306, R309). -/
def activateNow (bad : Bool) (s : State) : State :=
  let s := modUpd (fun u => { u with activating := true }) s
  activateSlot13 bad (if makesEntries s then closeEpochs (drainTags (backPressureHold s)) else s)

/-- May the device activate: HEALTHY or DEGRADED, in TQ0 or TQ1 (13 R306)? -/
def activationReady (s : State) : Bool := serving s && decide (s.glob.tq ≤ 1)

/-- UPDATE_ACTIVATION: ACTIVATE_AT has come (13 R306). The active of a pair waits for its standby first (13 R309). -/
def updateActivation (bad : Bool) (s : State) : State := match s.upd.schedule with
  | none => s
  | some (id, a) =>
    let s := elapseDev a s
    if s.twin.role = 1 then
      (if s.upd.twinWait.isSome || s.upd.activating then s else modUpd (fun u => { u with twinWait := some a }) s)
    else if s.upd.deferredAt.isSome then s
    else if activationReady s then activateNow bad s
    else addNote OC_UPD_DEFERRED [(id : Int), (a : Int)] (modUpd (fun u => { u with deferredAt := some a }) s)

/-- The retry of a deferred activation at an epoch boundary, or its end beyond UPDATE_DEFER_MAX_H (13 R306). -/
def activationRetry (bad : Bool) (s : State) : State := match s.upd.deferredAt with
  | none => s
  | some t =>
    if t + cadNum s 0x0710 1 * 3600000000000 < devTime s then scheduleEnd OC_UPD_ABANDONED s
    else if activationReady s ∧ s.twin.role ≠ 1 then activateNow bad s
    else s

/-- TRIAL_TIMER_EXPIRY: 120 s after the warm reset without the trial's commit the keeper fails the slot and resets; OC_UPD_FALLBACK waits for
the first REPORT after the start (13 R308). -/
def trialTimerExpiry (s : State) : State := match s.upd.trialAt, [0, 1].find? (fun n => (fwSlot s n).state == 3) with
  | some t, some n =>
    let s := elapseTo (t + 120000000000) s
    addNote OC_UPD_FALLBACK [n] (warmReset (fbSave (trialFailed n s)))
  | _, _ => s

/-- TWIN_UPDATE_WAIT_TIMEOUT: the standby is not resynchronised within TWIN_UPDATE_WAIT_S of A, and the active does not activate
(13 R309). -/
def twinUpdateWaitTimeout (s : State) : State := match s.upd.twinWait with
  | none => s
  | some a => scheduleEnd OC_UPD_PARTNER (elapseDev (a + cadNum s 0x0710 0 * 1000000000) s)

/-! ### RECOVERY (13 R310, R311) -/

/-- The slot that a download is written into: one in EMPTY, FAILED, STAGING or STAGED, A before B, otherwise the one with the lower
ACT_SEQ (13 R310). -/
def recoverySlot (s : State) : Nat :=
  match [0, 1].find? (fun n => [0, 5, 1, 2].contains (fwSlot s n).state) with
  | some n => n
  | none => if (fwSlot s 1).actSeq < (fwSlot s 0).actSeq then 1 else 0

/-- A packet of the recovery protocol with its CRC-32C, big-endian (13 R311, Table 13.8). -/
def recoveryPacket (type seq offset : Nat) (c : U16) (payload : List U8) : List U8 :=
  let b := beBytes 2 0x5243 ++ beBytes 1 type ++ zeros 1 ++ beBytes 4 seq ++ beBytes 4 offset ++ beBytes 2 payload.length ++ beBytes 2 c.toNat ++ payload
  b ++ beBytes 4 (crc32c b).toNat

/-- A packet on the UART (path 0) or MGMT (path 1). -/
def recoverySend (path : Nat) (name : String) (b : List U8) (s : State) : State := send .recovery name ((path : Int) :: byteNums b) s

/-- The payload of ANNOUNCE (13 R311, log 128). -/
def announceBytes (s : State) : List U8 :=
  let fl := max (fwSlot s 0).journalFloor (fwSlot s 1).journalFloor
  beBytes 4 0x80001049 ++ beBytes 1 (lifecycleCode s) ++ beBytes 1 s.upd.reason ++ beBytes 16 (unitOf s) ++ beBytes 4 s.keys.floor ++ beBytes 2 fl ++
    beBytes 1 (fwSlot s 0).state ++ beBytes 1 (fwSlot s 1).state ++ zeros 34

/-- RECOVERY_ANNOUNCE_TIMER: ANNOUNCE every 1 s on both paths until a valid host packet arrives (13 R311). -/
def recoveryAnnounce (s : State) : State :=
  if s.glob.state ≠ .recovery ∨ !s.upd.announcing then s
  else
    let s := elapseTo (s.upd.announcedAt + 1000000000) s
    let b := recoveryPacket 0x01 0 0 OC_OK (announceBytes s)
    recoverySend 1 "ANNOUNCE" b (recoverySend 0 "ANNOUNCE" b (modUpd (fun u => { u with announcedAt := s.mono }) s))

/-- The UART's receiver hunts for MAGIC (13 R311). -/
def huntMagic : List U8 → List U8
  | a :: b :: l => if a = 0x52 ∧ b = 0x43 then a :: b :: l else huntMagic (b :: l)
  | l => l

/-- A host packet: TYPE, SEQ, OFFSET and payload; absent where MAGIC, LENGTH or CRC is bad (13 R311). -/
def recoveryRead (path : Nat) (b : List U8) : Option (Nat × Nat × Nat × List U8) :=
  let b := if path = 0 then huntMagic b else b
  let n := beAt b 12 2
  if beAt b 0 2 ≠ 0x5243 ∨ 4096 < n ∨ b.length ≠ 20 + n ∨ beAt b (16 + n) 4 ≠ (crc32c (b.take (16 + n))).toNat then none
  else some (beAt b 2 1, beAt b 4 4, beAt b 8 4, (b.drop 16).take n)

/-- A host packet of a TYPE arrives in RECOVERY; any other bytes are no command of the row (13 R311). -/
def recoveryArrives (type path : Nat) (b : List U8) (f : Nat → Nat → List U8 → State → State) (s : State) : State :=
  if s.glob.state ≠ .recovery then s
  else match recoveryRead path b with
    | some (t, q, o, p) => if t = type then f q o p s else s
    | none => s

/-- A valid host packet came. -/
def hostPacket (s : State) : State := modUpd (fun u => { u with announcing := false, hostAt := s.mono }) s

/-- An answer of the recovery protocol: SEQ echoed, OFFSET and OUTCOME (13 Table 13.8). -/
def recoveryAnswer (path type : Nat) (name : String) (seq offset : Nat) (c : U16) (s : State) : State :=
  recoverySend path name (recoveryPacket type seq offset c []) (recordRefusal 10 c [u32 offset] s)

/-- Write the download's slot and its progress. -/
def downloadPut (d : Download) (x : Slot) (s : State) : State := setFwSlot d.slot x (modUpd (fun u => { u with download := some d }) s)

/-- The bytes of an accepted offset: kept until header and part table are complete, then checked under R301 and R302 (13 R310). A failed
check discards the download. -/
def recoveryProgram (d : Download) (bytes : List U8) (signerOk cadOk : Bool) (s : State) : U16 × State :=
  let x := fwSlot s d.slot
  let drop (x : Slot) : State := downloadPut { d with next := 0, start := [], begun := false } x s
  if d.begun then
    let (c, _, y) := slotProgram bytes cadOk x s
    if c ≠ OC_OK then (c, drop y) else (c, downloadPut { d with next := d.next + bytes.length } y s)
  else
    let all := d.start ++ bytes
    let n := headBytes { bytes := all }
    if all.length < 256 ∨ (all.length < n ∧ anySigLength (mhSigLength { bytes := all })) then
      (OC_OK, downloadPut { d with next := d.next + bytes.length, start := all } { x with state := 1 } s)
    else
      let m : ManifestHead := { bytes := all.take n, signerOk := signerOk }
      let c := manifestCheck none m s
      if c ≠ OC_OK then (c, drop { x with state := 5 })
      else
        let y : Slot := { slotBegun 0 m x with erased := true }
        let (c, _, y) := slotProgram (all.drop n) cadOk y s
        if c ≠ OC_OK then (c, drop y)
        else (c, downloadPut { d with next := d.next + bytes.length, start := [], begun := true } y s)

/-- RECOVERY_DATA: a DATA packet on the UART (path 0) or MGMT (path 1) (13 R310, R311). A packet with a bad MAGIC, LENGTH or CRC is
dropped without answer. -/
def recoveryData (path : Nat) (b : List U8) (signerOk cadOk : Bool) (s : State) : State := recoveryArrives 0x10 path b (fun seq offset bytes s =>
  let d := s.upd.download.getD { path := path, slot := recoverySlot s }
  if d.path ≠ path then recoveryAnswer path 0x11 "ACK" seq 0 OC_BUSY s
  else
    let s := hostPacket s
    if offset ≠ d.next then recoveryAnswer path 0x11 "ACK" seq d.next OC_UPD_SEQUENCE (modUpd (fun u => { u with download := some d }) s)
    else
      let (c, s) := recoveryProgram d bytes signerOk cadOk s
      recoveryAnswer path 0x11 "ACK" seq ((s.upd.download.map (·.next)).getD 0) c s) s

/-- A complete download: the slot TRIAL with its cadastre part, RECOVERY_DONE, and a warm reset (13 R310). -/
def recoveryInstall (n : Nat) (s : State) : State :=
  let s := slotTrial n s
  let s := match (fwSlot s n).cadImage with
    | some img => regionWrite n img s
    | none => s
  let s := warmReset (modUpd (fun u => { u with recoveryDone := true, download := none }) s)
  modUpd (fun u => { u with trialAt := some s.mono }) s

/-- RECOVERY_FINISH: FINISHED once every part has been verified, or with the failing code (13 R311). -/
def recoveryFinish (path : Nat) (b : List U8) (s : State) : State := recoveryArrives 0x20 path b (fun seq _ _ s => match s.upd.download with
  | none => recoveryAnswer path 0x21 "FINISHED" seq 0 OC_UPD_SEQUENCE (hostPacket s)
  | some d =>
    if d.path ≠ path then recoveryAnswer path 0x21 "FINISHED" seq 0 OC_BUSY s
    else
      let s := hostPacket s
      if (fwSlot s d.slot).state = 2 then recoveryInstall d.slot (recoveryAnswer path 0x21 "FINISHED" seq d.next OC_OK s)
      else recoveryAnswer path 0x21 "FINISHED" seq d.next OC_UPD_SEQUENCE s) s

/-- RECOVERY_ABORT: the download in progress ends (13 R310, R311). -/
def recoveryAbort (path : Nat) (b : List U8) (s : State) : State := recoveryArrives 0x30 path b (fun seq _ _ s => match s.upd.download with
  | some d => if d.path = path then modUpd (fun u => { u with download := none }) (hostPacket s) else recoveryAnswer path 0x11 "ACK" seq 0 OC_BUSY s
  | none => hostPacket s) s

/-- RECOVERY_SILENCE_TIMEOUT: 30 s without a valid packet release the download path, and the device announces itself again
(13 R310, R311). -/
def recoverySilence (s : State) : State :=
  if s.glob.state ≠ .recovery ∨ s.upd.announcing then s
  else
    let s := elapseTo (s.upd.hostAt + 30000000000) s
    modUpd (fun u => { u with download := none, announcing := true, announcedAt := s.mono }) s

/-! ### The companion's images (13 R312, 02 R39) -/

/-- Bytes at an offset of BAR2; those posted before the doorbell are visible to it (17 R379). -/
def postedBytes (s : State) (off n : Nat) : List U8 := memReadBytes (commitCmp s.cmp s.out) off n

/-- Header, signature and part table of the manifest at BAR2 offset 0, as far as CMP_MANIFEST_LEN reaches (13 R312). -/
def companionHead (signerOk : Bool) (s : State) : ManifestHead :=
  { bytes := postedBytes s 0 (min s.upd.manifestLen.toNat (headBytes { bytes := postedBytes s 0 256 })), signerOk := signerOk }

/-- The parts of a manifest read from BAR2 and judged (13 R302): the payload follows header and part table. -/
def companionSlot (m : ManifestHead) (partOk : Bool) (old : Slot) (s : State) : U16 × Slot :=
  let (c, _, y) := slotProgram (postedBytes s (headBytes m) (mhTotal m - headBytes m)) partOk { slotBegun 0 m old with erased := true } s
  (c, y)

/-- CMP_RESULT. -/
def companionResult (c : U16) (s : State) : State :=
  modUpd (fun u => { u with result := 0x80000000#32 ||| c.setWidth 32 }) (recordRefusal 10 c [] s)

/-- The code of the companion's manifest: its length, R301 and R302, and the slot it makes: FAILED where a part fails, and to be left alone
where the header fails (13 R310, R312). -/
def companionCheck (m : ManifestHead) (partOk : Bool) (old : Slot) (s : State) : U16 × Slot :=
  if s.upd.manifestLen.toNat < mhTotal m ∨ mhTotal m < headBytes m then (OC_UPD_HEADER, { old with state := 0 })
  else
    let c := manifestCheck none m s
    if c ≠ OC_OK then (c, { old with state := 0 }) else companionSlot m partOk old s

/-- CMP_DOORBELL.GO: at boot source 0b10 both images run from DRAM and the start goes on with what `i` finds; in RECOVERY they are written
to QSPI and the device resets; at any other time GO clears DONE and nothing follows (13 R310, R312, 02 R39). The operands say whether the
signatures of the manifest at BAR2 offset 0, of its cadastre part and of the cadastre image at 0x0800_0000 verify; the image is used where
CMP_CADASTRE_LEN is not 0. -/
def companionGo (signerOk partOk imgOk : Bool) (i : StartInfo) (s : State) : State :=
  let s := modUpd (fun u => { u with result := 0 }) s
  let m := companionHead signerOk s
  let posted : Option CadImage := if s.upd.cadastreLen = 0 then none
    else some { bytes := postedBytes s 0x08000000 s.upd.cadastreLen.toNat, sigOk := imgOk }
  if s.glob.state = .boot ∧ s.glob.startStep = 8 ∧ bootSrc s = 2 then
    let (c, _) := companionCheck m partOk {} s
    let s := companionResult c s
    if c ≠ OC_OK then s
    else
      let s := modCad (fun c => { c with posted := posted }) (modUpd (fun u => { u with companionBoot := true }) s)
      (startRest i (stepDone 9 s)).state
  else if s.glob.state = .recovery ∧ s.clk.pllLock.getLsbD 1 then
    match s.upd.download with
    | some _ => companionResult OC_BUSY s
    | none =>
      let s := hostPacket s
      let n := recoverySlot s
      let (c, y) := companionCheck m partOk (fwSlot s n) s
      let cc := (posted.map (fun x => checkCode (cadCheck x s))).getD OC_OK
      if c ≠ OC_OK then companionResult c (if y.state = 5 then setFwSlot n y s else s)
      else if cc ≠ OC_OK then companionResult cc (setFwSlot n { y with state := 5 } s)
      else
        let s := companionResult OC_OK (setFwSlot n y s)
        recoveryInstall n (match posted with
          | some x => regionWrite n x s
          | none => s)
  else s

/-! ### State changes (14 R318, R320) -/

/-- STATE_CHANGE_EXECUTE: steps 3 to 5 of Table 14.4 at the boundary. `fuseOk` is the fuse's read-back. -/
def stateChangeExecute (fuseOk : Bool) (s : State) : State := match s.keys.change with
  | none => s
  | some c =>
    let s := elapseDev c.boundary s
    let s := backPressureHold s
    let s := fbSave (if makesEntries s then closeEpochs (drainTags s) else s)
    if !fuseOk then c4Fault 9 OC_FAULT [] s else warmReset (lifecycleFuse c.newState s)

/-- JTAG_LIFECYCLE_TRANSITION: the transitions that JTAG may request (14 Table 14.3). -/
def jtagTransition (new : Nat) (fuseOk : Bool) (s : State) : State :=
  let old := s.keys.state
  let c := if !((old = 0 ∧ new = 1) ∨ ((old = 1 ∨ old = 5) ∧ new = 6)) then OC_LIFECYCLE
    else if old = 0 ∧ !s.keys.fuseRoot then OC_LC_PRECONDITION else OC_OK
  let s := send .jtag "TRANSITION" [c.toNat] (recordRefusal 9 c [u32 new] s)
  if c ≠ OC_OK then s
  else
    let s := backPressureHold s
    let s := fbSave (if makesEntries s then closeEpochs (drainTags s) else s)
    if !fuseOk then c4Fault 9 OC_FAULT [] s else warmReset (lifecycleFuse new s)

end Sys2Proof.Machine
end

