-- ==== Sys2Proof/Machine/Boundary.lean ====
section
/-! DEFINITION. The epoch boundary, cluster gating, and the rows of containment (01 R15, R25 to R28, 04 R110 to R112). -/

namespace Sys2Proof.Machine

/-! ### Clusters (01 R27, R28) -/

/-- Running clusters. -/
def clustersRunning (s : State) : List Nat := (List.range 4).filter (fun k => s.glob.clustersUp.getLsbD k)

/-- Wake the lowest-numbered gated cluster; a cluster draining for gating stays up instead (01 R27, R28). -/
def wakeOne (s : State) : State :=
  if s.glob.draining.isSome then { s with glob := { s.glob with draining := none } }
  else match (List.range 4).find? (fun k => !s.glob.clustersUp.getLsbD k) with
    | some k => { s with glob := { s.glob with clustersUp := s.glob.clustersUp ||| (1#4 <<< k) } }
    | none => s

/-- Clusters that run and are not draining for gating (01 R28). -/
def keptClusters (s : State) : Nat := (clustersRunning s).length - (if s.glob.draining.isSome then 1 else 0)

/-- Gated clusters wake until `m` run (01 R28). -/
def minClusters (m : Nat) (s : State) : State := forEach (List.range (m - (clustersRunning s).length)) (fun _ s => wakeOne s) s

/-- The cluster decision of a boundary from the load of the closed epoch, in percent (01 R27, R28). -/
def clusterDecision (load : Nat) (s : State) : State :=
  let low := decide (load < cadNum s 0x0012 0 ∧ s.glob.maxTags ≤ 256)
  let run := if low then min 8 (s.glob.lowRun + 1) else 0
  let s := { s with glob := { s.glob with lowRun := run, maxTags := s.trav.tags.length } }
  let m := cadNum s 0x0011 0
  let s := if keptClusters s < m then minClusters m { s with glob := { s.glob with draining := none } } else s
  let up := clustersRunning s
  if 70 < load then wakeOne s
  else if run = 8 ∧ m < up.length ∧ s.glob.draining.isNone then
    (match up.getLast? with
     | some k => if k = 0 then s else { s with glob := { s.glob with draining := some k } }
     | none => s)
  else s

/-- CLUSTER_GATED: the draining cluster's queues have moved and its cores are idle (01 R28). -/
def clusterGated (s : State) : State := match s.glob.draining with
  | some k => { s with glob := { s.glob with clustersUp := s.glob.clustersUp &&& ~~~(1#4 <<< k), draining := none } }
  | none => s

/-! ### The boundary (01 R25, Table 1.8) -/

/-- An epoch number as the two words of a payload. -/
def epochWords (e : Int) : List U32 := [i32 e, i32 (e / 4294967296)]

/-- Boundary work left over at a boundary: once recorded as OC_EPOCH_OVERRUN, the second time a C4 fault (01 R25). -/
def overrunCheck (s : State) : State :=
  if s.epoch.work.any (·.overrun) then
    c4Fault 0 OC_EPOCH_OVERRUN ((s.epoch.work.filter (·.overrun)).flatMap (fun w => epochWords w.epoch)) s
  else
    let s' := forEach s.epoch.work (fun w s => record 0 OC_EPOCH_OVERRUN (epochWords w.epoch) s) s
    { s' with epoch := { s'.epoch with work := s'.epoch.work.map (fun w => { w with overrun := true }) } }

/-- DEGRADED is left for HEALTHY once no C3 handling is open and nothing is left retired (01 R26). -/
def degradedExit (s : State) : State :=
  if s.glob.state = .degraded ∧ s.glob.retired.isEmpty ∧ !s.trav.handlings.any (fun h => h.cls == 3) ∧ s.trav.c4.isNone ∧ s.clk.refclkAt.isNone then
    trialCommit (setDevState .healthy s)
  else s

/-- What every boundary does in service, whatever the twin role: steps 1 and 2 of Table 1.8, DEGRADED's end, clusters, the vault's mask,
quiescent drains, the archive, leaf reservation, XA and the field books (02 R49, R50, 08 R195, R199, 14 R324, R334, 16 R373, 18 R415). -/
def boundaryTasks (load lmsFail : Nat) (s : State) : State :=
  let s := { s with glob := { s.glob with led6 := !s.glob.led6 } }
  let s := drainStart (vaultRemask (clusterDecision load (liveApply (degradedExit s))))
  let s := modFlash (fun f => { f with scored := false, untilHealthy := f.untilHealthy && s.glob.state != .healthy }) s
  let s := gcBackground load (retainRelease s)
  let s := if s.keys.reserveFailed then lmsReserve lmsFail s else s
  checkParents (fbBoundarySave (xaRestore s))

/-- While ingest has not started in this run, the boundary that comes is B of R23 where L has changed: the epoch that begins there is
numbered one above the last sealed (01 R23). -/
def epochBegin (s : State) : State := match s.jrn.sealed with
  | none => s
  | some (n, ms, _) =>
    if 17 ≤ s.glob.startStep ∨ !makesEntries s ∨ ms * 1000000 = epochLen s then s
    else { s with epoch := { s.epoch with offset := n + 1 - ((s.epoch.clock / epochLen s : Nat) : Int) } }

/-- The boundary that ends epoch `n` at device time `b` (01 R25, 04 R99, R456, 13 R306). Ingest starts at the first one after start-up. -/
def boundaryNow (load lmsFail : Nat) (bad : Bool) (n : Int) (b : Nat) (s : State) : State :=
  let s := epochBegin s
  let now : Int := ((s.epoch.clock / epochLen s : Nat) : Int) + s.epoch.offset
  let s := { s with epoch := { s.epoch with current := max now (if s.glob.startStep < 17 then now else n + 1) } }
  if !serving s then s
  else if s.glob.ingest then
    let s := if s.epoch.work.isEmpty then s else overrunCheck s
    let s := if makesEntries s then
        closePage { s with epoch := { s.epoch with work := s.epoch.work ++ [{ epoch := n, step := 2, boundary := b }] } }
      else s
    activationRetry bad (boundaryTasks load lmsFail s)
  else activationRetry bad (ingestStart (boundaryTasks load lmsFail s))

/-- EPOCH_BOUNDARY: the boundary of the epoch in progress comes (01 R25). `load` is the Traverse load of the closed epoch in percent (R27),
`lmsFail` which write of a retried leaf reservation fails, and `bad` whether a part of a retried activation fails its hash. -/
def epochBoundary (load lmsFail : Nat) (bad : Bool) (s : State) : State :=
  if !s.bench.running then s
  else
    let n := s.epoch.current
    let b := epochEnd s n
    boundaryNow load lmsFail bad n b (elapseDev b s)

/-- EPOCH_SEAL_COMMIT (04 R454). -/
def epochSealRow (s : State) : State := boundaryAdvance (epochSealCommit s)

/-- SHEET_SIGN (12 R279). -/
def sheetSignRow (lmsFail : Nat) (s : State) : State := boundaryAdvance (sheetSign lmsFail s)

/-- The entries that waited for room in the journal commit (04 R99). -/
def entriesReleased (s : State) : State :=
  if !s.glob.ingest ∨ !entriesHeld s then s
  else commitWaiting false (commitWaiting true (if s.billing.tqDue then commitTq s else s))

/-- JOURNAL_PAGE_WRITTEN: a page reaches the reserve (04 R99). A standby writes the active's pages in place of its own (15 R348). -/
def journalPageWritten (s : State) : State := if makesEntries s then boundaryAdvance (domainTurn (entriesReleased (pageToReserve s))) else s

/-! ### Containment (04 R110 to R112) -/

/-- A NAND channel's C3 reset: victims are scored until the next boundary, and the third in an epoch retires the channel
(08 R195, R198). -/
def channelReset (n : Nat) (s : State) : State :=
  let e := s.epoch.current
  let old := tabGet s.flash.resets n (e, 0)
  let k := if old.1 = e then old.2 + 1 else 1
  let s := modFlash (fun f => { f with resets := tabPut f.resets n (e, k), scored := true }) s
  if k = 3 then retireResource (300 + n) (modFlash (fun f => { f with chUp := f.chUp &&& ~~~(1#8 <<< n) }) s) else s

/-- The reset of Traverse (04 Table 4.9): outstanding misses end, and every tag before commit is to be repeated from its tag buffer; it keeps its
ASN, its admission and its place in its domain. -/
def traverseReset (s : State) : State :=
  modTrav (fun v => { v with tags := v.tags.map (fun t => if inDomain t then
      { t with state := .joined, normal := false, records := [], unmapped := 0, estimates := (0, 0), prevs := [], confirm := {} } else t) })
    { s with store := { s.store with misses := [] } }

/-- The reset of a block that a C3 handling begins with (04 Table 4.9): a port goes down, a NAND channel is reset. -/
def blockReset (h : Handling) (s : State) : State := match h.scope with
  | .block b =>
    if 32 ≤ b ∧ b < 38 then modPlc (b - 32) (fun p => { p with up := false }) s
    else if 48 ≤ b ∧ b < 56 then (if (radioOf s (b - 48)).up then radioReset (b - 48) s else s)
    else if b = 16 then traverseReset s
    else if b = 13 then channelReset (channelOfBlock s ((h.payload.head?.map (·.toNat)).getD 0)) s
    else s
  | _ => s

/-- The blocks of C3 handlings that started between two states are reset. -/
def resetStarted (old s : State) : State :=
  let began (t : State) : List Handling := t.trav.handlings.filter (fun h => h.cls == 3 && h.started)
  forEach ((began s).filter (fun h => !(began old).any (fun g => g.id == h.id))) blockReset s

/-- The effect of an error report (04 R110, R111, 01 R17, 03 R79, 18 R403 to R409). -/
def errorReport (r : ErrorReport) (s : State) : State := match r with
  | .generic cls scope code payload => if cls ≤ 1 then containC1 s else containError cls scope code payload s
  | .dramRead line res => lineRead line res s
  | .sram bank word cells holder => sramRead bank word cells holder s
  | .headMismatch bucket h d =>
    containError 2 (.op 16 bucket) OC_HEAD_MISMATCH [lo32 h.toNat, hi32 h.toNat, lo32 d.toNat, hi32 d.toNat]
      (rebuildBegin bucket s)
  | .wardenMismatch => c4Fault 9 OC_FAULT [] s

/-- CONTAIN_ERROR (04 R111). -/
def containReport (r : ErrorReport) (s : State) : State := resetStarted s (errorReport r s)

/-- CONTAIN_C2_REPEAT_DONE: a repeat completes, or fails; the fourth failure continues as C3 (04 Table 4.9). -/
def containRepeat (id : Nat) (ok : Bool) (s : State) : State := match handlingOf s id with
  | none => s
  | some h =>
    if h.cls ≠ 2 ∨ !h.started then s
    else if ok then resetStarted s (handlingEnd id (headReread h.scope s))
    else if 4 ≤ h.failures + 1 then resetStarted s (handlingToC3 h s)
    else modTrav (fun v => { v with handlings := v.handlings.map (fun x => if x.id = id then { x with failures := x.failures + 1 } else x) }) s

/-- CONTAIN_C2_TIMEOUT: a C2 handling that lasts 1 ms continues as C3 (04 Table 4.9). -/
def containC2Timeout (id : Nat) (s : State) : State := match handlingOf s id with
  | none => s
  | some h => if h.cls ≠ 2 ∨ !h.started then s else resetStarted s (handlingToC3 h (elapseTo (h.since + 1000000) s))

/-- The block of a C3 handling is back in service (04 Table 4.9): a port is up again with its unacknowledged frame to send, the die-to-die
link trained, with the field-die work in flight, the PLC frames being sent, replayed (01 R15). -/
def blockBack (sc : Scope) (s : State) : State := match sc with
  | .block b =>
    if 32 ≤ b ∧ b < 38 then
      modPlc (b - 32) (fun p => { p with up := !p.retired, queue := p.current.toList ++ p.queue, current := none }) s
    else if 48 ≤ b ∧ b < 56 then (if (radioOf s (b - 48)).retired then s else radioArm (b - 48) s)
    else if b = 0 then
      forEach (List.range 6) (fun n => modPlc n (fun p => { p with queue := p.current.toList ++ p.queue, current := none }))
        (linesWritten (fun l => areaOf s l == .firmware) { s with glob := { s.glob with dieRetrain := none } })
    else if b = 16 then waitingLookups (linesWritten (fun l => areaOf s l == .freeList) s)
    else if b = 17 then linesWritten (fun l => areaOf s l == .steelyard) s
    else if b = 14 then { s with jrn := { s.jrn with ring := 0 } }
    else s
  | _ => s

/-- CONTAIN_C3_DONE: the block is back with its work replayed, and the handling ends (04 Table 4.9). -/
def containC3Done (id : Nat) (s : State) : State := match handlingOf s id with
  | none => s
  | some h => if h.cls ≠ 3 ∨ !h.started then s else resetStarted s (domainTurn (handlingEnd id (blockBack h.scope s)))

/-- CONTAIN_C3_TIMEOUT: a C3 handling that has not ended after 2 s continues as C4 (04 Table 4.9). -/
def containC3Timeout (id : Nat) (s : State) : State := match handlingOf s id with
  | none => s
  | some h => if h.cls ≠ 3 ∨ !h.started then s else handlingToC4 h (elapseTo (h.since + 2000000000) s)

/-- BUCKET_REBUILD_DONE: the bucket is rebuilt from the parcel store, waiting lookups resume, and the handling ends (03 R79). -/
def bucketRebuildDone (s : State) : State := match s.store.rebuild.find? (fun b => !s.trav.handlings.any (fun h => h.scope == .op 16 b && !h.started)) with
  | none => s
  | some b =>
    let s := linesWritten (fun l => l == bucketLine s b) { s with store := { s.store with rebuild := s.store.rebuild.filter (fun x => x != b) } }
    let s := match s.trav.handlings.find? (fun h => h.scope == .op 16 b) with
      | some h => resetStarted s (handlingEnd h.id s)
      | none => s
    waitingLookups s

/-- Write `n` pages of the tail to the reserve. -/
def flushSome (n : Nat) (s : State) : State := forEach (s.jrn.pages.take n) (fun _ t => pageToReserve t) s

/-- C4_FLUSH_DONE: steps 2 to 4 of R112. `pages` of the tail reached the reserve; what did not is lost and reported. A thermal trip holds
the warm reset (20 R449). -/
def c4FlushDone (pages : Nat) (s : State) : State :=
  if s.trav.c4.isNone then s
  else
    let s := flushSome pages (closePage s)
    let s := if s.jrn.lastJsn ≤ s.jrn.durable then s
      else
        let a := s.jrn.durable + 1
        let z := s.jrn.lastJsn
        let s := { s with jrn := { s.jrn with losses := s.jrn.losses ++ [(20, a, z)] } }
        record 16 OC_JOURNAL_LOST [lo32 a, hi32 a, lo32 z, hi32 z] s
    let s := fbSave (fbClose 16 s)
    if s.power.thermalAt.isSome then s else warmReset s

/-- DIE_LINK_TRANSFER_ERROR: a transfer between the dies fails its CRC; a retry that succeeds is a C1 event, and the 16th failure in a row
retrains the link under C3 (01 R15). -/
def dieLinkError (again : Bool) (s : State) : State :=
  let s := { s with glob := { s.glob with dieErrors := s.glob.dieErrors + 1 } }
  if again then containC1 { s with glob := { s.glob with dieRetries := 0 } }
  else if s.glob.dieRetries + 1 < 16 then { s with glob := { s.glob with dieRetries := s.glob.dieRetries + 1 } }
  else containError 3 (.block 0) OC_FAULT [] { s with glob := { s.glob with dieRetries := 0, dieRetrain := some s.mono } }

/-- DIE_LINK_RETRAIN_TIMEOUT: retraining has not completed within 1 ms (01 R15). -/
def dieLinkTimeout (s : State) : State := match s.glob.dieRetrain with
  | some t => c4Fault 0 OC_FAULT [] (elapseTo (t + 1000000) s)
  | none => s

end Sys2Proof.Machine
end

