-- ==== Sys2Proof/Machine/Downlink.lean ====
section
/-! DEFINITION. What follows a command's own effect: downlinks go to their paths, an entry into a serving state posts its quote, and a
change of what a REPORT carries is reported (04 R98, 12 R274, 14 R336). -/

namespace Sys2Proof.Machine

/-- A downlink that has no path ends without delivery (log 33). -/
def downLost (d : Down) (s : State) : State :=
  if d.kind = 0 then s else { s with hx := { s.hx with ended := s.hx.ended ++ [(d, OC_PLC_NO_ROUTE)] } }

/-- Hand one downlink to the path on which its parcel's frames arrive (04 R98, 12 R292). -/
def routeDown (d : Down) (s : State) : State :=
  if d.path = 1 ∧ d.port < 6 then modPlc d.port (fun p => { p with queue := p.queue ++ [{ down := d }] }) s
  else if d.path = 2 ∧ d.port < 8 then modRadio d.port (fun p => { p with inbox := p.inbox ++ [d] }) s
  else if d.path = 3 then actEnqueue d s
  else downLost d s

/-- Hand over the downlinks a command made; a standby dispatches none (04 R98, 15 R346). -/
def routeDowns (s : State) : State :=
  if s.downs.isEmpty then s
  else if standby s then { s with downs := [] }
  else forEach s.downs routeDown { s with downs := [] }

/-- Has a command entered HEALTHY or DEGRADED from another state on a unit that signs (14 R336)? -/
def entersService (old new : State) : Bool := serving new && old.glob.state != new.glob.state && !standby new

/-- What follows a command's effect that led from `old` to `new`. -/
def settle (old new : State) : State :=
  let s := if entersService old new then attestQuote new else new
  let s := if reportKey old ≠ reportKey s then reportAll s else s
  routeDowns s

/-- A command's effect with what follows it. -/
def settled (f : State → State) (s : State) : State := settle s (f s)

/-- The outcome of a command whose effect `f` may make downlinks or change what a REPORT carries. -/
def run (f : State → State) (s : State) : Host.Outcome State Fault Refusal := done (settled f) s

end Sys2Proof.Machine
end

