-- ==== Sys2Proof/Machine/CmdAct.lean ====
section
/-! DEFINITION. The commands of cell transport (chapter 11): one meaning per command. -/

namespace Sys2Proof.Machine

/-- ACT_HELLO. A HELLO capsule is checked and answered with HELLO_ACK and a pending session, CLOSE, or dropped. (11 R253) -/
def execActHello (k : Capsule) (s : State) : Host.Outcome State Fault Refusal := run (actHello k) s

/-- ACT_FRAMES. A FRAMES capsule is authenticated and its items passed to admission within credit. (11 R256) -/
def execActFrames (k : Capsule) (frames : List Arrival) (s : State) : Host.Outcome State Fault Refusal := run (actFrames k frames) s

/-- ACT_CONFIRM. A CONFIRM capsule reports downlink items, each mapped to an outcome for its sender. (11 R261) -/
def execActConfirm (k : Capsule) (s : State) : Host.Outcome State Fault Refusal := run (actConfirm k) s

/-- ACT_BEACON. An authenticated BEACON is answered within 50 ms and counts as a beacon received. (11 R262) -/
def execActBeacon (k : Capsule) (s : State) : Host.Outcome State Fault Refusal := run (actBeacon k) s

/-- ACT_CLOSE_RECEIVED. A CLOSE from the cell node makes the cell DARK at once and ends the session. (11 R263) -/
def execActCloseReceived (k : Capsule) (s : State) : Host.Outcome State Fault Refusal := run (actCloseReceived k) s

/-- ACT_PENDING_SESSION_EXPIRY. A pending session with no authenticated capsule within 10 s is discarded. (11 R253) -/
def execActPendingSessionExpiry (c : Nat) (s : State) : Host.Outcome State Fault Refusal := run (actPendingExpiry c) s

/-- CREDIT_RAISE. When a cell's outstanding credit falls to half and room exists, its limit is raised and a CREDIT capsule sent. (11 R257) -/
def execCreditRaise (s : State) : Host.Outcome State Fault Refusal := run creditRaise s

/-- ACT_DOWNLINK_SEND. A queued downlink item is sent when the cell holds fewer than DL_SLOTS unconfirmed items. (11 R260) -/
def execActDownlinkSend (c : Nat) (s : State) : Host.Outcome State Fault Refusal := run (actDownlinkSend c) s

/-- ACT_DL_TIMEOUT. An item with no report within DL_TIMEOUT_S ends with OC_ACT_DL_TIMEOUT. (11 R261) -/
def execActDlTimeout (c : Nat) (s : State) : Host.Outcome State Fault Refusal := run (actDlTimeout c) s

/-- CELL_DARK_TIMEOUT. No authenticated capsule for three beacon periods plus grace makes the cell DARK. (11 R263) -/
def execCellDarkTimeout (c : Nat) (s : State) : Host.Outcome State Fault Refusal := run (cellDarkTimeout c) s

/-- ACT_SESSION_IDLE_EXPIRY. A cell DARK for SESSION_IDLE_S loses its session. (11 R265) -/
def execActSessionIdleExpiry (c : Nat) (s : State) : Host.Outcome State Fault Refusal := run (actSessionIdle c) s

/-- TAKEOVER_GRACE_EXPIRY. After TAKEOVER_GRACE_S cells without a new handshake are committed DARK. (11 R267) -/
def execTakeoverGraceExpiry (s : State) : Host.Outcome State Fault Refusal := run takeoverGraceExpiry s

/-- ACT_CAPSULE_MALFORMED. A capsule with a bad MAGIC, major version, TYPE or LENGTH, or an oversize datagram, is discarded and counted in ACT_FORMAT.
(11 R249) -/
def execActCapsuleMalformed (dt : Nat) (s : State) : Host.Outcome State Fault Refusal := run (actCapsuleMalformed dt) s

end Sys2Proof.Machine
end

