-- ==== Sys2Proof/Machine/CmdBilling.lean ====
section
/-! DEFINITION. The commands of the tariff engine and the calendars (chapter 06): one meaning per command. -/

namespace Sys2Proof.Machine

/-- CALENDAR_ACTIVATION. Billing time reaches a pending activation, and a CALENDAR_ACTIVATE entry makes the passive version current. (06 R144) -/
def execCalendarActivation (c : Nat) (s : State) : Host.Outcome State Fault Refusal := run (calendarActivation c) s

/-- DEMAND_CLOSURE. Billing time passes a demand boundary plus grace, and a CLOSURE BOUNDARY entry is committed. (06 R150) -/
def execDemandClosure (c : Nat) (s : State) : Host.Outcome State Fault Refusal := run (demandClosure c) s

/-- PERIOD_SWEEP_SLICE. In its scheduled epoch a slice of 65,536 parcel indices is advanced to close their periods. (06 R155) -/
def execPeriodSweepSlice (jsn : Nat) (s : State) : Host.Outcome State Fault Refusal := run (sweepSlice jsn) s

/-- SNAPSHOT_MARK_COMMIT. Billing time reaches a snapshot AT, and a SNAPSHOT_MARK entry is committed. (12 R288) -/
def execSnapshotMarkCommit (s : State) : Host.Outcome State Fault Refusal := run snapshotMarkCommit s

end Sys2Proof.Machine
end

