-- ==== Sys2Proof/Machine/Views.lean ====
section
/-! DEFINITION. What the panel shows of other blocks (19 R418). -/

namespace Sys2Proof.Machine

/-- Channel `n` is in service (08 Table 8.9). -/
def ncInService (s : State) (n : Nat) : Bool := s.flash.chUp.getLsbD n

/-- The archive is in SQUEEZE (08 R199). -/
def squeezed (s : State) : Bool := s.flash.squeeze

end Sys2Proof.Machine
end

