-- ==== Sys2Proof/Machine/Panel.lean ====
section
/-! DEFINITION. The status panel: the target image, updates, waveforms and DC book-keeping (19 R418 to R427). -/

namespace Sys2Proof.Machine

/-- Segments of one hexadecimal digit (19 Table 19.2). -/
def digitBits (n : Nat) : Nat :=
  [0x3F, 0x06, 0x5B, 0x4F, 0x66, 0x6D, 0x7D, 0x07, 0x7F, 0x6F, 0x77, 0x7C, 0x39, 0x5E, 0x79, 0x71].getD n 0

/-- Segments 0 to 27: the fault digits, most significant first (19 R419). -/
def faultDigits (c : U16) : Nat :=
  digitBits (c.toNat / 4096) + 2 ^ 7 * digitBits (c.toNat / 256 % 16) + 2 ^ 14 * digitBits (c.toNat / 16 % 16) +
    2 ^ 21 * digitBits (c.toNat % 16)

/-- The code the fault digits show (19 R419): in HALTED the code that stopped start-up, else the newest class 0x8 record. -/
def shownFault (s : State) : Option U16 := if s.glob.state = .halted then some s.glob.haltCode else s.fb.lastFault

/-- A segment lit where `b` holds. -/
def segIf (b : Bool) (n : Nat) : Nat := if b then 2 ^ n else 0

/-- The target image of the 96 segments (19 Table 19.1); `lg` adds segment 79 or 80 after a last gasp. -/
def targetImage (lg : Option Bool) (s : State) : BitVec 96 :=
  let dig := match shownFault s with
    | some c => faultDigits c
    | none => 0
  let role := s.twin.role
  let n := dig + 2 ^ (28 + stateCode s.glob.state) + 2 ^ (37 + s.glob.tq) +
    (if role = 0 then 0 else 2 ^ (40 + role)) + 2 ^ (44 + lifecycleCode s) +
    ((List.range 6).map (fun p => segIf (plcUp s p) (51 + p))).sum +
    ((List.range 8).map (fun p => segIf (radioUp s p) (57 + p))).sum +
    ((List.range 5).map (fun p => segIf (s.panel.links.getLsbD p) (65 + p))).sum +
    ((List.range 8).map (fun p => segIf (ncInService s p) (70 + p))).sum +
    segIf (squeezed s) 78 + segIf (lg == some true) 79 + segIf (lg == some false) 80 +
    segIf (hxOpenAny s) 81 + segIf (actListening s) 82 + segIf s.fb.lastFault.isSome 83 + 2 ^ 84 * s.panel.user.toNat
  BitVec.ofNat 96 n

/-- The band of a panel temperature in 0.1 degC (19 R424); below -15 degC the band of -15 is kept. -/
def bandOf (t : Int) : Nat := if t < 0 then 0 else if t < 100 then 1 else if t < 200 then 2 else if t < 300 then 3 else if t < 450 then 4 else 5

/-- Measure the panel temperature: the field-die temperature (0.1 degC) plus TEMP_OFFSET_C (19 R424). OC_PANEL_COLD is
recorded once per period spent below -15 degC. -/
def panelMeasure (field : Int) (s : State) : State :=
  let t := field + 10 * cadInt s 0x0930 0 1
  let cold := decide (t < -150)
  let was := s.panel.cold
  let s := { s with panel := { s.panel with temp := t, band := bandOf t, cold := cold }, power := { s.power with fieldTemp := field } }
  if cold && !was then record 12 OC_PANEL_COLD [i32 t] s else s

/-- Waveform `kind` of a band: from PANEL_WAVEFORMS, or the manifest's default tables (19 R423). -/
def waveform (s : State) (band : Nat) (k : WaveKind) : Waveform :=
  let i := 3 * band + (match k with
    | .update => 0
    | .balance => 1
    | .lastGasp => 2)
  match (cadRows s 0x0931)[i]? with
  | some r => { half := (r.getD 0 1).toNat, frames := ((r.drop 2).take (r.getD 1 0).toNat).map (fun b => BitVec.ofInt 8 b) }
  | none => { half := Config.waveHalf i, frames := Config.waveFrames i }

/-- A waveform starts (19 R422, R425, R427). -/
def panelStart (k : WaveKind) (s : State) : State :=
  let w := waveform s s.panel.band k
  let r : PanelRun := { kind := k, band := s.panel.band, target := targetImage none s, wave := w }
  { s with panel := { s.panel with run := some r, lastStart := some s.mono, retryAt := s.mono } }

/-- An update that is due is tried now: deferred in the cold, else started; the first after a loss of VCC_AON is a refresh
with every ACC taken as 0 (19 R424, R426). -/
def panelTry (field : Int) (s : State) : State :=
  let s := panelMeasure field s
  if s.panel.cold then { s with panel := { s.panel with deferred := s.panel.deferred + 1, retryAt := s.mono } }
  else if !s.panel.accKnown then
    panelStart .balance { s with panel := { s.panel with accKnown := true, acc := [], balancePending := true } }
  else panelStart (if s.panel.balancePending then .balance else .update) s

/-- PANEL_UPDATE_START: the target differs from the shown image and the waiting time is over (19 R421, R422). -/
def panelUpdateStart (field : Int) (s : State) : State :=
  if cadNum s 0x0930 0 = 0 ∨ s.panel.run.isSome ∨ s.power.lastGasp ∨
     (targetImage none s = s.panel.shown ∧ s.panel.accKnown ∧ !s.panel.balancePending) then s
  else
    let due := match s.panel.lastStart with
      | some t => t + cadNum s 0x0930 2 * 1000000000
      | none => s.mono
    let due := if s.panel.failed then max due (s.panel.retryAt + 3600000000000) else due
    let entry := s.glob.state = .halted && !s.panel.shown.getLsbD (28 + stateCode .halted)
    let s := if entry && !s.panel.failed then s else elapseTo due s
    panelTry field s

/-- PANEL_WAVEFORM_DONE: the last frame ends; book-keeping may start a balancing refresh at once (19 R425 to R427). -/
def panelWaveformDone (field : Int) (s : State) : State :=
  match s.panel.run with
  | none => s
  | some r =>
    let cap := decide (r.kind = .balance) && compCapped r.wave.half s
    let h := runHalves r s
    let s := accRun r h (elapseTo (s.panel.lastStart.getD s.mono + h * 500000) s)
    let s := { s with panel := { s.panel with shown := r.target, run := none, updates := s.panel.updates + 1, railRun := 0, failed := false,
                                              balances := if r.kind = .balance then s.panel.balances + 1 else s.panel.balances,
                                              balancePending := false } }
    let s := panelMeasure field s
    let drift := (List.range 96).any (fun i => decide ((cadNum s 0x0930 4 : Int) < (tabGet s.panel.acc i 0).natAbs))
    let jump := decide (r.band + 2 ≤ s.panel.band ∨ s.panel.band + 2 ≤ r.band)
    if cap || drift || jump then
      let s := { s with panel := { s.panel with balancePending := true } }
      if s.panel.cold then { s with panel := { s.panel with deferred := s.panel.deferred + 1, retryAt := s.mono } } else panelStart .balance s
    else s

/-- PANEL_RAIL_TIMEOUT: a rail not at 90 % within 2 ms (19 R421): rails 0 VNEG, 1 VPOS, 2 VTPN, 3 VTPP. -/
def panelRailTimeout (rail : Nat) (s : State) : State :=
  match s.panel.run with
  | none => s
  | some _ =>
    let n := s.panel.railRun + 1
    record 12 OC_PANEL_RAIL [u32 rail]
      { s with panel := { s.panel with run := none, railFaults := s.panel.railFaults + 1, railRun := n, failed := decide (3 ≤ n), retryAt := s.mono } }

/-- PANEL_COLD_RETRY: a deferred update is retried after 60 s (19 R424). -/
def panelColdRetry (field : Int) (s : State) : State :=
  if s.panel.cold && s.panel.run.isNone && !s.power.lastGasp && cadNum s 0x0930 0 != 0 then panelTry field (elapseTo (s.panel.retryAt + 60000000000) s) else s

/-- The fault image drawn with the band's LAST_GASP waveform (19 R429): `full` where the whole tail was flushed. A segment
that a cut waveform was changing is never kept. -/
def panelLastGasp (field : Int) (full : Bool) (s : State) : State :=
  let s := panelMeasure field s
  if cadNum s 0x0930 0 = 0 ∨ s.panel.failed ∨ s.panel.cold then s
  else
    let w := waveform s s.panel.band .lastGasp
    let t := targetImage (some full) s
    let s := accWave w s.panel.changing t (w.half * w.frames.length) s
    { s with panel := { s.panel with shown := t, changing := 0, updates := s.panel.updates + 1 } }

/-- A write of PANEL_USER (19 Table 19.8). -/
def panelUserWrite (v : U32) (s : State) : State × U16 :=
  if v &&& 0xFFFEF000 ≠ 0 then (s, OC_RESERVED_SET)
  else ({ s with panel := { s.panel with user := v.setWidth 12, led7 := v.getLsbD 16 } }, OC_OK)

/-- A write of DC_SELECT (19 Table 19.8). -/
def dcSelectWrite (v : U32) (s : State) : State × U16 :=
  if v &&& 0xFFFFFF80 ≠ 0 then (s, OC_RESERVED_SET)
  else if 96 ≤ v.toNat then (s, OC_RANGE)
  else ({ s with panel := { s.panel with dcSelect := v.toNat } }, OC_OK)

/-- PANEL_STATUS (19 Table 19.9); in the last gasp the rails are up from step 2 to step 6 of Table 19.5. -/
def panelStatus (s : State) : U32 :=
  let left := match s.panel.run with
    | some r => r.wave.frames.length - ((s.mono - s.panel.lastStart.getD s.mono) / 500000 - compHalves r s) / max 1 r.wave.half
    | none => 0
  let gasp : Bool := s.power.lastGasp && s.power.lgStep == 3 && cadNum s 0x0930 0 != 0 && !s.panel.failed && !s.panel.cold
  bitAt (s.panel.run.isSome || gasp) 31 ||| bitAt s.panel.run.isSome 30 ||| bitAt s.panel.balancePending 29 ||| bitAt s.panel.cold 28 |||
    bitAt s.panel.failed 27 ||| fieldAt s.panel.band 24 ||| fieldAt left 0

end Sys2Proof.Machine
end

