-- ==== Sys2Proof/Machine/Power.lean ====
section
/-! DEFINITION. Power-fail detection, the last gasp, rails and temperature (19 R428 to R430, 20 R437 to R450). -/

namespace Sys2Proof.Machine

/-- A sample of VIN_SENSE (mV), 10 us after the one before: the last 100 us, the dwell below the threshold, which a return above the threshold plus
50 mV cancels, and after step 7 of the last gasp the time above that value (19 R428, R430, log 135). -/
def vinSample (v : Nat) (s : State) : State :=
  let s := elapse 10000 s
  let p := s.power
  let thr := cadNum s 0x0932 0
  let high := decide (thr + 50 < v)
  { s with power := { p with vin := v, window := (v :: p.window).take 11,
                             lowSince := if high then none else if v < thr then some (p.lowSince.getD s.mono) else p.lowSince,
                             returnAt := if p.lgStep = 7 ∧ high then some (p.returnAt.getD s.mono) else none } }

/-- Does the detector trip on the last sample (19 R428): below the threshold, and falling faster than PF_SLOPE over 100 us, or for PF_DWELL, or below
75 % of the threshold? -/
def pfTrips (s : State) : Bool :=
  let v := s.power.vin
  let thr := cadNum s 0x0932 0
  let steep : Bool := match s.power.window[10]? with
    | some o => decide (cadNum s 0x0932 1 < 10 * (o - v))
    | none => false
  let dwelt : Bool := match s.power.lowSince with
    | some t => decide (t + cadNum s 0x0932 2 * 1000 ≤ s.mono)
    | none => false
  decide (v < thr) && (decide (4 * v < 3 * thr) || steep || dwelt)

/-- The trip: steps 1 to 3 of Table 19.5 (19 R428, R429, 20 R440). -/
def lastGaspEnter (s : State) : State :=
  let s := record 2 OC_POWER_FAIL [u32 s.power.vin] s
  let s := if s.glob.state = .slowHold then fastRestart true s else s
  let s := { s with power := { s.power with lastGasp := true, lgStep := 3, lgCut := false, tripAt := s.mono, tripTime := devTime s,
                                            trips := s.power.trips + 1, tripped := true, huEn := false, returnAt := none },
                    trav := { s.trav with stopped := true, bpAct := true, bpLocal := true } }
  let s := setDevState .lastGasp s
  let s := if s.twin.role = 2 then s else hxLastGasp s
  panelCut s

/-- POWER_FAIL_TRIP: samples of VIN_SENSE, one every 10 us. Where detection runs, the first that trips enters LAST_GASP; the trip happens once
(19 R428). -/
def powerFailTrip (samples : List Nat) (s : State) : State := forEach samples (fun v s =>
  let s := vinSample v s
  if s.power.armed && !s.power.lastGasp && pfTrips s then lastGaspEnter s else s) s

/-- LAST_GASP_FLUSH_DONE: steps 4 to 7 of Table 19.5 (19 R429, R430). `pages` of the tail reached the reserve, the partial
page counting as one; `field` is the field-die temperature. -/
def lastGaspFlushDone (pages : Nat) (field : Int) (s : State) : State :=
  if !s.power.lastGasp || s.power.lgCut || s.power.lgStep != 3 then s
  else
    let s := closePage s
    let all := s.jrn.pages
    let full := decide (all.length ≤ pages)
    let s := flushSome pages s
    let s := fbSave s
    let s := { s with power := { s.power with lgStep := 4, lgKib := u32 (64 * min pages all.length),
                                              marker := some (s.power.tripTime, s.jrn.lastJsn, s.jrn.durable) } }
    let s := panelLastGasp field full s
    let s := elapseTo (s.power.tripAt + 20000000) s
    let s := { s with power := { s.power with lgStep := 7, lgLastUs := u32 ((s.mono - s.power.tripAt) / 1000), railEn := false },
                      bench := { s.bench with running := false } }
    s

/-- VIN_RETURN_RESET: VIN_SENSE above the threshold plus 50 mV for 100 ms after step 7; the keeper warm resets (19 R430). -/
def vinReturnReset (vin : Nat) (s : State) : State :=
  let s := { s with power := { s.power with vin := vin } }
  if s.power.lgStep = 7 ∧ cadNum s 0x0932 0 + 50 < vin then warmReset (elapseTo (s.power.returnAt.getD s.mono + 100000000) s) else s

/-- RAIL_LOW: a main rail below its minimum for 10 us (20 R439). -/
def railLow (rail : Nat) (s : State) : State :=
  if s.power.lastGasp then { s with power := { s.power with lgCut := true } }
  else c4Fault 2 OC_RAIL_LOW [u32 rail] s

/-- TEMP_HIGH: the main die at or above 110 degC for 1 s, once per excursion (20 R449). -/
def tempHighEvent (t : Int) (s : State) : State :=
  let s := { s with power := { s.power with mainTemp := t } }
  if s.power.tempHigh ∨ t < 1100 then s
  else addNote OC_TEMP_HIGH [t] (record 2 OC_TEMP_HIGH [i32 t] { s with power := { s.power with tempHigh := true } })

/-- TEMP_TRIP: at or above 120 degC for 10 ms; C4, with RAIL_EN held low (20 R449). -/
def tempTrip (t : Int) (s : State) : State :=
  let s := { s with power := { s.power with mainTemp := t } }
  if t < 1200 then s
  else
    let s := c4Fault 2 OC_TEMP_TRIP [i32 t] s
    { s with power := { s.power with railEn := false, thermalAt := some s.mono } }

/-- RAIL_EN_HOLD_EXPIRY: 60 s after a thermal trip the warm reset proceeds (20 R449). -/
def railEnHoldExpiry (s : State) : State :=
  match s.power.thermalAt with
  | some t => warmReset (elapseTo (t + 60000000000) s)
  | none => s

/-- PANEL_TEMP_MEASURE: both temperatures of TEMP_STATUS, every 1 s; that of the main die is 0 until it is released, at step 3 of Table 2.4
(19 R424, 20 R450). -/
def tempMeasure (main field : Int) (s : State) : State :=
  let main := if s.power.railEn then main else 0
  panelMeasure field { s with power := { s.power with mainTemp := main, tempHigh := s.power.tempHigh && decide (1100 ≤ main) } }

/-- ETH_LINK_CHANGE: an Ethernet port (0 to 3) or MGMT (4) goes up or down (19 R418). -/
def ethLinkChange (port : Nat) (up : Bool) (s : State) : State :=
  let m : BitVec 5 := 1#5 <<< port
  { s with panel := { s.panel with links := if up then s.panel.links ||| m else s.panel.links &&& ~~~m } }

/-- PWR_STATUS (19 Table 19.7). -/
def pwrStatus (s : State) : U32 :=
  bitAt s.power.armed 31 ||| bitAt (decide (s.power.vin < cadNum s 0x0932 0)) 30 ||| bitAt s.power.lastGasp 29 |||
    bitAt s.power.returnAt.isSome 28 ||| fieldAt s.power.lgStep 0

end Sys2Proof.Machine
end

