-- ==== Sys2Proof/Machine/Takeover.lean ====
section
/-! DEFINITION. What a standby does with the active's stream, and takeover (15 R346, R347, R351). -/

namespace Sys2Proof.Machine

/-! ### The standby's stream (15 R345, R346) -/

/-- Take a stream item off the list. -/
def dropStream (item : Nat) (s : State) : State :=
  modTwin (fun t => { t with stream := t.stream.filter (fun e => e.1 != item), entries := tabDel t.entries item, amends := tabDel t.amends item }) s

/-- The next entry committed takes this JSN; 0 leaves the count as it stands. -/
def nextJsn (jsn : Nat) (s : State) : State := if jsn = 0 then s else { s with jrn := { s.jrn with lastJsn := jsn - 1 } }

/-- A device-made entry of the stream is committed and applied (15 R346). One that the bulk copy already holds is only journalled
(15 R352). -/
def streamEntry (item jsn : Nat) (s : State) : State :=
  let e := tabGet s.twin.entries item {}
  let am := tabFind s.twin.amends item
  let s := appendEntry e (nextJsn jsn (dropStream item s))
  let j := s.jrn.lastJsn
  let held : Bool := match e.parcel with
    | some i => decide (j ≤ imageJsn s i)
    | none => false
  if held then s else applyEntry { e with jsn := j } am s

/-- The staged frames up to an ASN take tags; committed tags pass on through their engines where all tags are in use (01 R20, 04 R85). -/
def unstageTo (asn : Nat) (s : State) : State :=
  forEach ((s.trav.staged.filter (fun t => decide (t.asn ≤ asn))).map (·.asn)) (fun _ s =>
    stagedAdmit (if tagFree s then s else forEach (s.trav.tags.map (·.asn)) retireTag s)) s

/-- A shadowed frame of the stream is committed: the tags before it in its domain have ended, so its stages go on to READY, and it takes the
JSN that COMMIT gives (15 R346). A tag that this unit has ended by itself leaves the journal as it stands, for the comparison to find. -/
def streamTag (item asn jsn : Nat) (s : State) : State :=
  let s := unstageTo asn s
  let s := forEach ((s.trav.tags.filter (fun t => decide (t.asn ≤ asn))).map (·.asn)) driveTag s
  let s := nextJsn jsn (dropStream item s)
  match tagOf s asn with
  | none => if jsn = 0 then s else { s with jrn := { s.jrn with lastJsn := jsn } }
  | some t => match t.parcel with
    | none => if jsn = 0 then s else { s with jrn := { s.jrn with lastJsn := jsn } }
    | some i =>
      if t.state ≠ .ready then (if jsn = 0 then s else { s with jrn := { s.jrn with lastJsn := jsn } })
      else if jsn ≠ 0 ∧ jsn ≤ imageJsn s i then dropTag asn (appendEntry (readingEntry { t with grains := cadRows s 0x0404 } i) s)
      else commitTag t i s

/-- One element of COMMIT: a commit with its JSN, or an end with its outcome (15 Table 15.2, R346). -/
def streamCommit (c : Nat × Nat × U16) (s : State) : State := match s.twin.stream.find? (fun e => e.1 == c.1) with
  | none => s
  | some (item, .entry _) => if c.2.1 = 0 then dropStream item s else streamEntry item c.2.1 s
  | some (item, .shadow asn) =>
    if c.2.1 ≠ 0 then streamTag item asn c.2.1 s
    else
      let s := dropStream item (unstageTo asn s)
      match tagOf s asn with
      | some t => endTag c.2.2 t s
      | none => s

/-- At takeover the items that COMMIT never covered are committed in stream order, the entries as received (15 Table 15.5 step 3). -/
def streamRest (s : State) : State := forEach s.twin.stream (fun e s => match e.2 with
  | .entry _ => streamEntry e.1 0 s
  | .shadow asn => streamTag e.1 asn 0 s) s

/-- A frame shadowed by the active takes the ASN, times, time quality and link state of the SHADOW body, and a tag or a place in burst staging;
a joiner keeps it in staging until the bulk copy is complete (15 R346, R352 step 4, 01 R20). -/
def shadowAdmit (b : BlShadow) (s : State) : State :=
  let t : Tag := { asn := b.asn, arrival := b.arrival, admitAt := b.admitAt, tq := b.tq, profiles := profilesAt s b.admitAt, arr := b.arr }
  let s := modTrav (fun v => { v with nextAsn := b.asn + 1 }) s
  if shadowReady s ∧ tagFree s ∧ s.trav.staged = [] then shadowTake t s else stageTag t s

/-! ### Takeover (15 R347, R351) -/

/-- The first boundary at or after a device time. -/
def boundaryFrom (s : State) (t : Nat) : Nat := (t + epochLen s - 1) / epochLen s * epochLen s

/-- Only a standby that is resynchronised, or detached after having been so, takes over (15 R347). -/
def mayTakeOver (s : State) : Bool := s.twin.role == 2 && s.twin.takeover.isNone && serving s

/-- A takeover is triggered at this unit: steps 1 to 3 of Table 15.5. TWIN_ROLE_PEER of a lost peer, or of one that reported a C4 fault, is
ignored (15 R347, R351, log 30). -/
def takeoverTrigger (cause : Nat) (s : State) : State :=
  if !mayTakeOver s then s
  else
    let d := devTime s
    let s := record 11 OC_TWIN_TAKEOVER [u32 cause] s
    let s := modTwin (fun t => { t with takeover := some { trigger := d, instant := boundaryFrom s (d + 50000000), cause := cause },
                                        roleOut := true, arb := .waiting s.mono }) s
    streamRest s

/-- Airtime of the epoch that the copied buckets did not reach, charged to the current bucket of each sub-band (10 R246). -/
def chargeTakeover (s : State) : State :=
  let us := epochLen s / 1000
  let bands := List.range (cadRows s 0x0512).length
  forEach (radioEnabled s) (fun n s => forEach bands (fun b s =>
    let add := min us (bandBudget s b - bandUsed s n b)
    modRadio n (fun p => { p with buckets := tabMod p.buckets b [] (fun t => tabMod t (curSecond s) 0 (· + add)) }) s) s) s

/-- Epochs that no unit has sealed get their boundary work, up to the one that ends at E (15 Table 15.5 step 6, 12 R283). -/
def unsealedWork (e : Nat) (s : State) : State :=
  let last := ((e / epochLen s : Nat) : Int) - 1 + s.epoch.offset
  let first : Int := match s.jrn.sealed with
    | some (n, _, _) => max (n + 1) (last - 1)
    | none => last
  let l : List Int := (if first < last then [first] else []) ++ (if (s.jrn.sealed.map (·.1)).getD (last - 1) < last then [last] else [])
  { s with epoch := { s.epoch with current := max s.epoch.current (last + 1),
                                   work := s.epoch.work ++ l.map (fun n => { epoch := n, step := 2, boundary := epochEnd s n }) } }

/-- This unit becomes active at E: it admits, the unsealed epochs are closed, its ports come up (those named at once, others within
START_PORT_TIMEOUT_MS), and OC_TWIN_TAKEOVER is reported with E and the former UNIT (15 Table 15.5 steps 5 to 9). -/
def becomeActive (cause e : Nat) (up : List Nat) (s : State) : State :=
  let former := s.twin.peerUnit
  let open_ := s.twin.rechecks.filter (fun r => !(cause == 3 && r.peer == some true && r.own == some false))
  let rebuild := s.twin.rechecks.filter (fun r => cause == 3 && r.peer == some true && r.own == some false)
  let s := modTwin (fun t => { t with role := 1, roleOut := true, arb := .none, cause := cause, takeover := none, takeovers := t.takeovers + 1,
                                      detached := true, resynced := false, stream := [], entries := [], amends := [], holdAt := none, rechecks := [],
                                      deltaPages := [], item := 0, link := { t.link with paired := false, unacked := [] } }) s
  let s := unsealedWork e s
  let s := if s.billing.tqDue then commitTq s else s
  let s := commitDue s
  let s := pendingClear (chargeTakeover s)
  let s := forEach (plcEnabled s) (fun n s => modPlc n (fun p => { p with up := false, routes := [] }) s) s
  let s := forEach (radioEnabled s) (fun n s => modRadio n (fun p => { p with up := false }) s) s
  let s := actTakeover e (portsUp up s)
  let s := campaignsResume (hxListen (resweep s))
  let s := forEach open_ (fun r s => addNote OC_TWIN_UNRESOLVED [r.epoch] s) s
  let s := forEach rebuild (fun r s => match buildSheet true r.epoch s with
    | some (x, s) => holdSheet x s
    | none => s) s
  addNote OC_TWIN_TAKEOVER [(cause : Int), (e : Int), (former : Int)] s

/-- A planned takeover: this active unit yields at the first boundary at least `wait` ns away (15 R350, R353, 13 R309). -/
def yieldPlan (cause wait : Nat) (s : State) : State :=
  let d := devTime s
  record 11 OC_TWIN_TAKEOVER [u32 cause]
    (modTwin (fun t => { t with takeover := some { trigger := d, instant := boundaryFrom s (d + wait), cause := cause, yielding := true } }) s)

/-- The former active as a joining standby that has yet to send the HELLO of its rejoin (15 R339, R351). -/
def yielded (s : State) : State :=
  modTwin (fun t => { t with role := 3, roleOut := false, takeover := none, alive := false, toggling := false, yielded := true,
                             resynced := false, caughtUp := false, bulk := 0, resyncPct := 0, rejoinAt := some (s.mono + 100000000),
                             link := { t.link with paired := false, unacked := [] } }) s

/-- TAKEOVER_INSTANT: E comes (15 R351). The yielding active stops, drains, closes its epochs and sends YIELD; in an update it then activates
(13 R309). The standby whose peer is lost serves from E. `load`, `lmsFail` and `bad` are those of the boundary that E is. -/
def takeoverInstant (load lmsFail : Nat) (bad : Bool) (up : List Nat) (s : State) : State := match s.twin.takeover with
  | none => s
  | some t =>
    let s := elapseDev t.instant s
    let s := if epochEnd s s.epoch.current ≤ t.instant then boundaryNow load lmsFail false s.epoch.current (epochEnd s s.epoch.current) s else s
    if t.yielding then
      if s.twin.role ≠ 1 then modTwin (fun t => { t with takeover := none }) s
      else
        let s := closeEpochs (drainTags (backPressureHold s))
        let s := modTwin (fun t => { t with roleOut := false }) s
        let s := blSend 0x41 0 (beBytes 8 t.instant ++ beBytes 1 t.cause) s
        if s.upd.activating then activateSlot13 bad (yielded s) else backPressureFree (yielded s)
    else if s.twin.roleOut ∧ s.twin.arb = .none then becomeActive t.cause t.instant up s
    else s

end Sys2Proof.Machine
end

