-- ==== Sys2Proof/Machine/Twin.lean ====
section
/-! DEFINITION. The Baseline link's frames and timers, the side-band, rechecks, resynchronisation and TWIN_CMD (15 R338 to R353). -/

namespace Sys2Proof.Machine

/-! ### Link state -/

/-- TWIN_STATUS (15 Table 15.7). -/
def twinStatus (s : State) : U32 :=
  let t := s.twin
  bitAt t.link.paired 31 ||| bitAt t.peerAlive 30 ||| bitAt t.peerRole 29 ||| bitAt (t.detached || t.detachOrder) 28 |||
    bitAt (!t.rechecks.isEmpty) 27 ||| bitAt t.suspended 26 ||| fieldAt t.link.lanes.toNat 24 ||| fieldAt t.cause 16 ||| fieldAt t.resyncPct 0

/-- Mirroring stops: DETACHED, recorded (15 R346). -/
def detach (s : State) : State := record 11 OC_TWIN_DETACHED [] (modTwin (fun t => { t with detached := true, holdAt := none }) s)

/-- What a joiner had buffered of the stream is dropped: the resynchronisation begins with a new bulk copy (15 R352). -/
def streamClear (s : State) : State :=
  modTwin (fun t => { t with stream := [], entries := [], amends := [] }) (modTrav (fun v => { v with staged := [], stagedBytes := 0 }) s)

/-- The session ends: nothing is outstanding; an active that was shadowing is detached, as is its standby; a resynchronisation starts again
from its first step (15 R346, R347, R352). -/
def sessionLost (s : State) : State :=
  let was := shadowing s
  let s := modLink (fun k => { k with paired := false, unacked := [], helloSent := false }) s
  if was then detach s
  else if s.twin.role = 2 then modTwin (fun t => { t with detached := true }) s
  else if s.twin.role = 3 then streamClear (modTwin (fun t => { t with bulk := 0, resyncPct := 0, caughtUp := false, commits := [] }) s)
  else s

/-- The link counts as lost: recorded where the peer is alive, otherwise a takeover is triggered (15 R344, R347). -/
def linkLost (s : State) : State :=
  let s := sessionLost s
  if s.twin.peerAlive then record 11 OC_TWIN_LINK_DOWN [] s else takeoverTrigger 1 s

/-- A frame of a reserved type, or a malformed one, closes the session (15 R344, Table 15.9). -/
def blReject (s : State) : State := sessionLost (blSend 0x7F 0 (beBytes 2 OC_TWIN_LINK_FORMAT.toNat) s)

/-- Is a frame sealed under the session's key, with its SESSION, where unit a's choice is known (15 R343, log 129)? -/
def blAuthentic (h : BlFrame) (k : LinkSt) : Bool :=
  k.paired && h.key == k.keyRx && (if k.session = 0 then h.session != 0 else h.session == k.session)

/-- A frame of the session with `n` bytes of body: authenticated and in order, its ACK_SEQ taken, and then, if it is well formed, its own effect
`work` (15 R343, R344). A frame held already, or beyond a gap, is discarded. -/
def blTake (ok : Bool) (n : Nat) (h : BlFrame) (work : State → State) (s : State) : State :=
  let s := elapse h.dt s
  let k := s.twin.link
  if !k.lanes.getLsbD h.lane then s
  else if !blAuthentic h k then modLink (fun k => { k with authFail := k.authFail + 1 }) s
  else
    let left := k.unacked.filter (fun u => decide (h.ackSeq < u.seq))
    let s := modLink (fun k => { k with framesRx := k.framesRx + 1, lastRx := s.mono, unacked := left, ackSeq := max k.ackSeq h.ackSeq,
                                        lastAck := if k.ackSeq < h.ackSeq then s.mono else k.lastAck, session := h.session,
                                        rxSeq := if h.seq = k.rxSeq + 1 then h.seq else k.rxSeq }) s
    let s := if left.any (fun u => u.item != 0) then s else modTwin (fun t => { t with holdAt := none }) s
    if h.seq ≠ k.rxSeq + 1 then s else if ok && h.framed n then work s else blReject s

/-- A frame of one type; one of another type is no command of its row. -/
def blFrame (type : Nat) (ok : Bool) (h : BlFrame) (work : State → State) (s : State) : State :=
  if h.type = type then blTake ok h.body.length h work s else s

/-- The effect of a frame that only a standby, resynchronised or joining, takes. -/
def atStandby (work : State → State) (s : State) : State := if standby s then work s else s

/-- The effect of a frame that only an active takes. -/
def atActive (work : State → State) (s : State) : State := if s.twin.role = 1 then work s else s

/-! ### Resynchronisation (15 R352) -/

/-- A unit begins to join: HELLO with ROLE 3. -/
def rejoin (s : State) : State :=
  let s := modTwin (fun t => { t with role := 3, roleOut := false, resynced := false, caughtUp := false, detached := false, bulk := 0,
                                      resyncPct := 0, commits := [], rechecks := [] }) s
  helloSend (streamClear s)

/-- Lists of at most `n` elements. -/
def groupsOf {α : Type} (n : Nat) : Nat → List α → List (List α)
  | 0, _ => []
  | _ + 1, [] => []
  | f + 1, l => l.take n :: groupsOf n f (l.drop n)

/-- The active sends a joining standby its pair slots, the records of every parcel and the sections, and shadows from the first BULK onward
(15 R352 steps 2 to 4). Its journal pages follow from there. The hash is over sections that 08 R202 gives no layout, a free value (log 129). -/
def bulkSend (s : State) : State :=
  let keys := s.keys.vault.filter (fun e => slotPair e.1)
  let s := blSend 0x32 0 (keys.flatMap (fun e => beBytes 1 e.1 ++ beBytes 1 e.2.role ++ beBytes 4 e.2.version ++ beBytes 32 e.2.key)) s
  let s := modTwin (fun t => { t with resynced := false, detached := false, sentJsn := s.jrn.lastJsn, holdAt := none }) s
  let s := forEach (groupsOf 15 s.store.parcels.length s.store.parcels) (fun g s =>
    blSend 0x30 0 (g.flatMap (fun e => imageRecord s e.1 (lastApplied s e.1 e.2) e.2)) s) s
  let (x, s) := draw s
  blSend 0x31 0 (beBytes 8 s.jrn.lastJsn ++ beBytes 4 s.store.parcels.length ++ beBytes 32 (x % 2 ^ 256)) s

/-- The active of a pair has a joining standby at the link (15 R352 step 1, 13 R309). -/
def joinerPaired (h : BlHello) (s : State) : State :=
  let s := match s.upd.twinWait with
    | some _ => if h.release = (stagingSlot s).release then s else scheduleEnd OC_UPD_PARTNER s
    | none => s
  if h.serial ≠ s.cad.serial ∨ h.amendSeq ≠ s.cad.lastSeq then blSendState 0 (.cadastre ((runningImage s).getD {}) s.cad.log) s else bulkSend s

/-- BL_HELLO (15 R343): sealed under k_hello of the peer's twin link key; units whose keys differ never pair. The exchange gives the keys of a new
session, numbered by the unit of the lower uid. -/
def blHello (f : BlFrame) (s : State) : State :=
  if f.type ≠ 1 then s else
  let s := elapse f.dt s
  let tlk := (vaultKey s 27).map (·.key)
  if !s.twin.link.lanes.getLsbD f.lane ∨ !twinRun s then s
  else if tlk.map blHelloKey ≠ some f.key then
    let due := match s.twin.link.authRecAt with
      | some t => decide (t + 60000000000 ≤ s.mono)
      | none => true
    let s := modLink (fun k => { k with authFail := k.authFail + 1 }) s
    if due then record 11 OC_TWIN_LINK_AUTH [] (modLink (fun k => { k with authRecAt := some s.mono }) s) else s
  else match helloRead f.body with
  | none => blReject s
  | some h =>
  if !f.framed f.body.length then blReject s
  else if h.lifecycle ≠ lifecycleCode s then
    recordRefusal 11 OC_LIFECYCLE []
      (sessionLost (blSend 0x7F 0 (beBytes 2 OC_LIFECYCLE.toNat) (modLink (fun k => { k with framesRx := k.framesRx + 1 }) s)))
  else
    let rejoin := fun (t : TwinSt) =>
      { t with role := 3, resynced := false, caughtUp := false, detached := false, bulk := 0, resyncPct := 0, commits := [] }
    let s := if s.twin.role = 2 then streamClear (modTwin rejoin s) else s
    let s := if s.twin.link.helloSent then s else helloSend s
    let a : Bool := decide (s.keys.uid < h.uid)
    let (own, s) := drawNonzero 32 s
    let ks := if a then sessionKeys s.twin.link.nonce h.nonce (tlk.getD 0) else sessionKeys h.nonce s.twin.link.nonce (tlk.getD 0)
    let s := modLink (fun k => { k with paired := true, session := if a then own else 0, keyTx := if a then ks.1 else ks.2,
                                        keyRx := if a then ks.2 else ks.1, txSeq := 0, rxSeq := 0, ackSeq := 0, unacked := [], lastRx := s.mono,
                                        lastAck := s.mono, framesRx := k.framesRx + 1, helloSent := false }) s
    let s := modTwin (fun t => { t with peer := some (h.uid, h.sp2, h.lastSealed, h.role), peerUnit := h.unit, resynced := false }) s
    let s := strapNote (modUpd (fun u => { u with peerRelease := some h.release }) s)
    if roleOpen s then roleResolve s
    else if s.twin.role = 1 ∧ h.role = 3 then joinerPaired h s
    else s

/-- BL_HEARTBEAT (15 R344). -/
def blHeartbeat (h : BlFrame) (s : State) : State := blFrame 0x02 h.body.isEmpty h id s

/-! ### The stream (15 R345, R346) -/

/-- Is a SHADOW body as long as its FRAME_LENGTH says, 1 to 2,048 (15 Table 15.3)? -/
def shadowFramed (b : List U8) : Bool := b.length == 64 + beAt b 56 2 && decide (1 ≤ beAt b 56 2 ∧ beAt b 56 2 ≤ 2048)

/-- A SHADOW body read (15 Table 15.3), with what the external standards read in its FRAME. -/
def shadowRead (b : List U8) (a : Arrival) : BlShadow :=
  { item := beAt b 0 8, asn := beAt b 8 8, arrival := beAt b 16 8, admitAt := beAt b 24 8, tq := beAt b 32 1,
    arr := { a with path := beAt b 33 1, port := beAt b 34 1, cell := beAt b 36 2, shortAddr := beAt b 38 2,
                    linkState := ((b.drop 40).take 16).map (·.toNat), length := beAt b 56 2, frame := b.drop 64 } }

/-- BL_SHADOW: a shadowed frame (15 R346). A standby whose burst staging is at its capacity cannot hold the stream, and its session ends
(01 R20, log 103). -/
def blShadow (h : BlFrame) (a : Arrival) (s : State) : State := blFrame 0x10 (shadowFramed h.body) h (atStandby (fun s =>
  let b := shadowRead h.body a
  if 8250000 ≤ s.trav.staged.length ∨ 2147483648 < s.trav.stagedBytes + units64 b.arr.length + 64 then sessionLost s
  else shadowAdmit b (modTwin (fun t => { t with item := b.item, stream := t.stream ++ [(b.item, .shadow b.asn)] }) s))) s

/-- BL_ENTRY: a device-made entry, held until COMMIT covers it (15 R346). Its body is the ITEM and the bytes of the entry `e`; an AMEND entry comes
with its amendment. -/
def blEntry (h : BlFrame) (e : JEntry) (am : Option Amendment) (s : State) : State :=
  let n := beAt h.body 0 8
  blFrame 0x11 (h.body == beBytes 8 n ++ entryBuilt e) h (atStandby (modTwin (fun t =>
    { t with item := n, stream := t.stream ++ [(n, .entry n)], entries := tabPut t.entries n e,
             amends := match am with
               | some a => tabPut t.amends n a
               | none => t.amends }))) s

/-- The elements of a body of `n` elements of `w` bytes each. -/
def elementsOf (w n : Nat) (b : List U8) : List (List U8) := (List.range n).map (fun k => (b.drop (w * k)).take w)

/-- A COMMIT body read: ITEM, JSN and OUTCOME of each element (15 Table 15.2). -/
def commitRead (b : List U8) : List (Nat × Nat × U16) :=
  (elementsOf 24 (b.length / 24) b).map (fun x => (beAt x 0 8, beAt x 8 8, BitVec.ofNat 16 (beAt x 16 2)))

/-- BL_COMMIT: items committed with the JSNs given, or ended with the outcomes given (15 R346). -/
def blCommit (h : BlFrame) (s : State) : State := blFrame 0x12 (h.body.length % 24 == 0 && decide (24 ≤ h.body.length ∧ h.body.length ≤ 12288)) h
    (atStandby (fun s =>
  let l := commitRead h.body
  if s.twin.role = 3 && !s.twin.caughtUp then modTwin (fun t => { t with commits := t.commits ++ l }) s
  else forEach l streamCommit s)) s

/-- Write the received pages to the reserve in place of this unit's own (15 R348). -/
def deltaWrite (s : State) : State :=
  let s := forEach (s.twin.deltaPages.map (·.2)) ringWrite s
  let s := { s with jrn := { s.jrn with pages := s.jrn.pages.filter (fun j => decide (s.jrn.durable < j)) } }
  modTwin (fun t => { t with deltaPages := [] }) s

/-- The start of this unit's LMS_RESERVE entry within the pages received so far, where one was asked for (15 R346). -/
def reserveIn (last : Nat) (s : State) : Option Nat := match s.twin.reserveAsked with
  | none => none
  | some a => if s.jrn.entries.any (fun e => decide (e.jsn ≤ last) && (match e.body with
      | .lmsReserve ns => ns.getD 0 (-1) == (unitOf s : Int) && ns.getD 1 (-1) == (a : Int)
      | _ => false)) then some a else none

/-- The last JSN of a journal page: the highest of its entries', walked by their LENGTH (04 Table 4.4). -/
def pageLast : Nat → List U8 → Nat
  | 0, _ => 0
  | f + 1, b => if leAt b 4 4 < 64 then leAt b 8 8 else max (leAt b 8 8) (pageLast f (b.drop (leAt b 4 4)))

/-- BL_DELTA_PAGE: a journal page of the active. A page with this unit's own LMS_RESERVE is written at once, and the
reservation completed (15 R346, R348). `lmsFail` says which QSPI writes fail. -/
def blDeltaPage (h : BlFrame) (lmsFail : Nat) (s : State) : State := blFrame 0x13 (h.body.length == 65552) h (atStandby (fun s =>
  let epoch := beSigned h.body 0 8
  let last := pageLast 1024 (h.body.drop 16)
  let s := modTwin (fun t => { t with deltaPages := t.deltaPages ++ [(epoch, last)] }) s
  match reserveIn last s with
  | some a => lmsComplete lmsFail a (a + 4096) (modTwin (fun t => { t with reserveAsked := none }) (deltaWrite s))
  | none => s)) s

/-! ### Comparison (15 R348 to R350) -/

/-- DIGEST_MASK: which of the four digests differ. -/
def digestMask (a b : List Nat) : Nat :=
  (List.range 4).foldl (fun m k => if a.getD k 0 = b.getD k 0 then m else m + 2 ^ k) 0

/-- A mismatch: recorded, and a recheck of the epoch begins or is queued (15 R349). -/
def diverged (e : Int) (mask : Nat) (s : State) : State :=
  let s := modTwin (fun t => { t with divergences := t.divergences + 1, rechecks := t.rechecks ++ [{ epoch := e, since := s.mono }] }) s
  record 11 OC_TWIN_DIVERGED (epochWords e ++ [u32 mask]) s

/-- An EPOCH_END body read (15 Table 15.4). -/
def epochEndRead (b : List U8) : EpochEnd :=
  { epoch := beSigned b 0 8, firstJsn := beAt b 8 8, lastJsn := beAt b 16 8, pages := beAt b 24 4,
    digests := [beAt b 32 32, beAt b 64 32, beAt b 96 32, beAt b 128 32] }

/-- BL_EPOCH_END: the standby compares the digests, writes the pages, and answers; a caught-up joiner whose digests all match, or whose
comparison is suspended, is resynchronised (15 R348, R352 step 6, 13 R309, log 31). -/
def blEpochEnd (h : BlFrame) (s : State) : State := blFrame 0x14 (h.body.length == 160) h (atStandby (fun s =>
  let e := epochEndRead h.body
  let (own, s) := takeDigests e.epoch s
  let s := modTwin (fun t => { t with suspended := mixed s }) (deltaWrite s)
  let mask := if mixed s then 0 else digestMask own e.digests
  let s := if mixed s then s else modTwin (fun t => { t with compared := e.epoch, epochsCompared := t.epochsCompared + 1 }) s
  let s := if s.twin.role = 2 ∧ mask ≠ 0 then diverged e.epoch mask s
    else if s.twin.role = 3 ∧ s.twin.caughtUp ∧ mask = 0 then
      modTwin (fun t => { t with role := 2, resynced := true, resyncs := t.resyncs + 1, resyncPct := 100 }) s
    else s
  let answer := if s.twin.role = 3 ∧ mask = 0 ∧ !s.twin.caughtUp then 15 else mask
  blSend 0x15 0 (beInt 8 e.epoch ++ beBytes 1 answer ++ zeros 7) s)) s

/-- BL_EPOCH_RESULT: step 7 of Table 1.8 is done; a mismatch of a resynchronised standby starts a recheck, a match of a joining one makes the
pair whole, and a waiting update then yields (15 R348, R349, 13 R309). -/
def blEpochResult (h : BlFrame) (s : State) : State := blFrame 0x15 (h.body.length == 16) h (atActive (fun s =>
  let e := beSigned h.body 0 8
  let mask := beAt h.body 8 1
  let s := modTwin (fun t => { t with suspended := mixed s }) s
  let s := if mixed s then s else modTwin (fun t => { t with compared := e, epochsCompared := t.epochsCompared + 1 }) s
  let s := if s.twin.resynced then (if mask = 0 then s else diverged e mask s)
    else if mask = 0 then
      let s := modTwin (fun t => { t with resynced := true }) s
      if s.upd.twinWait.isSome ∧ s.upd.peerRelease = some (stagingSlot s).release then
        yieldPlan 4 (epochLen s) (modUpd (fun u => { u with twinWait := none, activating := true }) s)
      else s
    else s
  boundaryAdvance (if s.epoch.work.any (fun w => w.epoch == e && w.step == 6) then workStep e 7 s else s))) s

/-- The first recheck leaves the list. -/
def dropRecheck (s : State) : State := modTwin (fun t => { t with rechecks := t.rechecks.drop 1 }) s

/-- Both verdicts of the first recheck are in (15 R350). -/
def recheckJudge (s : State) : State := match s.twin.rechecks with
  | [] => s
  | r :: _ => match r.own, r.peer with
    | some own, some peer =>
      if s.twin.role = 1 then
        (if own && !peer then yieldPlan 3 1 (dropRecheck s)
         else
           let s := modTwin (fun t => { t with resynced := false }) (dropRecheck s)
           if own = peer then addNote OC_TWIN_UNRESOLVED [r.epoch] s else s)
      else if peer && !own then s
      else rejoin (dropRecheck s)
    | _, _ => s

/-- This unit's verdict, sent in RECHECK (15 R349). -/
def recheckVerdict (fault : Bool) (reason : Nat) (digests : List Nat) (s : State) : State := match s.twin.rechecks with
  | [] => s
  | r :: l =>
    if r.own.isSome then s
    else
      let s := modTwin (fun t => { t with rechecks := { r with own := some fault } :: l }) s
      recheckJudge (blSend 0x40 0 (beInt 8 r.epoch ++ beBytes 1 fault.toNat ++ beBytes 1 reason ++ digests.flatMap (beBytes 32)) s)

/-- RECHECK_DONE: `scrub` where the scrub found an uncorrectable error or a poisoned line, `replayed` the digests of the scratch replay
(15 R349). -/
def recheckDone (scrub : Bool) (replayed : List Nat) (s : State) : State :=
  let live := match s.twin.rechecks with
    | r :: _ => ((s.twin.digests.find? (fun d => d.1 == r.epoch)).map (·.2)).getD []
    | [] => []
  let differs := replayed != live
  recheckVerdict (scrub || differs) ((if scrub then 1 else 0) + (if differs then 2 else 0)) replayed s

/-- RECHECK_TIMEOUT: a recheck has not ended within 2 x L of the mismatch (15 R349). -/
def recheckTimeout (s : State) : State := match s.twin.rechecks with
  | [] => s
  | r :: _ => if r.own.isSome then s else recheckVerdict true 4 [0, 0, 0, 0] (elapseTo (r.since + 2 * epochLen s) s)

/-- BL_RECHECK: the peer's verdict of an epoch (15 R350). -/
def blRecheck (h : BlFrame) (s : State) : State := blFrame 0x40 (h.body.length == 138) h (fun s =>
  let e := beSigned h.body 0 8
  let fault : Bool := beAt h.body 8 1 == 1
  recheckJudge (modTwin (fun t => { t with rechecks := t.rechecks.map (fun r => if r.epoch = e then { r with peer := some fault } else r) }) s)) s

/-! ### Copies (15 R346, R352) -/

/-- The standby installs one STATE_COPY (15 Table 15.2). -/
def stateCopy (c : StateCopy) (s : State) : State := match c with
  | .plc n p => modPlc n (fun q => { q with joined := p.joined, freed := p.freed, neighbours := p.neighbours, keyIndex := p.keyIndex, rekey := p.rekey }) s
  | .radio n p => modRadio n (fun q => { q with eps := p.eps, freed := p.freed }) s
  | .buckets n b => modRadio n (fun q => { q with buckets := b }) s
  | .acks l => modHx (fun h => { h with acks := l }) s
  | .campaign c => modHx (fun h => { h with copies := tabPut h.copies c.number c, campImages := tabPut h.campImages c.number true }) s
  | .manifestHead id m =>
    let (c, s) := beginCore id m s
    recordRefusal 10 c [u32 id] s
  | .manifestBytes d => (dataCore (stagingNo s) d s).2.2
  | .cadastre img log => match cadCheck img s with
    | .ok _ => warmReset (modCad (fun c => { c with log := log, logBytes := (log.map amendBytes).sum,
                                                    highA := max (max c.highA c.highB) (imgSerial img), highB := max (max c.highA c.highB) (imgSerial img) })
        (regionWrite 1 img (regionWrite 0 img s)))
    | .error c => sessionLost (record 0 c [] s)

/-- KIND of a STATE_COPY (15 Table 15.2); 15 R352 gives the cadastre copy none, and it is 0 (log 129). -/
def copyKind : StateCopy → Nat
  | .plc .. => 1
  | .radio .. => 2
  | .buckets .. => 3
  | .acks _ => 4
  | .campaign _ => 5
  | .manifestHead .. => 6
  | .manifestBytes _ => 6
  | .cadastre .. => 0

/-- BL_STATE_COPY (15 R346, R352): KIND, 7 reserved bytes, and a payload `c` that the specification gives no layout (log 129). -/
def blStateCopy (h : BlFrame) (c : StateCopy) (s : State) : State := blFrame 0x20 (beAt h.body 0 1 == copyKind c) h (atStandby (stateCopy c)) s

/-- The joiner discards its former journal and what stands for it, at the first BULK (15 R352 step 5). -/
def joinClear (s : State) : State :=
  { s with jrn := { lastJsn := s.jrn.lastJsn, firstAsn := s.jrn.firstAsn, durable := s.jrn.lastJsn, losses := s.jrn.losses },
           trav := { s.trav with tags := [], items := [] },
           store := { s.store with parcels := [], image := [], heads := [], misses := [], buckets := [], stash := [] },
           hx := { s.hx with ranges := [], items := [], sheets := [] }, billing := { s.billing with bounds := [], sweeps := [], marks := [] } }

/-- The resynchronisation stops: a parcel `i` of the active has no place in this unit's capacity (03 R74). -/
def capacityStop (i : Nat) (s : State) : State :=
  sessionLost (blSend 0x7F 0 (beBytes 2 OC_PARCEL_DRAM_SHRUNK.toNat) (record 16 OC_PARCEL_DRAM_SHRUNK [u32 i] s))

/-- BL_BULK: image records of 8,192 bytes, each an index, the parcel and its IMAGE_JSN (15 R352 step 3, 08 R202). A record beyond this unit's capacity stops the
resynchronisation (03 R74). -/
def blBulk (h : BlFrame) (records : List (Nat × Parcel × Nat)) (s : State) : State :=
  if h.type ≠ 0x30 then s else blTake (decide (1 ≤ records.length ∧ records.length ≤ 15)) (8192 * records.length) h (fun s =>
  if s.twin.role ≠ 3 ∨ s.twin.caughtUp then s
  else
    let cap := capacityOf s.ecc.dramGib
    match records.find? (fun r => decide (cap ≤ r.1)) with
    | some r => capacityStop r.1 s
    | none =>
      let s := if s.twin.bulk = 0 then joinClear s else s
      let s := forEach records (fun r s => { s with store := { s.store with parcels := tabPut s.store.parcels r.1 r.2.1,
                                                                            image := tabPut s.store.image r.1 r.2 } }) s
      let n := s.twin.bulk + records.length
      modTwin (fun t => { t with bulk := n, resyncPct := min 99 (100 * n / max 1 cap) }) s) s

/-- BL_BULK_DONE: the copy ends; the sections are installed, and the stream buffered meanwhile is applied above each target's watermark
(15 R352 steps 3, 4). A copy that is short, or whose hash differs, starts again. A free list that reaches past this unit's capacity is that
of an active of larger capacity, and stops the resynchronisation (03 R74). -/
def blBulkDone (h : BlFrame) (b : BulkEnd) (s : State) : State := blFrame 0x31 (h.body.length == 44) h (fun s =>
  let copyJsn := beAt h.body 0 8
  if s.twin.role ≠ 3 ∨ s.twin.caughtUp then s
  else if beAt h.body 12 32 ≠ b.hash ∨ beAt h.body 8 4 ≠ s.twin.bulk then rejoin (sessionLost s)
  else match b.free.find? (fun r => decide (capacityOf s.ecc.dramGib < r.2)) with
  | some r => capacityStop (max r.1 (capacityOf s.ecc.dramGib)) s
  | none =>
    let s := if s.twin.bulk = 0 then joinClear s else s
    let s := dirRebuild { s with store := { s.store with free := b.free, capacity := capacityOf s.ecc.dramGib },
                                 billing := { s.billing with cals := b.calendars }, steel := b.steel,
                                 hx := { s.hx with campaigns := b.campaigns },
                                 jrn := { s.jrn with lastJsn := copyJsn, durable := copyJsn, marks := b.marks } }
    let s := rewrapRestore s
    let commits := s.twin.commits
    let s := modTwin (fun t => { t with caughtUp := true, resyncPct := 100, commits := [], regs := regsNow s }) s
    forEach commits streamCommit (forEach (s.trav.staged.take 1024) (fun _ s => stagedAdmit s) s)) s

/-- A KEY_SYNC body read: slot, role, KEY_VERSION and key of each (15 Table 15.2). -/
def keySyncRead (b : List U8) : List (Nat × VaultKey) :=
  (elementsOf 38 (b.length / 38) b).map (fun x => (beAt x 0 1, { role := beAt x 1 1, version := beAt x 2 4, key := beAt x 6 32 }))

/-- BL_KEY_SYNC: a joining standby loads the pair slots of the vault, both PKEKs with their generations among them (15 R352 step 2, 03 R59). -/
def blKeySync (h : BlFrame) (s : State) : State := blFrame 0x32 (h.body.length % 38 == 0) h (atStandby (fun s =>
  let keys := keySyncRead h.body
  let s := forEach (keys.filter (fun k => slotPair k.1)) (fun k s => vaultPut k.1 k.2 s) s
  let gen (n : Nat) : Nat := ((keys.find? (fun k => k.1 == n)).map (fun k => kekGenOf k.2)).getD 0
  modKeys (fun v => { v with pkekGen := gen 0, pkekPrev := gen 1 }) s)) s

/-! ### Takeover frames (15 R347, R351) -/

/-- BL_YIELD: the new active begins admitting frames (15 Table 15.5 step 5). The yielding unit's TWIN_ROLE is low, and the 10 ms of arbitration
pass (15 R340). -/
def blYield (h : BlFrame) (load lmsFail : Nat) (up : List Nat) (s : State) : State := blFrame 0x41 (h.body.length == 9) h (fun s =>
  let boundary := beAt h.body 0 8
  let cause := beAt h.body 8 1
  if s.twin.role ≠ 2 ∨ !serving s then s
  else
    let s := modTwin (fun t => { t with peerRole := false, takeover := none }) s
    let s := elapse 10000000 (takeoverTrigger cause s)
    let s := if epochEnd s s.epoch.current ≤ boundary then boundaryNow load lmsFail false s.epoch.current (epochEnd s s.epoch.current) s else s
    becomeActive cause boundary up s) s

/-- BL_FAULT: the active reports a C4 code, which triggers a takeover (15 R347). -/
def blFault (h : BlFrame) (s : State) : State := blFrame 0x42 (h.body.length == 2) h (fun s =>
  if ocIsFault (BitVec.ofNat 16 (beAt h.body 0 2)) then takeoverTrigger 2 s else s) s

/-- BL_RESERVE_REQ: the active commits LMS_RESERVE for the standby's UNIT and closes the page (15 R346). The body is that of Table 14.10, a journal
entry's and so little-endian (00 R5). -/
def blReserveReq (h : BlFrame) (s : State) : State := blFrame 0x50 (h.body.length == 64) h (atActive (fun s =>
  let b := h.body
  closePage (commitMade none 0 (.lmsReserve [(beAt b 0 16 : Int), leAt b 16 8, leAt b 24 8, leAt b 32 1]) s))) s

/-- BL_CLOSE: the session ends (15 R343). -/
def blClose (h : BlFrame) (s : State) : State := blFrame 0x7F (h.body.length == 2) h sessionLost s

/-- BL_RESERVED_FRAME: a frame of a reserved type closes the session (15 R344). -/
def blReserved (h : BlFrame) (s : State) : State := if blTypes.contains h.type then s else blTake false 0 h id s

/-! ### Link timers and lanes (15 R342, R344) -/

/-- Frames sent again as they stand. -/
def resendAll (l : List BlSent) (s : State) : State := forEach l (fun u s => emit (.baseline u.lane u.bytes u.copy) s) s

/-- Send every unacknowledged frame again, from the first. -/
def resend (s : State) : State :=
  let k := s.twin.link
  if k.unacked.isEmpty then s
  else resendAll k.unacked
    (modLink (fun k => { k with framesTx := k.framesTx + u32 k.unacked.length, lastTx := s.mono, lastAck := s.mono }) s)

/-- BL_RESEND_TIMEOUT: ACK_SEQ has not advanced for 50 us while frames are outstanding (15 R344). -/
def blResendTimeout (s : State) : State :=
  if s.twin.link.unacked.isEmpty ∨ !s.twin.link.paired then s
  else resend (modLink (fun k => { k with resends := k.resends + 1 }) (elapseTo (s.twin.link.lastAck + 50000) s))

/-- BL_HEARTBEAT_TIMER: nothing sent for 100 us (15 R344). A unit that is not paired sends its HELLO again (log 32). -/
def blHeartbeatTimer (s : State) : State :=
  if s.twin.link.lanes = 0 ∨ !twinRun s then s
  else
    let s := elapseTo (s.twin.link.lastTx + 100000) s
    if s.twin.link.paired then blSend 0x02 0 [] s else helloSend s

/-- BL_LINK_TIMEOUT: no authenticated frame for LINK_TIMEOUT_MS (15 R344). -/
def blLinkTimeout (s : State) : State :=
  if s.twin.link.paired then linkLost (elapseTo (s.twin.link.lastRx + twinParam s 2 * 1000000) s) else s

/-- BL_LANE_LOCK_LOSS: a lane without block lock for 1 ms leaves use; its frames go to the other lane, and with none left the link is down
(15 R342). -/
def laneLost (lane : Nat) (s : State) : State :=
  if !s.twin.link.lanes.getLsbD lane then s
  else
    let s := elapse 1000000 s
    let lanes := s.twin.link.lanes &&& ~~~(1#2 <<< lane)
    let moved := (s.twin.link.unacked.filter (fun u => u.lane == lane)).map (fun u => { u with lane := 1 - lane })
    let s := modLink (fun k => { k with lanes := lanes,
                                        unacked := k.unacked.map (fun u => if u.lane = lane then { u with lane := 1 - lane } else u) }) s
    if lanes = 0 then (if s.twin.link.paired then linkLost s else s)
    else if moved.isEmpty then s
    else resendAll moved
      (modLink (fun k => { k with framesTx := k.framesTx + u32 moved.length, lastTx := s.mono }) s)

/-- BL_LANE_REJOIN: 100 ms of continuous lock (15 R342). -/
def laneRejoin (lane : Nat) (s : State) : State :=
  if s.twin.link.lanes.getLsbD lane ∨ 2 ≤ lane ∨ !twinRun s then s
  else modLink (fun k => { k with lanes := k.lanes ||| (1#2 <<< lane) }) (elapse 100000000 s)

/-- REFCLK_TRIP: every SerDes port goes down; with both lanes the link is lost (16 R373, 15 R342, R344). -/
def refclkTripLink (s : State) : State :=
  let s := refclkTrip s
  if s.twin.link.paired then linkLost s else s

/-- MIRROR_HOLD_TIMEOUT: a cover has not arrived within MIRROR_HOLD_MS (15 R346). -/
def mirrorHoldTimeout (s : State) : State := match s.twin.holdAt with
  | some t => if shadowing s then detach (elapseTo (t + twinParam s 3 * 1000000) s) else s
  | none => s

/-! ### Side-band and arbitration (15 R339, R340) -/

/-- TWIN_ALIVE_TOGGLE: every 500 us. A unit that has yielded sends the HELLO of its rejoin and toggles again (15 R339, R351). -/
def twinAliveToggle (s : State) : State :=
  let due := elapseTo (s.twin.toggledAt + 500000) s
  if aliveHeld s.glob.state then s
  else if s.twin.yielded then
    rejoin (modTwin (fun t => { t with yielded := false, rejoinAt := none, toggling := true, alive := !t.alive, toggledAt := due.mono }) due)
  else if s.twin.toggling then modTwin (fun t => { t with alive := !t.alive, toggledAt := due.mono }) due
  else s

/-- PEER_ALIVE_LOSS: no edge on TWIN_ALIVE_PEER for 5 ms. With frames still arriving, from a former peer after its YIELD as well, the loss is
recorded and triggers nothing (15 R339, R347). -/
def peerAliveLoss (s : State) : State :=
  if !s.twin.peerAlive then s
  else
    let s := modTwin (fun t => { t with peerAlive := false }) (elapse 5000000 s)
    let k := s.twin.link
    let s := if k.paired || (s.twin.role == 1 && k.lanes != 0 && decide (s.mono < k.lastRx + twinParam s 2 * 1000000)) then
        record 11 OC_TWIN_SIDEBAND [] s
      else takeoverTrigger 1 s
    if roleOpen s then roleResolve s else s

/-- PEER_ALIVE_RETURN: an edge after the peer was judged lost, with the level of TWIN_ROLE_PEER (15 R339, R341). -/
def peerAliveReturn (role : Bool) (dt : Nat) (s : State) : State :=
  let s := elapse dt s
  let s := modTwin (fun t => { t with peerAlive := true, peerEdge := s.mono, peerRole := role }) s
  if roleOpen s then roleResolve s else s

/-- ROLE_ARBITRATION_WAIT: 10 ms with TWIN_ROLE high have passed, and TWIN_ROLE_PEER stands at `role` (15 R340). -/
def arbitrationWait (role : Bool) (s : State) : State := match s.twin.arb with
  | .waiting t =>
    let s := modTwin (fun t => { t with peerRole := role }) (elapseTo (t + 10000000) s)
    let s := strapNote s
    let alike : Bool := (s.twin.peer.map (fun p => p.2.1)) == some (sp2 s)
    let (v, s) := draw s
    let conflict := peerActive s && !(s.twin.takeover.any (fun t => t.cause == 2))
    if conflict && (sp2 s == 1 || (alike && v % 2 == 1)) then
      let (w, s) := draw s
      modTwin (fun t => { t with roleOut := false, arb := .backoff (s.mono + 10000000 + w % 90000001) }) s
    else
      let s := modTwin (fun t => { t with arb := .none }) s
      if roleOpen s then serveActive s else s
  | _ => s

/-- ROLE_ARBITRATION_BACKOFF: the random back-off, or the 5 s of R341, are over (15 R340, R341). -/
def arbitrationBackoff (s : State) : State := match s.twin.arb with
  | .backoff t =>
    let s := modTwin (fun t => { t with arb := .none }) (elapseTo t s)
    if roleOpen s ∧ peerActive s then joinPeer s else arbitrate s
  | _ => s

/-- The trip of a source's monitor (16 R373). -/
def sourceTrip (k : ClockSource) (s : State) : State := match k with
  | .fio => fioTrip s
  | .xa => xaTrip s
  | .xb => xbTrip s
  | .refclk => refclkTripLink s

/-- A window of the monitor of a good source ends: the second in a row outside the band trips it, and so does one with no edge (16 R372). -/
def monitorWindow (k : ClockSource) (count : Nat) (s : State) : State :=
  let c := srcOf s k
  let band := (judging s k).2.1
  if band.1 ≤ count ∧ count ≤ band.2 then setSrc k { c with misses := 0 } s
  else if count = 0 ∨ 1 ≤ c.misses then sourceTrip k s
  else setSrc k { c with misses := 1 } s

/-- CLOCK_JUDGE_WINDOW: a source that is judged good is monitored with the same windows (16 R370, R372). In a pair a unit that leaves SLOW_HOLD after
its partner has taken over joins as standby (16 R374). -/
def judgeAndJoin (k : ClockSource) (count : Nat) (s : State) : State :=
  let u := judgeWindow k count s
  let u := if (srcOf s k).good then monitorWindow k count u else u
  if s.glob.state == .slowHold && u.glob.state != .slowHold && u.twin.role == 1 && peerActive u then rejoin u else u

/-! ### TWIN_CMD (15 R353) -/

/-- A TWIN_CMD at the unit that handles it: action 0 SWITCH, 1 RESYNC, 2 DETACH, 3 STATUS; `entry` commits the ORDER entry of a SWITCH. The
outcome, DETAIL and the JSN. -/
def twinAct (action : Nat) (entry : State → State) (s : State) : U16 × List U8 × Nat × State :=
  if 3 < action then (OC_RANGE, [], 0, s)
  else if action = 3 then (OC_OK, cborMap [cborInt (twinStatus s).toNat, cborBytes (beBytes 16 s.twin.peerUnit), cborInt s.twin.compared], 0, s)
  else if !s.twin.link.paired ∨ s.twin.role ≠ 1 then (OC_TWIN_NO_PARTNER, [], 0, s)
  else match action with
    | 0 =>
      if s.twin.takeover.isSome then (OC_ALREADY_APPLIED, [], 0, s)
      else if !s.twin.resynced ∨ s.twin.detached ∨ s.twin.detachOrder then (OC_TWIN_NOT_READY, [], 0, s)
      else
        let s := entry s
        (OC_OK, [], s.jrn.lastJsn, yieldPlan 4 (epochLen s) s)
    | 1 =>
      if !s.twin.resynced ∧ !s.twin.detached ∧ !s.twin.detachOrder then (OC_ALREADY_APPLIED, [], 0, s)
      else
        let s := blSend 0x7F 0 (beBytes 2 OC_OK.toNat) (modTwin (fun t => { t with detachOrder := false, detached := false, resynced := false }) s)
        (OC_OK, [], 0, modLink (fun k => { k with paired := false, unacked := [], helloSent := false }) s)
    | _ =>
      if s.twin.detachOrder then (OC_ALREADY_APPLIED, [], 0, s)
      else (OC_OK, [], 0, modTwin (fun t => { t with detachOrder := true, holdAt := none }) s)

/-- A TWIN_CMD order: the active or single unit handles it, a paired standby relays it (15 R353). -/
def orderTwin (action : Nat) (e : Envelope) (s : State) : State :=
  orderRow 10 (action == 0 && !standby s) (fun _ => true) (fun s =>
    if standby s ∧ s.twin.link.paired then
      .later (blSend 0x60 0 e.raw (modTwin (fun t => { t with relayed := t.relayed ++ [(e.headend, e.orderId)] }) s))
    else
      let (c, d, j, s) := twinAct action (commitOrder 10 e [(action : Int)]) s
      .now c d j s) e s

/-- The envelope that a CMD relays; the standby has verified it (12 R285, 15 R353). -/
def relayedOrder (h : BlFrame) : Envelope := envelopeOf { envelope := h.body }

/-- BL_CMD: the active handles a TWIN_CMD relayed by the standby (15 R353). -/
def blCmd (h : BlFrame) (s : State) : State :=
  let e := relayedOrder h
  let action := (cborMapOf e.body).bind (fun m => natKey m 1)
  blFrame 0x60 (!e.malformed && e.kind == 10 && action.isSome) h (atActive (fun s =>
    let a := action.getD 0
    let (c, d, _, s) := twinAct a (commitOrder 10 e [(a : Int)]) s
    blSend 0x61 0 (beBytes 2 c.toNat ++ d) s)) s

/-- BL_CMD_ANSWER: the standby answers the relayed order with the active's outcome and its DETAIL as they stand (15 R353). -/
def blCmdAnswer (h : BlFrame) (s : State) : State := blFrame 0x61 (decide (2 ≤ h.body.length)) h (atStandby (fun s => match s.twin.relayed with
  | [] => s
  | (hd, id) :: l => orderAnswered hd id (BitVec.ofNat 16 (beAt h.body 0 2)) (h.body.drop 2) 0 (modTwin (fun t => { t with relayed := l }) s))) s

end Sys2Proof.Machine
end

