-- ==== Sys2Proof/Machine/Registers.lean ====
section
/-! DEFINITION. The register space: blocks, accesses that end in a bus error, what each register reads, and what a write of each
register does (00 R7 to R10, 01 R29 to R32, 16 R375, 00 R453). -/

namespace Sys2Proof.Machine

/-! ### Pins (02 R36 to R38, Tables 2.2 to 2.6) -/

/-- Function code and parameter of pin SP[p], 8 to 23 (02 R38). -/
def pinFunction (s : State) (p : Nat) : Int × Int := match (cadRows s 0x0020)[p - 8]? with
  | some r => (r.getD 0 0, r.getD 1 0)
  | none => (0, 0)

/-- Level at SP[p] (02 Tables 2.2, 2.3, 2.6): what the device drives where the pin is one of its outputs (the QSPI clock idle low, its
reset and both chip selects high, outside the accesses), else the level that stands there at the sample of this microsecond, which the
specification leaves to the board: a free value (log 100). In the reset season it is the sample of step 5. -/
def pinLevel (s : State) (p : Nat) : Bool :=
  let sampled := Config.pinIn p (s.mono / 1000)
  if s.glob.season = .reset then s.glob.gpioIn.getLsbD p
  else if p = 4 then false
  else if 5 ≤ p ∧ p < 8 then true
  else if p < 8 ∨ s.glob.season ≠ .run then sampled
  else
    let (c, q) := pinFunction s p
    let held := aliveHeld s.glob.state
    match c with
    | 2 => (if held then s.glob.gpioHeld else s.glob.gpioOut).getLsbD (p - 8)
    | 3 => if held then s.glob.ledHeld.getLsbD q.toNat else ledLevel s q.toNat
    | 4 => s.twin.alive
    | 6 => s.twin.roleOut
    | 7 => s.twin.peerRole
    | 9 => !held && ppsLevel s
    | 10 => !held && radioUp s q.toNat
    | _ => sampled

/-- SP_GPIO_IN (02 Table 2.6). -/
def gpioIn (s : State) : U32 := u32 ((List.range 24).foldl (fun a p => a + (if pinLevel s p then 2 ^ p else 0)) 0)

/-- The pins SP[8] to SP[23] of function GPIO_OUT, as bits [15:0] (02 Table 2.5). -/
def gpioOutPins (s : State) : U16 :=
  BitVec.ofNat 16 ((List.range 16).foldl (fun a k => a + (if (pinFunction s (k + 8)).1 = 2 then 2 ^ k else 0)) 0)

/-- SP_GPIO_OUT written: bits of pins with another function are ignored (02 Table 2.5). -/
def gpioOutWrite (v : U32) (s : State) : State :=
  { s with glob := { s.glob with gpioOut := (v >>> 8).setWidth 16 &&& gpioOutPins s } }

/-! ### Status words -/

/-- CLUSTERS_UP: clusters powered and clocked; none in the states whose Table 1.10 row clocks none (01 Tables 1.10, 1.11, log 99). -/
def clustersClocked (s : State) : BitVec 4 := if aliveHeld s.glob.state || s.glob.state == .reset then 0 else s.glob.clustersUp

/-- DEVICE_STATUS (01 Table 1.11). -/
def deviceStatus (s : State) : U32 :=
  fieldAt (clustersClocked s).toNat 16 ||| fieldAt s.twin.role 12 ||| fieldAt s.glob.tq 8 ||| fieldAt (stateCode s.glob.state) 0

/-- SEASON_STATUS (02 Table 2.7). -/
def seasonStatus (s : State) : U32 :=
  let z := match s.glob.season with
    | .reset => 0
    | .boot => 1
    | .run => 2
  fieldAt z 30 ||| fieldAt s.glob.cdstSrc 28 ||| fieldAt s.upd.bootAttempts 26 ||| bitAt s.glob.strapErr 7 ||| s.glob.straps.setWidth 32

/-- CLK_STATUS (16 Table 16.9). -/
def clkStatus (s : State) : U32 :=
  let c := s.clk
  bitAt c.fio.good 31 ||| bitAt c.xa.good 30 ||| bitAt c.xb.good 29 ||| bitAt c.refclk.good 28 ||| fieldAt c.pllLock.toNat 24 |||
    bitAt c.onFio 23 ||| bitAt c.keeperSio 22 ||| bitAt c.aonSio 21 ||| bitAt s.bench.aonValid 20

/-- BM_STATUS (16 Table 16.11). -/
def bmStatus (s : State) : U32 :=
  bitAt s.bench.running 31 ||| bitAt s.bench.stepReq.isSome 30 ||| bitAt s.ptp.locked 29 ||| bitAt s.bench.ppsValid 28 |||
    fieldAt s.bench.stepGen.toNat 0

/-- PTP_STATUS (16 Table 16.12). -/
def ptpStatus (s : State) : U32 :=
  let bits (k : Nat) : Nat := (List.range 4).foldl (fun a p => a + (if tabGet s.ptp.port p 0 = k then 2 ^ p else 0)) 0
  fieldAt (bits 1) 28 ||| fieldAt (bits 2) 24 ||| fieldAt (cadNum s 0x0910 0 % 4) 22 ||| fieldAt s.ptp.tsq.length 0

/-- MEM_STATUS (18 Table 18.3). -/
def memStatus (s : State) : U32 :=
  let marked := (List.range 4).foldl (fun a n => a + (if s.ecc.devs.any (fun e => e.1 / 256 == n && e.2.marked) then 2 ^ n else 0)) 0
  bitAt s.ecc.scrubbing 31 ||| bitAt s.ecc.scrubPaused 30 ||| fieldAt marked 20 ||| fieldAt (if s.ecc.trained then s.ecc.speed % 4 else 0) 16 |||
    fieldAt (s.ecc.scrubLine * 100 / max 1 (dramLines s)) 0

/-- DEV_INFO of the selected device (18 Table 18.2). -/
def devInfo (s : State) : U32 :=
  let v := s.ecc.devSelect
  let d := tabGet s.ecc.devs (devNo (field v 1 0) (field v 5 2) (field v 9 6)) {}
  bitAt d.marked 31 ||| fieldAt d.symbols 0

/-- UPD_STATUS (13 Table 13.10). -/
def updStatus (s : State) : U32 :=
  let u := s.upd
  let left : Nat := match u.trialAt with
    | some t => (t + 120000000000 - s.mono + 999999999) / 1000000000
    | none => 0
  let mixed := match u.peerRelease with
    | some r => decide (r ≠ (fwSlot s u.running).release)
    | none => false
  fieldAt (fwSlot s 0).state 29 ||| fieldAt (fwSlot s 1).state 26 ||| fieldAt u.running 25 ||| bitAt ((fwSlot s u.running).state == 3) 24 |||
    bitAt u.schedule.isSome 23 ||| bitAt u.deferredAt.isSome 22 ||| bitAt mixed 21 ||| bitAt u.recoveryDone 20 ||| fieldAt left 0

/-- TEMP_STATUS (20 Table 20.14). -/
def tempStatus (s : State) : U32 := fieldAt (BitVec.ofInt 16 s.power.mainTemp).toNat 16 ||| fieldAt (BitVec.ofInt 16 s.power.fieldTemp).toNat 0

/-- The word of a list at an offset, where registers of four bytes stand one after another from `a`. -/
def wordAt (l : List U32) (a off : Nat) : U32 := if off % 4 = 0 ∧ a ≤ off then l.getD ((off - a) / 4) 0 else 0

/-- Bits [31:0] and [63:32] of a signed 64-bit number. -/
def loI (z : Int) : U32 := BitVec.ofInt 32 z

/-- Bits [63:32] of a signed 64-bit number. -/
def hiI (z : Int) : U32 := BitVec.ofInt 32 (z / 4294967296)

/-! ### What each register reads (register tables of chapters 00 to 20); a register not defined reads 0 (00 R453) -/

/-- Global block. -/
def readGlobal (s : State) (off : Nat) : U32 := match off with
  | 0x008 => deviceStatus s
  | 0x00C => 0x80001049
  | 0x010 => loI s.epoch.current
  | 0x014 => s.glob.epochHi
  | 0x018 => lifecycleView s
  | 0x01C => seasonStatus s
  | 0x020 => s.glob.gpioOut.setWidth 32 <<< 8
  | 0x024 => gpioIn s
  | _ => 0

/-- Clocks and reset. -/
def readClocks (s : State) (off : Nat) : U32 := match off with
  | 0x008 => clkStatus s
  | 0x00C => s.clk.enable0
  | 0x010 => s.clk.enable1
  | 0x014 => s.clk.trips
  | 0x018 => s.clk.fioRatio
  | 0x01C => s.clk.slowHolds
  | _ => 0

/-- Power. -/
def readPower (s : State) (off : Nat) : U32 := match off with
  | 0x008 => pwrStatus s
  | 0x00C => u32 s.power.vin
  | 0x010 => s.power.trips
  | 0x014 => s.power.lgLastUs
  | 0x018 => s.power.lgKib
  | 0x01C => tempStatus s
  | _ => 0

/-- Device field book window. -/
def readFieldBook (s : State) (off : Nat) : U32 := match off with
  | 0x008 => fbStatus s
  | 0x00C => s.fb.select.setWidth 32
  | 0x010 => lo32 s.fb.cursor
  | 0x014 => s.fb.cursorHi
  | 0x018 => lo32 (ringOldest s.fb)
  | 0x01C => s.fb.oldestHi
  | 0x020 => lo32 (ringNewest s.fb)
  | 0x024 => s.fb.newestHi
  | 0x02C => s.fb.dropped
  | o => if 0x100 ≤ o ∧ o < 0x200 then wordAt (fbWindow s) 0x100 o else 0

/-- Mailbox channel number of an offset of the non-secure (`b` 4) or secure (`b` 5) block, where a channel stands there. -/
def channelAt (b off : Nat) : Option Nat :=
  let c := (off - 0x1000) / 0x100
  if off < 0x1000 ∨ (if b = 5 then 8 else 32) ≤ c then none else some (if b = 5 then 32 + c else c)

/-- May this requester read CH_MSG: its owner, or the receiving side in TAKEN (17 R383)? -/
def msgReadable (r : Requester) (c : Nat) (s : State) : Bool :=
  let x := chOf s c
  (x.state == .taken && mayTake r c) || (x.state != .empty && x.owner == stampOf r)

/-- The MSI-X table and PBA within a mailbox block (17 R380). -/
def msixOffset (off : Nat) : Bool := decide (0xF000 ≤ off ∧ off < 0xF080) || decide (0xF800 ≤ off ∧ off < 0xF808)

/-- Mailboxes; CH_LOCK and CH_STAMP stand here without the effect of reading them. -/
def readMbox (r : Requester) (s : State) (b off : Nat) : U32 :=
  let sec := b == 5
  let k := if sec then 1 else 0
  match off with
  | 0x008 => mbSummary s sec
  | 0x00C => fieldAt s.mbox.fn0Resets.toNat 0 ||| fieldAt s.mbox.fn1Resets.toNat 8 ||| fieldAt s.mbox.warmResets.toNat 16
  | 0x010 => tabGet s.mbox.crossings k 0
  | 0x014 => tabGet s.mbox.withdrawn k 0
  | o => if msixOffset o then tabGet s.mbox.msixTable (65536 * k + o) 0 else match channelAt b o with
    | none => 0
    | some c =>
      let x := chOf s c
      let o := o % 0x100
      match o with
      | 0x00 => (chLockRead r c s).2
      | 0x08 => chStatus s c
      | 0x10 => (chTake r c s).2
      | 0x14 => x.stampRc.setWidth 32
      | 0x18 => x.ack.setWidth 32
      | o => if 0x40 ≤ o ∧ o < 0x80 ∧ msgReadable r c s then tabGet x.msg ((o - 0x40) / 4) 0 else 0

/-- Queue number of an offset of the queue block. -/
def queueAt (off : Nat) : Option Nat := if off < 0x1000 ∨ 22 ≤ (off - 0x1000) / 0x40 then none else some ((off - 0x1000) / 0x40)

/-- Queues; Q_DATA stands here without the effect of reading it. -/
def readQueues (r : Requester) (s : State) (off : Nat) : U32 := match queueAt off with
  | none => 0
  | some q =>
    let w := tabGet s.queues q {}
    match (off - 0x1000) % 0x40 with
    | 0x00 => (queuePop r q .clean s).2
    | 0x04 => queueStatus s q
    | 0x08 => bitAt (decide (q < 8) || w.enable) 0 ||| fieldAt w.threshold 16
    | 0x0C => fieldAt w.corrected 0 ||| fieldAt w.poisoned 16
    | 0x10 => w.overflow
    | _ => 0

/-- DMA channel of an offset of the DMA block. -/
def dmaAt (off : Nat) : Option Nat := if off < 0x100 ∨ 4 ≤ (off - 0x100) / 0x40 then none else some ((off - 0x100) / 0x40)

/-- DMA. -/
def readDma (s : State) (off : Nat) : U32 := match dmaAt off with
  | none => 0
  | some c =>
    let x := dmaOf s c
    match (off - 0x100) % 0x40 with
    | 0x00 => x.ring
    | 0x04 => x.size
    | 0x08 => x.head
    | 0x0C => x.tail
    | 0x10 => bitAt x.run 0
    | 0x14 => dmaStatus s c
    | 0x18 => x.done
    | _ => 0

/-- Benchmark. -/
def readBench (s : State) (off : Nat) : U32 := match off with
  | 0x008 => bmStatus s
  | 0x00C => bmInt s
  | 0x010 => s.bench.fracLatch
  | 0x014 => s.bench.incrFrac
  | 0x018 => s.bench.incrInt.setWidth 32
  | 0x01C => s.bench.stepLo
  | 0x020 => s.bench.stepHi
  | 0x028 => lo32 (devTime s)
  | 0x02C => s.bench.timeHi
  | 0x030 => u32 (satTo 0xFFFFFFFF (epsNow s / 1000))
  | 0x034 => i32 (utcAt s.ptp.utc (devTime s))
  | 0x038 => s.bench.steps
  | 0x058 => s.bench.ppsStamp
  | o => if 0x040 ≤ o ∧ o ≤ 0x054 then wordAt ((List.range 6).map (fun k => (zcOf s k).stamp)) 0x040 o else 0

/-- Key vault. -/
def readVault (s : State) (off : Nat) : U32 := match off with
  | 0x008 => vaultStatus s
  | 0x00C => u32 s.keys.slotSelect
  | 0x010 => slotInfo s
  | 0x044 => lo32 s.keys.q
  | 0x048 => s.keys.qHi
  | 0x04C => lo32 s.keys.reservedEnd
  | 0x050 => s.keys.reservedHi
  | 0x054 => s.keys.refused
  | _ => 0

/-- Update and manifest. -/
def readUpdate (s : State) (off : Nat) : U32 := match off with
  | 0x008 => updStatus s
  | 0x00C => u32 (stagingSlot s).nextOffset
  | 0x010 => lo32 ((s.upd.schedule.map (·.2)).getD 0)
  | 0x014 => s.upd.activateHi
  | 0x018 => u32 s.keys.floor
  | 0x01C => u32 (fwSlot s s.upd.running).journalFloor
  | 0x020 => u32 (retiredSet s) &&& 0x00FFFF3F
  | 0x040 => s.upd.manifestLen
  | 0x044 => s.upd.cadastreLen
  | 0x04C => s.upd.result
  | 0x060 => s.upd.activations
  | 0x064 => s.upd.fallbacks
  | 0x068 => s.upd.recoveries
  | _ => 0

/-- Twin and Baseline link. -/
def readTwin (s : State) (off : Nat) : U32 :=
  let t := s.twin
  match off with
  | 0x008 => twinStatus s
  | 0x00C => t.link.framesTx
  | 0x010 => t.link.framesRx
  | 0x014 => t.link.authFail
  | 0x018 => t.link.resends
  | 0x01C => t.epochsCompared
  | 0x020 => t.divergences
  | 0x024 => t.takeovers
  | 0x028 => t.resyncs
  | 0x02C => loI t.compared
  | 0x030 => t.comparedHi
  | _ => 0

/-- Panel. -/
def readPanel (s : State) (off : Nat) : U32 :=
  let p := s.panel
  match off with
  | 0x008 => panelStatus s
  | 0x00C => p.shown.extractLsb' 0 32
  | 0x010 => p.shown.extractLsb' 32 32
  | 0x014 => p.shown.extractLsb' 64 32
  | 0x018 => p.user.setWidth 32 ||| bitAt p.led7 16
  | 0x01C => fieldAt (BitVec.ofInt 16 p.temp).toNat 0
  | 0x020 => u32 p.dcSelect
  | 0x024 => i32 (tabGet p.acc p.dcSelect 0)
  | 0x028 => p.updates
  | 0x02C => p.balances
  | 0x030 => p.deferred
  | 0x034 => p.railFaults
  | _ => 0

/-- Archive and FTL status. -/
def readArchive (s : State) (off : Nat) : U32 :=
  let f := s.flash
  match off with
  | 0x008 => archStatus s
  | 0x00C => u32 (freePermille s)
  | 0x010 => u32 (rangesCount f.spare)
  | 0x014 => u32 f.retired.length
  | 0x018 => f.chunksWritten
  | 0x01C => f.gcCopied
  | 0x020 => f.readRetries
  | 0x024 => f.uncorrectable
  | 0x028 => f.programFails
  | 0x02C => f.eraseFails
  | 0x030 => f.targetFails
  | 0x034 => f.notArchived
  | 0x038 => f.released
  | 0x03C => f.reservePasses
  | 0x040 => f.imagePassS
  | 0x044 => u32 (f.pe.foldl (fun m e => max m e.2) 0)
  | _ => 0

/-- Memory controllers and ECC. -/
def readMem (s : State) (off : Nat) : U32 :=
  let e := s.ecc
  match off with
  | 0x008 => memStatus s
  | 0x030 => e.poisonReads
  | 0x034 => e.passes
  | 0x038 => e.lastS
  | 0x040 => e.devSelect
  | 0x044 => devInfo s
  | 0x200 => e.sramUe
  | o => if 0x010 ≤ o ∧ o ≤ 0x01C then tabGet e.ceLines ((o - 0x010) / 4) 0
    else if 0x020 ≤ o ∧ o ≤ 0x02C then tabGet e.ue ((o - 0x020) / 4) 0
    else if 0x100 ≤ o ∧ o < 0x200 then tabGet e.sramCe ((o - 0x100) / 4) 0
    else 0

/-- Traverse registers 0x008 to 0x094 (04 Table 4.10). -/
def readTraverse (s : State) (off : Nat) : U32 :=
  let t := s.trav
  match off with
  | 0x008 => traverseStatus s
  | 0x00C => u32 t.staged.length
  | 0x010 => u32 (t.stagedBytes / 1024)
  | 0x014 => t.admitted
  | 0x018 => t.committed
  | 0x01C => t.duplicates
  | 0x020 => t.resent
  | 0x024 => t.stale
  | 0x028 => t.authFail
  | 0x02C => t.keyFail
  | 0x030 => t.formatFail
  | 0x034 => t.confirmSent
  | 0x038 => t.bpEvents
  | 0x03C => t.stagingFull
  | 0x040 => lo32 s.jrn.lastJsn
  | 0x044 => t.jsnHi
  | 0x048 => u32 (tailBytes s / 1024)
  | 0x04C => t.genSkipped
  | 0x050 => t.promotions
  | 0x054 => t.preempts
  | 0x058 => t.c1
  | 0x05C => t.c2
  | 0x060 => t.c3
  | 0x064 => containStatus s
  | o => if 0x080 ≤ o ∧ o ≤ 0x094 then queueAge s ((o - 0x080) / 4) else 0

/-- Parcel and directory registers (03 Table 3.9). -/
def readParcels (s : State) (off : Nat) : U32 :=
  let n (f : ParcelState → Bool) : U32 := u32 ((s.store.parcels.filter (fun e => f e.2.state)).length)
  match off with
  | 0x100 => n (fun k => k == .active || k == .restoring)
  | 0x104 => n (fun k => k == .retiring)
  | 0x108 => u32 (capacityOf s.ecc.dramGib)
  | 0x10C => dirStatus s
  | 0x110 => s.store.hits
  | 0x114 => s.store.missCount
  | 0x118 => s.store.merged
  | 0x11C => s.store.bypass
  | 0x120 => dirtyEvicted s
  | 0x124 => s.store.unknown
  | 0x128 => s.store.moves
  | _ => 0

/-- Billing registers (06 Table 6.14). -/
def readBilling (s : State) (off : Nat) : U32 :=
  let b := s.billing
  match off with
  | 0x300 => lo32 b.time
  | 0x304 => b.timeHi
  | 0x308 => billingStatus s
  | 0x30C => b.credits
  | 0x310 => b.degradedCredits
  | 0x314 => b.corrections
  | 0x318 => b.excluded
  | 0x31C => b.mdUpdates
  | 0x320 => b.periodCloses
  | 0x324 => b.boundaryCommits
  | 0x328 => b.activations
  | o => if 0x340 ≤ o ∧ o ≤ 0x3BC then calStatus s ((o - 0x340) / 4) else 0

/-- Traverse and parcel statistics: the registers of chapters 03, 04, 05, 06, 11 and 12. -/
def readStatistics (s : State) (off : Nat) : U32 :=
  if off < 0x100 then readTraverse s off
  else if off < 0x200 then readParcels s off
  else if off < 0x300 then tabGet s.trav.reads off 0
  else if off < 0x400 then readBilling s off
  else if off < 0x500 then
    (if off = 0x400 then actStatus s else if off = 0x438 then u32 (creditOut s) else if off < 0x438 then wordAt (actCounters s.act) 0x404 off else 0)
  else if off < 0x600 then
    (if off = 0x500 then hxStatus s else if off = 0x540 then loI (ackValue s) else if off = 0x544 then s.hx.ackHi
     else if off < 0x534 then wordAt (hxCounters s.hx) 0x504 off else 0)
  else if 0x1000 ≤ off ∧ off < 0x5000 then cellStatus s ((off - 0x1000) / 4)
  else 0

/-- Steelyard and Theodolite status. -/
def readSteelyard (s : State) (off : Nat) : U32 :=
  let t := s.steel
  match off with
  | 0x008 => syStatus s
  | 0x00C => u32 (topoNow s).nodes.length
  | 0x010 => u32 (nodesFlagged s)
  | 0x014 => t.closed
  | 0x018 => t.invalid
  | 0x01C => t.suspended
  | 0x020 => t.late
  | 0x024 => t.evict
  | 0x028 => t.suspects
  | 0x02C => u32 (outagesOpen s)
  | 0x030 => t.outageEvents
  | 0x034 => t.theoPasses
  | 0x038 => t.proposals
  | 0x03C => t.applied
  | 0x040 => t.phaseVotes
  | _ => 0

/-- PLC port `n`. -/
def readPlc (s : State) (n off : Nat) : U32 := match off with
  | 0x008 => plcStatus s n
  | 0x00C => if plcZcValid s n then u32 (zcPeriod (zcOf s (plcCfg s n 2))) else 0
  | o => if 0x010 ≤ o ∧ o ≤ 0x058 then wordAt (plcCounters s n) 0x010 o else 0

/-- Radio port `n`. -/
def readRadio (s : State) (n off : Nat) : U32 := match off with
  | 0x008 => radioStatus s n
  | 0x00C => (radioOf s n).txStamp
  | o => if 0x010 ≤ o ∧ o ≤ 0x048 then wordAt (radioCounters s n) 0x010 o
    else if 0x080 ≤ o ∧ o ≤ 0x0BC then u32 (bandUsed s n ((o - 0x080) / 4)) else 0

/-- Ethernet and PTP; TSQ_POP stands here without the effect of reading it. -/
def readEth (s : State) (off : Nat) : U32 := match off with
  | 0x008 => ptpStatus s
  | 0x00C => (tsqPop s).2
  | 0x010 => s.ptp.tsqStamp
  | 0x014 => s.ptp.tsqOverflow
  | 0x018 => s.ptp.discarded
  | 0x01C => s.ptp.forwarded
  | 0x020 => s.ptp.accepted
  | _ => 0

/-- The value a read by `r` of offset `off` of block `b` returns; `b` is the block's base divided by 65,536 (01 Table 1.12). -/
def regValue (r : Requester) (s : State) (b off : Nat) : U32 :=
  if off = 0 then fieldAt b 16 ||| 0x0100
  else if off = 4 then (outcomeOf s b).setWidth 32
  else match b with
    | 0x00 => readGlobal s off
    | 0x01 => readClocks s off
    | 0x02 => readPower s off
    | 0x03 => readFieldBook s off
    | 0x04 => readMbox r s 4 off
    | 0x05 => readMbox r s 5 off
    | 0x06 => readQueues r s off
    | 0x07 => readDma s off
    | 0x08 => readBench s off
    | 0x09 => readVault s off
    | 0x0A => readUpdate s off
    | 0x0B => readTwin s off
    | 0x0C => readPanel s off
    | 0x0D => readArchive s off
    | 0x0E => readMem s off
    | 0x10 => readStatistics s off
    | 0x11 => readSteelyard s off
    | 0x40 => readEth s off
    | n => if 0x20 ≤ n ∧ n ≤ 0x25 then readPlc s (n - 0x20) off else if 0x30 ≤ n ∧ n ≤ 0x37 then readRadio s (n - 0x30) off else 0

end Sys2Proof.Machine
end

