-- ==== Sys2Proof/Machine/Writes.lean ====
section
/-! DEFINITION. Accesses to the register space: where one ends in a bus error, the reserved bits of every register, and the effect of a
write (00 R7 to R10, 01 R29, R30, 16 R375, 00 R453). -/

namespace Sys2Proof.Machine

/-! ### Where an access ends (01 R29, R30, 16 R375, 17 R378, R379, 00 R453) -/

/-- Is a block's clock gated (16 Tables 16.8, 16.10)? Blocks 0 to 3 and Benchmark have no bit. -/
def blockGated (s : State) (b : Nat) : Bool :=
  let off (k : Nat) : Bool := !s.clk.enable0.getLsbD k
  match b with
  | 0x04 => off 7
  | 0x05 => off 8
  | 0x06 => off 9
  | 0x07 => off 10
  | 0x09 => off 11
  | 0x0A => off 12
  | 0x0B => off 13
  | 0x0C => off 14
  | 0x0D => off 15
  | 0x0E => off 16
  | 0x10 => off 17
  | 0x11 => off 18
  | 0x40 => off 19
  | n => if 0x20 ≤ n ∧ n ≤ 0x25 then off (n - 0x20 + 20)
    else if 0x30 ≤ n ∧ n ≤ 0x37 then !s.clk.enable1.getLsbD (n - 0x30) else false

/-- Is a block reachable by secure-tagged requests only (01 Table 1.12)? -/
def secureBlock (b : Nat) : Bool := b == 0x05 || b == 0x09

/-- Is companion function 1 enumerated (17 R378)? -/
def fn1Present (s : State) : Bool := !s.cad.accepted || cadNum s 0x0901 0 == 1

/-- Can a requester issue a request at all: a companion function needs the link, and function 1 its presence (17 R377, R378)? -/
def canRequest (r : Requester) (s : State) : Bool := match r with
  | .fn0 _ => s.mbox.linkUp
  | .fn1 _ => s.mbox.linkUp && fn1Present s
  | _ => true

/-- Does the companion's BAR0 answer: from step 6 of Table 2.4 (17 R379)? -/
def bar0Answers (s : State) : Bool := decide (6 ≤ s.glob.startStep) || s.glob.state == .recovery

/-- Does an access cover one aligned word (00 R453)? -/
def aligned (addr : U32) (bytes : Nat) : Bool := addr.toNat % 4 == 0 && bytes == 4

/-- What becomes of an access. -/
inductive Reach
  /-- it reaches its register -/
  | register
  /-- it is never issued -/
  | absent
  /-- the companion port answers with a completer abort before step 6 -/
  | early
  | unmapped | secure | gated | misaligned
deriving DecidableEq, Repr

/-- Block of an address. -/
def blockOf (addr : U32) : Nat := addr.toNat / 65536

/-- Offset of an address in its block. -/
def offsetOf (addr : U32) : Nat := addr.toNat % 65536

/-- What becomes of an access of `bytes` bytes at `addr` by `r` (01 R29, R30, 16 R375, 17 R380, 00 R453). -/
def reach (r : Requester) (addr : U32) (bytes : Nat) (s : State) : Reach :=
  let b := blockOf addr
  if !canRequest r s then .absent
  else if companionReq r && !bar0Answers s then .early
  else if !blockExists b then .unmapped
  else if secureBlock b && !secureReq r then .secure
  else if blockGated s b && !((b == 4 || b == 5) && msixOffset (offsetOf addr)) then .gated
  else if !aligned addr bytes then .misaligned
  else .register

/-- An access that ends before its register: the bus error, and the record it makes (01 R29, R30, 16 R375, 00 R453). -/
def accessEnds (r : Requester) (addr : U32) (k : Reach) (s : State) : State := match k with
  | .register => s
  | .absent => s
  | .early => emit (.busError OC_FAULT) s
  | .unmapped => emit (.busError OC_FAULT) (record 0 OC_FAULT [addr, stampOf r] s)
  | .misaligned => emit (.busError OC_FAULT) (record 0 OC_FAULT [addr, stampOf r] s)
  | .secure => emit (.busError OC_AUTH) (record (blockOf addr) OC_AUTH [stampOf r] s)
  | .gated => emit (.busError OC_CLK_GATED) (record 0x01 OC_CLK_GATED [u32 (blockOf addr), stampOf r] s)

/-- A read: where it reaches its register, `f` gives the word and the state after; the word is returned (00 R7). -/
def access (r : Requester) (addr : U32) (f : State → State × U32) (s : State) : State :=
  let k := reach r addr 4 s
  if k = .register then (let (t, v) := f s; emit (.rdata v) t) else accessEnds r addr k s

/-! ### Reserved bits (00 R8, 00 R453) -/

/-- Reserved bits of a mailbox channel's register at offset `o` of the channel. -/
def reservedChannel (o : Nat) : U32 := match o with
  | 0x00 => 0
  | 0x04 => 0xFFFFFFFE
  | 0x08 => 0x01FFFFFF
  | 0x0C => 0xFFFFFFFE
  | 0x10 => 0
  | 0x14 => 0xFFFFFF00
  | 0x18 => 0xFFFF0000
  | o => if 0x40 ≤ o ∧ o < 0x80 then 0 else 0xFFFFFFFF

/-- Reserved bits of a register of the Traverse and parcel statistics block. -/
def reservedStatistics (off : Nat) : U32 :=
  let within (a b : Nat) : Bool := decide (a ≤ off ∧ off ≤ b)
  if off = 0x008 then 0x0FFFF800
  else if off = 0x064 then 0xFFFFF88C
  else if within 0x00C 0x060 || within 0x080 0x094 then 0
  else if off = 0x10C then 0xFC00FE80
  else if within 0x100 0x128 || within 0x200 0x234 then 0
  else if off = 0x308 then 0x1FFFFFC0
  else if within 0x300 0x328 then 0
  else if within 0x340 0x3BC then 0x18000000
  else if off = 0x400 then 0x1C000000
  else if within 0x404 0x438 then 0
  else if off = 0x500 then 0x3FFF8000
  else if within 0x504 0x530 || off = 0x540 || off = 0x544 then 0
  else if within 0x1000 0x4FFC then 0x1F000000
  else 0xFFFFFFFF

/-- Reserved bits of the register at an offset of a block; an offset at which no register is defined has 32 (00 R8, 00 R453). -/
def reservedBits (b off : Nat) : U32 :=
  let within (lo hi : Nat) : Bool := decide (lo ≤ off ∧ off ≤ hi)
  let last (hi : Nat) : U32 := if within 0x008 hi then 0 else 0xFFFFFFFF
  if off = 0 then 0x000000FF
  else if off = 4 then 0xFFFF0000
  else match b with
    | 0x00 => match off with
      | 0x008 => 0xFFF0CCF0
      | 0x018 => 0xFF00F070
      | 0x01C => 0x03FFFF40
      | 0x020 => 0xFF0000FF
      | 0x024 => 0xFF000000
      | _ => last 0x014
    | 0x01 => match off with
      | 0x008 => 0x000FFFFF
      | 0x00C => 0xFC00007F
      | 0x010 => 0xFFFFFF00
      | _ => last 0x01C
    | 0x02 => if off = 0x008 then 0x0FFFFFF8 else last 0x01C
    | 0x03 => match off with
      | 0x008 => 0x1F80FC00
      | 0x00C => 0xFFFF0000
      | 0x028 => 0xFFFFFFF0
      | _ => if within 0x100 0x1FC then 0 else last 0x02C
    | 0x06 => match queueAt off with
      | none => 0xFFFFFFFF
      | some _ => match (off - 0x1000) % 0x40 with
        | 0x00 => 0
        | 0x04 => 0x1FFF8000
        | 0x08 => 0x8000FFFE
        | 0x0C => 0
        | 0x10 => 0
        | _ => 0xFFFFFFFF
    | 0x07 => match dmaAt off with
      | none => 0xFFFFFFFF
      | some _ => match (off - 0x100) % 0x40 with
        | 0x10 => 0xFFFFFFFC
        | 0x14 => 0x3FFF0000
        | o => if o ≤ 0x18 then 0 else 0xFFFFFFFF
    | 0x08 => match off with
      | 0x008 => 0x0FFFFFF0
      | 0x018 => 0xFFFFFF00
      | 0x024 => 0xFFFFFFFE
      | _ => if within 0x03C 0x03C then 0xFFFFFFFF else last 0x058
    | 0x09 => match off with
      | 0x008 => 0x3FFFFE00
      | 0x00C => 0xFFFFFF00
      | 0x010 => 0x3F000000
      | 0x040 => 0xFFFF00FC
      | 0x048 => 0xFFFFFF00
      | 0x050 => 0xFFFFFF00
      | _ => if within 0x020 0x03C || off = 0x044 || off = 0x04C || off = 0x054 then 0 else 0xFFFFFFFF
    | 0x0A => match off with
      | 0x008 => 0x000FFF80
      | 0x01C => 0xFFFF0000
      | 0x020 => 0xFF0000C0
      | 0x048 => 0xFFFFFFFE
      | 0x04C => 0x7FFF0000
      | _ => if within 0x00C 0x018 || off = 0x040 || off = 0x044 || within 0x060 0x068 then 0 else 0xFFFFFFFF
    | 0x0B => if off = 0x008 then 0x00F8FF80 else last 0x030
    | 0x0C => match off with
      | 0x008 => 0x00FFFF80
      | 0x018 => 0xFFFEF000
      | 0x01C => 0xFFFF0000
      | 0x020 => 0xFFFFFF80
      | _ => last 0x034
    | 0x0D => if off = 0x008 then 0x07FF00FF else last 0x044
    | 0x0E => match off with
      | 0x008 => 0x3F0CFF80
      | 0x040 => 0xFFFFFC00
      | 0x044 => 0x7F000000
      | _ => if within 0x010 0x038 || within 0x100 0x1FC || off = 0x200 then 0 else 0xFFFFFFFF
    | 0x10 => reservedStatistics off
    | 0x11 => if off = 0x008 then 0x1FFFE000 else last 0x040
    | 0x40 => match off with
      | 0x008 => 0x003FFF80
      | 0x00C => 0x100F0000
      | _ => last 0x020
    | n =>
      if n = 4 ∨ n = 5 then
        (if off = 0x00C then 0xFF000000 else if within 0x008 0x014 || msixOffset off then 0
         else if (channelAt n off).isSome then reservedChannel (off % 0x100) else 0xFFFFFFFF)
      else if 0x20 ≤ n ∧ n ≤ 0x25 then (if off = 0x008 then 0x03F0F800 else last 0x058)
      else if 0x30 ≤ n ∧ n ≤ 0x37 then (if off = 0x008 then 0x00FFC000 else if within 0x080 0x0BC then 0 else last 0x048)
      else 0xFFFFFFFF

/-! ### Writes -/

/-- A write's new state and its outcome. -/
abbrev Wrote := State × U16

/-- A write that stores: OC_OK. -/
def stored (s : State) : Wrote := (s, OC_OK)

/-- CLK_ENABLE0 or CLK_ENABLE1 written: only firmware may (16 R375). -/
def clkEnableWrite (r : Requester) (second : Bool) (v : U32) (s : State) : Wrote :=
  if r ≠ .firmware then (s, OC_AUTH)
  else if v &&& reservedBits 1 (if second then 0x010 else 0x00C) ≠ 0 then (s, OC_RESERVED_SET)
  else if second then stored { s with clk := { s.clk with enable1 := v } }
  else stored { s with clk := { s.clk with enable0 := v } }

/-- SEASON_STATUS written: only 0 may be written to BOOT_ATTEMPTS (02 Table 2.7, R40). -/
def bootAttemptsWrite (v : U32) (s : State) : Wrote :=
  if v &&& 0x03FFFF40 ≠ 0 then (s, OC_RESERVED_SET)
  else if field v 27 26 ≠ 0 then (s, OC_RANGE)
  else stored (modUpd (fun u => { u with bootAttempts := 0 }) s)

/-- UPD_STATUS written: only 0 may be written to RECOVERY_DONE (13 Table 13.10, R310). -/
def recoveryDoneWrite (v : U32) (s : State) : Wrote :=
  if v &&& 0x000FFF80 ≠ 0 then (s, OC_RESERVED_SET)
  else if v.getLsbD 20 then (s, OC_RANGE)
  else stored (modUpd (fun u => { u with recoveryDone := false }) s)

/-- BM_STEP_CMD written (16 R357, Table 16.11). -/
def stepCmdWrite (v : U32) (s : State) : Wrote :=
  if 2 ≤ v.toNat then (s, OC_RESERVED_SET) else stored (applyIf (v == 1) bmStepGo s)

/-- A length of an image in the companion area written (13 Table 13.9). -/
def cmpLenWrite (cadastre : Bool) (v : U32) (s : State) : Wrote :=
  if (if cadastre then 4194304 else 58654720) < v.toNat then (s, OC_RANGE)
  else stored (modUpd (fun u => if cadastre then { u with cadastreLen := v } else { u with manifestLen := v }) s)

/-- DEV_SELECT written: a rank or device beyond the population is refused (18 Table 18.2). -/
def devSelectWrite (v : U32) (s : State) : Wrote :=
  if v &&& 0xFFFFFC00 ≠ 0 then (s, OC_RESERVED_SET)
  else if s.ecc.ranks ≤ field v 5 2 ∨ 9 < field v 9 6 then (s, OC_RANGE)
  else stored { s with ecc := { s.ecc with devSelect := v } }

/-- A counter of type RWS written (00 R7). -/
def counterWrite (b off : Nat) (v : U32) (s : State) : State := match b, off with
  | 0x02, 0x010 => { s with power := { s.power with trips := v } }
  | 0x02, 0x014 => { s with power := { s.power with lgLastUs := v } }
  | 0x02, 0x018 => { s with power := { s.power with lgKib := v } }
  | 0x0A, 0x060 => modUpd (fun u => { u with activations := v }) s
  | 0x0A, 0x064 => modUpd (fun u => { u with fallbacks := v }) s
  | 0x0A, 0x068 => modUpd (fun u => { u with recoveries := v }) s
  | _, _ => s

/-- CMP_DOORBELL written (13 Table 13.9, R312): `go` is what GO does. -/
def doorbellWrite (go : State → State) (v : U32) (s : State) : Wrote :=
  if 2 ≤ v.toNat then (s, OC_RESERVED_SET) else stored (applyIf (v == 1) go s)

/-- A mailbox channel's register written at offset `o` of channel `c` (17 R383). -/
def channelWrite (r : Requester) (c o : Nat) (v : U32) (s : State) : Wrote := match o with
  | 0x04 => chRelease r c v s
  | 0x0C => chPost r c v s
  | 0x18 => chAckWrite r c v s
  | _ => if 0x40 ≤ o ∧ o < 0x80 then chMsgWrite r c ((o - 0x40) / 4) v s else stored s

/-- The effect of a write on the register at offset `off` of block `b`, its reserved bits being 0 (register tables of chapters 00 to 20).
Read-only registers and bits are left; `go` is what CMP_DOORBELL.GO does. -/
def regEffect (r : Requester) (go : State → State) (b off : Nat) (v : U32) (s : State) : Wrote := match b, off with
  | 0x00, 0x01C => bootAttemptsWrite v s
  | 0x00, 0x020 => stored (gpioOutWrite v s)
  | 0x03, 0x00C => fbSelectWrite v s
  | 0x03, 0x010 => stored (fbCursorWrite v s)
  | 0x03, 0x014 => stored { s with fb := { s.fb with cursorHiW := v } }
  | 0x03, 0x028 => fbCommand (stampOf r) v s
  | 0x08, 0x014 => stored { s with bench := { s.bench with incrFrac := v } }
  | 0x08, 0x018 => bmIncrWrite v s
  | 0x08, 0x01C => stored { s with bench := { s.bench with stepLo := v } }
  | 0x08, 0x020 => stored { s with bench := { s.bench with stepHi := v } }
  | 0x08, 0x024 => stepCmdWrite v s
  | 0x09, 0x00C => slotSelectWrite v s
  | 0x0A, 0x008 => recoveryDoneWrite v s
  | 0x0A, 0x040 => cmpLenWrite false v s
  | 0x0A, 0x044 => cmpLenWrite true v s
  | 0x0A, 0x048 => doorbellWrite go v s
  | 0x0C, 0x018 => panelUserWrite v s
  | 0x0C, 0x020 => dcSelectWrite v s
  | 0x0E, 0x040 => devSelectWrite v s
  | 0x02, o => stored (counterWrite 0x02 o v s)
  | 0x0A, o => stored (counterWrite 0x0A o v s)
  | 0x06, o => match queueAt o with
    | none => stored s
    | some q => if (o - 0x1000) % 0x40 = 0 then queuePush r q v s
      else if (o - 0x1000) % 0x40 = 8 then queueCtrl q v s else stored s
  | 0x07, o => match dmaAt o with
    | none => stored s
    | some c => match (o - 0x100) % 0x40 with
      | 0x00 => dmaRingWrite c v s
      | 0x04 => dmaSizeWrite c v s
      | 0x0C => dmaTailWrite c v s
      | 0x10 => dmaCtrlWrite c v s
      | _ => stored s
  | b, o =>
    if b = 4 ∨ b = 5 then
      (if 0xF000 ≤ o ∧ o < 0xF080 then
         stored { s with mbox := { s.mbox with msixTable := tabPut s.mbox.msixTable (65536 * (b - 4) + o) v } }
       else match channelAt b o with
         | some c => channelWrite r c (o % 0x100) v s
         | none => stored s)
    else stored s

/-- Registers that only certain requesters may write, whatever the value (14 R326, 16 R375). -/
def ownedWrite (r : Requester) (b off : Nat) (v : U32) (s : State) : Option Wrote :=
  if b = 1 ∧ (off = 0x00C ∨ off = 0x010) then some (clkEnableWrite r (off == 0x010) v s)
  else if b = 9 ∧ 0x020 ≤ off ∧ off ≤ 0x03C then some (keyDataWrite r ((off - 0x020) / 4) v s)
  else if b = 9 ∧ off = 0x040 then some (keyCmdWrite r v s)
  else none

/-- A write that reaches its register: rejected whole with OC_RESERVED_SET where it sets a reserved bit, else its effect (00 R8). -/
def regWrote (r : Requester) (go : State → State) (b off : Nat) (v : U32) (s : State) : Wrote :=
  match ownedWrite r b off v s with
  | some w => w
  | none => if v &&& reservedBits b off ≠ 0 then (s, OC_RESERVED_SET) else regEffect r go b off v s

/-- The outcome of a completed write: LAST_OUTCOME of its block, and a record where it is of the security class (00 R10, R11, 16 R375). -/
def completed (r : Requester) (b : Nat) (w : Wrote) : State :=
  let s := setOutcome b w.2 w.1
  if ocClass w.2 = 5 then record b w.2 [stampOf r] s else s

/-- A write of `v` at `addr` by `r`, wherever it ends; `f` is what it does at its register. -/
def writeAt (r : Requester) (addr : U32) (f : State → Wrote) (s : State) : State :=
  let k := reach r addr 4 s
  if k = .register then completed r (blockOf addr) (f s) else accessEnds r addr k s

/-- A write of a register. -/
def busWrite (r : Requester) (addr v : U32) (s : State) : State :=
  writeAt r addr (regWrote r id (blockOf addr) (offsetOf addr) v) s

/-- The byte address of offset `off` of block `b`. -/
def regAddr (b off : Nat) : U32 := u32 (65536 * b + off)

/-- The byte address of offset `o` of mailbox channel `c`: channels 0 to 31 stand in the non-secure block, 32 to 39 in the secure one
(17 Table 17.3). -/
def chAddr (c o : Nat) : U32 := if c < 32 then regAddr 0x04 (0x1000 + 0x100 * c + o) else regAddr 0x05 (0x1000 + 0x100 * (c - 32) + o)

/-- An access that ends in the way `k`; an access that ends in another way, or reaches its register, has a command of its own. -/
def endsAs (k : Reach) (r : Requester) (addr : U32) (bytes : Nat) (s : State) : State :=
  if reach r addr bytes s = k then accessEnds r addr k s else s

/-- A read of a low half: the word is returned and `latch` latches the high half (01 R32). -/
def latchRead (r : Requester) (b off : Nat) (latch : State → State) (s : State) : State :=
  access r (regAddr b off) (fun s => (latch s, regValue r s b off)) s

end Sys2Proof.Machine
end

