-- ==== Sys2Proof/Machine/Services.lean ====
section
/-! DEFINITION. The mailbox services (17 R387 to R389, Table 17.6). -/

namespace Sys2Proof.Machine

/-- SERVICE of a message (17 R388). -/
def serviceOf (x : Channel) : Nat := (tabGet x.msg 0 0).toNat % 65536

/-- The services of 17 Table 17.6. -/
def servicesDefined : List Nat := [0x0001, 0x0002, 0x0003, 0x0010, 0x0020]

/-- Does the device-side party take messages (17 R388)? -/
def servesMail (s : State) : Bool := s.glob.state == .starting || serving s

/-- The device-side party takes the message of inbound channel `c`, where its SERVICE is one of `want`, and `f` handles it (17 R388). -/
def takeMail (want : Nat → Bool) (c : Nat) (f : Channel → State → State) (s : State) : State :=
  let x := chOf s c
  if !servesMail s || chOutbound c || decide (40 ≤ c) || !chHolds x || !want (serviceOf x) then s
  else f x (setCh c { x with state := .taken } s)

/-- A service other than PING and STATUS acknowledges OC_SENDER_RESET where its sender is stale (17 R387). -/
def freshMail (c : Nat) (x : Channel) (f : State → State) (s : State) : State :=
  if x.senderStale then mboxAck c OC_SENDER_RESET s else f s

/-- The response to a message: the same SERVICE and REQUEST_ID, and a payload (17 R388). -/
def respond (c : Nat) (x : Channel) (payload : List U32) (s : State) : State :=
  postResponse (chSecure c) ((0, u32 (serviceOf x)) :: (1, tabGet x.msg 1 0) :: payload.zipIdx.map (fun e => (e.2 + 2, e.1))) s

/-- Bytes that the companion wrote through BAR2 before this command (17 R378, R379): they are visible once it acts. -/
def posted (ws : List (Nat × List U8)) (s : State) : State := forEach ws (fun w s => emit (.cmpWrite w.1 w.2) s) s

/-- Bytes that the companion wrote through BAR4 before this command (17 R378, R379). -/
def postedStage (ws : List (Nat × List U8)) (s : State) : State := forEach ws (fun w s => emit (.stageWrite w.1 w.2) s) s

/-- MBOX_PING. -/
def mboxPing (c : Nat) (s : State) : State := takeMail (· == 0x0001) c (fun _ s => mboxAck c OC_OK s) s

/-- MBOX_STATUS: eight status registers in the response. -/
def mboxStatus (c : Nat) (s : State) : State := takeMail (· == 0x0002) c (fun x s =>
  respond c x [deviceStatus s, loI s.epoch.current, hiI s.epoch.current, lifecycleView s, twinStatus s, updStatus s, archStatus s, traverseStatus s]
    (mboxAck c OC_OK s)) s

/-- The eight words of NONCE as a number, its first byte most significant. -/
def mailNonce (x : Channel) : Nat :=
  ((List.range 8).flatMap (fun k => leBytes 4 (tabGet x.msg (k + 2) 0).toNat)).foldl (fun a b => a * 256 + b.toNat) 0

/-- MBOX_QUOTE (14 R336): the quote and its signature are written at OFFSET of the companion area. -/
def mboxQuote (c : Nat) (s : State) : State := takeMail (· == 0x0003) c (fun x => freshMail c x (fun s =>
  let off := (tabGet x.msg 10 0).toNat
  if 268435456 < off + 5924 then mboxAck c OC_RANGE s
  else match quote (mailNonce x) none s with
    | none => mboxAck c OC_LMS_RESERVE s
    | some (l, s) => respond c x [5924] (mboxAck c OC_OK (emit (.cmpWrite off l) s)))) s

/-- MBOX_EVENT_FEED (17 Table 17.6): ENABLE other than 0 and 1 is out of range. -/
def mboxEventFeed (c : Nat) (s : State) : State := takeMail (· == 0x0020) c (fun x => freshMail c x (fun s =>
  let v := (tabGet x.msg 2 0).toNat % 256
  if chSecure c then mboxAck c OC_AUTH s
  else if 1 < v then mboxAck c OC_RANGE s
  else mboxAck c OC_OK { s with fb := { s.fb with feed := v == 1 } })) s

/-- MBOX_UNDEFINED_SERVICE. -/
def mboxUndefined (c : Nat) (s : State) : State := takeMail (fun n => !servicesDefined.contains n) c (fun x =>
  freshMail c x (mboxAck c OC_CMP_SERVICE)) s

/-- Is the mailbox path for keys open (14 R327)? -/
def mailKeysOpen (s : State) : Bool := s.keys.state != 3 || cadNum s 0x0804 0 == 1

/-- A KEYLOAD's refusal as a standby, or before ingest, as the equivalent order's (12 R285). -/
def mailLate (s : State) : Option U16 :=
  if standby s then some OC_HX_NOT_ACTIVE else if !s.glob.ingest then some OC_BUSY else none

/-- A LOAD or ERASE from the mailbox, journalled with SOURCE 1 (14 R329). -/
def mailKey (c : Nat) (erase : Bool) (b : KeyloadBody) (s : State) : State :=
  let r := (mailLate s).getD (keyCheck true erase 0 b s)
  if r ≠ OC_OK then mboxAck c r s
  else match keyAccept true erase {} b { channel := some c } s with
    | (some _, s) => mboxAck c OC_OK s
    | (none, s) => s

/-- MAINTENANCE entered or left from the mailbox (14 R321). -/
def mailMaintenance (c : Nat) (on : Bool) (s : State) : State :=
  let r := (mailLate s).getD (maintCheck on s)
  if r ≠ OC_OK then mboxAck c r s
  else mboxAck c OC_OK (maintApply on (commitSized (cborMap [cborInt (if on then 2 else 3)]) none 0 (.order 7 1 0 0 0 [if on then 2 else 3]) s))

/-- CHANGE_STATE from the mailbox (14 R318, R320). -/
def mailChange (c new : Nat) (carry : List WrappedKey) (s : State) : State :=
  let r := changeCheck true 0 new carry s
  if r ≠ OC_OK then mboxAck c r s else mboxAck c OC_OK (changeAccept true 0 new carry s).2

/-- What the map of a mailbox KEYLOAD orders (14 R327, Table 14.7): CLEAR stands in place of WRAPPED. -/
inductive MailKeyload
  | malformed
  | undefinedKey
  | load (b : KeyloadBody)
  | erase (b : KeyloadBody)
  | maintenance (on : Bool)
  | change (newState : Nat) (carry : List WrappedKey)
  /-- an ACTION that is none of the five -/
  | outside
deriving DecidableEq, Repr, Inhabited

/-- The map that bytes of the staging buffer spell (17 R389). -/
def mailRead (l : List U8) : MailKeyload := match cborMapOf l with
  | none => .malformed
  | some m =>
    if !keysKnown [1, 2, 3, 4, 5, 6, 7, 9, 10, 11] m then .undefinedKey
    else match natKey m 1 with
      | none => .malformed
      | some 0 => ((keyloadRead 11 m).map MailKeyload.load).getD .malformed
      | some 1 => ((keyloadRead 11 m).map MailKeyload.erase).getD .malformed
      | some 2 => .maintenance true
      | some 3 => .maintenance false
      | some 4 => ((changeRead m).map (fun x => MailKeyload.change x.1 x.2)).getD .malformed
      | some _ => .outside

/-- MBOX_KEYLOAD (14 R327 to R329, 17 R389): the LENGTH bytes at OFFSET of the staging buffer, with what was posted before the command. -/
def mboxKeyload (c : Nat) (ws : List (Nat × List U8)) (s : State) : State :=
  takeMail (· == 0x0010) c (fun x => freshMail c x (fun s =>
    let off := (tabGet x.msg 2 0).toNat
    let len := (tabGet x.msg 3 0).toNat
    if !chSecure c then mboxAck c OC_AUTH s
    else if 65536 < off + len then mboxAck c OC_RANGE s
    else if !mailKeysOpen s then mboxAck c OC_LIFECYCLE s
    else match mailRead (memReadBytes (commitStage s.stage s.out) off len) with
      | .malformed => mboxAck c OC_HX_FORMAT s
      | .undefinedKey => mboxAck c OC_UNKNOWN_TAG s
      | .outside => mboxAck c OC_RANGE s
      | .load b => mailKey c false b s
      | .erase b => mailKey c true b s
      | .maintenance on => mailMaintenance c on s
      | .change n carry => mailChange c n carry s)) (postedStage ws s)

end Sys2Proof.Machine
end

