-- ==== Sys2Proof/Machine/CmdBus.lean ====
section
/-! DEFINITION. The commands of the register space (chapters 00 to 02, 06, 12 to 17): one meaning per command. -/

namespace Sys2Proof.Machine

/-- REG_WRITE. A write to a register with no row of its own stores its fields or is rejected whole, and sets LAST_OUTCOME. (00 R8) -/
def execRegWrite (r : Requester) (addr : U32) (v : U32) (s : State) : Host.Outcome State Fault Refusal := done (busWrite r addr v) s

/-- UNMAPPED_ACCESS. An access outside every register block ends in a bus error and a field book record under OC_FAULT. (01 R29) -/
def execUnmappedAccess (r : Requester) (addr : U32) (bytes : Nat) (s : State) : Host.Outcome State Fault Refusal :=
  done (endsAs .unmapped r addr bytes) s

/-- SECURE_ACCESS_DENIED. A non-secure request to a secure-only block ends in a bus error and an OC_AUTH record. (01 R30) -/
def execSecureAccessDenied (r : Requester) (addr : U32) (bytes : Nat) (s : State) : Host.Outcome State Fault Refusal :=
  done (endsAs .secure r addr bytes) s

/-- MISALIGNED_ACCESS. An unaligned or partial-word access ends in a bus error with no LAST_OUTCOME change. (00 R453) -/
def execMisalignedAccess (r : Requester) (addr : U32) (bytes : Nat) (s : State) : Host.Outcome State Fault Refusal :=
  done (endsAs .misaligned r addr bytes) s

/-- GATED_BLOCK_ACCESS. An access to a block whose clock is gated ends in a bus error and an OC_CLK_GATED record. (16 R375) -/
def execGatedBlockAccess (r : Requester) (addr : U32) (bytes : Nat) (s : State) : Host.Outcome State Fault Refusal :=
  done (endsAs .gated r addr bytes) s

/-- CLK_ENABLE_WRITE. A write to CLK_ENABLE0 or CLK_ENABLE1 gates or ungates blocks, and a companion write is refused with OC_AUTH. (16 R375) -/
def execClkEnableWrite (r : Requester) (second : Bool) (v : U32) (s : State) : Host.Outcome State Fault Refusal :=
  done (busWrite r (regAddr 0x01 (if second then 0x010 else 0x00C)) v) s

/-- EPOCH_LO_READ. A read of EPOCH_LO returns the low epoch bits and latches EPOCH_HI. (01 R32) -/
def execEpochLoRead (r : Requester) (s : State) : Host.Outcome State Fault Refusal :=
  done (latchRead r 0x00 0x010 (fun s => { s with glob := { s.glob with epochHi := hiI s.epoch.current } })) s

/-- JSN_LO_READ. A read of JSN_LO returns the low JSN bits and latches JSN_HI. (04 R113) -/
def execJsnLoRead (r : Requester) (s : State) : Host.Outcome State Fault Refusal :=
  done (latchRead r 0x10 0x040 (fun s => { s with trav := { s.trav with jsnHi := hi32 s.jrn.lastJsn } })) s

/-- BILLING_TIME_LO_READ. A read of BILLING_TIME_LO returns the low bits and latches BILLING_TIME_HI. (06 R159) -/
def execBillingTimeLoRead (r : Requester) (s : State) : Host.Outcome State Fault Refusal :=
  done (latchRead r 0x10 0x300 (fun s => { s with billing := { s.billing with timeHi := hi32 s.billing.time } })) s

/-- ACK_LO_READ. A read of ACK_LO returns the low acknowledged-epoch bits and latches ACK_HI. (12 R294) -/
def execAckLoRead (r : Requester) (s : State) : Host.Outcome State Fault Refusal :=
  done (latchRead r 0x10 0x540 (fun s => { s with hx := { s.hx with ackHi := hiI (ackValue s) } })) s

/-- ACTIVATE_AT_LO_READ. A read of ACTIVATE_AT_LO returns the low bits of the pending activation and latches ACTIVATE_AT_HI. (13 R313) -/
def execActivateAtLoRead (r : Requester) (s : State) : Host.Outcome State Fault Refusal :=
  done (latchRead r 0x0A 0x010 (fun s => { s with upd := { s.upd with activateHi := hi32 ((s.upd.schedule.map (·.2)).getD 0) } })) s

/-- COMPARED_LO_READ. A read of COMPARED_LO returns the low bits of the last compared epoch and latches COMPARED_HI. (15 R354) -/
def execComparedLoRead (r : Requester) (s : State) : Host.Outcome State Fault Refusal :=
  done (latchRead r 0x0B 0x02C (fun s => { s with twin := { s.twin with comparedHi := hiI s.twin.compared } })) s

/-- LMS_Q_LO_READ. A read of LMS_Q_LO returns the low bits of the next leaf and latches LMS_Q_HI. (14 R337) -/
def execLmsQLoRead (r : Requester) (s : State) : Host.Outcome State Fault Refusal :=
  done (latchRead r 0x09 0x044 (fun s => { s with keys := { s.keys with qHi := hi32 s.keys.q } })) s

/-- RESERVED_LO_READ. A read of RESERVED_LO returns the low bits of the reserved end and latches RESERVED_HI. (14 R337) -/
def execReservedLoRead (r : Requester) (s : State) : Host.Outcome State Fault Refusal :=
  done (latchRead r 0x09 0x04C (fun s => { s with keys := { s.keys with reservedHi := hi32 s.keys.reservedEnd } })) s

/-- DEVICE_TIME_LO_READ. A read of DEVICE_TIME_LO returns the low bits of device time and latches DEVICE_TIME_HI. (16 R376) -/
def execDeviceTimeLoRead (r : Requester) (s : State) : Host.Outcome State Fault Refusal :=
  done (latchRead r 0x08 0x028 (fun s => { s with bench := { s.bench with timeHi := hi32 (devTime s) } })) s

/-- BM_INT_READ. A read of BM_INT returns the integer ns of the counter and latches BM_FRAC. (16 R376) -/
def execBmIntRead (r : Requester) (s : State) : Host.Outcome State Fault Refusal :=
  done (latchRead r 0x08 0x00C (fun s => { s with bench := { s.bench with fracLatch := s.bench.bm.setWidth 32 } })) s

/-- FB_OLDEST_LO_READ. A read of FB_OLDEST_LO returns the low bits of the oldest SEQ and latches FB_OLDEST_HI. (18 R416) -/
def execFbOldestLoRead (r : Requester) (s : State) : Host.Outcome State Fault Refusal :=
  done (latchRead r 0x03 0x018 (fun s => { s with fb := { s.fb with oldestHi := hi32 (ringOldest s.fb) } })) s

/-- FB_NEWEST_LO_READ. A read of FB_NEWEST_LO returns the low bits of the newest SEQ and latches FB_NEWEST_HI. (18 R416) -/
def execFbNewestLoRead (r : Requester) (s : State) : Host.Outcome State Fault Refusal :=
  done (latchRead r 0x03 0x020 (fun s => { s with fb := { s.fb with newestHi := hi32 (ringNewest s.fb) } })) s

/-- FB_CURSOR_LO_READ. A read of FB_CURSOR_LO returns the low cursor bits and latches FB_CURSOR_HI. (18 R416) -/
def execFbCursorLoRead (r : Requester) (s : State) : Host.Outcome State Fault Refusal :=
  done (latchRead r 0x03 0x010 (fun s => { s with fb := { s.fb with cursorHi := hi32 s.fb.cursor } })) s

/-- FB_CURSOR_WRITE. A write of FB_CURSOR_LO moves the field book cursor, together with FB_CURSOR_HI. (18 R416) -/
def execFbCursorWrite (r : Requester) (v : U32) (s : State) : Host.Outcome State Fault Refusal := done (busWrite r (regAddr 0x03 0x010) v) s

/-- FB_SELECT_WRITE. A write of FB_SELECT selects the device field book or a block field book, and a value naming no block is refused. (18 R416) -/
def execFbSelectWrite (r : Requester) (v : U32) (s : State) : Host.Outcome State Fault Refusal := done (busWrite r (regAddr 0x03 0x00C) v) s

/-- FB_NEXT. The FB_CMD NEXT command moves the cursor to the next record present. (18 R416) -/
def execFbNext (r : Requester) (s : State) : Host.Outcome State Fault Refusal := done (busWrite r (regAddr 0x03 0x028) 1) s

/-- FB_SEEK_OLDEST. The FB_CMD SEEK_OLDEST command moves the cursor to the oldest record. (18 R416) -/
def execFbSeekOldest (r : Requester) (s : State) : Host.Outcome State Fault Refusal := done (busWrite r (regAddr 0x03 0x028) 8) s

/-- FB_FREEZE. The FB_CMD FREEZE command stops the device field book ring from changing, owned by the requester. (18 R417) -/
def execFbFreeze (r : Requester) (s : State) : Host.Outcome State Fault Refusal := done (busWrite r (regAddr 0x03 0x028) 2) s

/-- FB_THAW. The FB_CMD THAW command by the owner ends the freeze, moves held records into the ring and writes any OVERRUN record. (18 R417) -/
def execFbThaw (r : Requester) (s : State) : Host.Outcome State Fault Refusal := done (busWrite r (regAddr 0x03 0x028) 4) s

/-- BOOT_ATTEMPTS_CLEAR. A write of 0 to SEASON_STATUS.BOOT_ATTEMPTS clears the failed-boot count, and any other value is refused. (02 R40) -/
def execBootAttemptsClear (r : Requester) (v : U32) (s : State) : Host.Outcome State Fault Refusal :=
  done (busWrite r (regAddr 0x00 0x01C) v) s

/-- RECOVERY_DONE_CLEAR. A write of 0 to UPD_STATUS.RECOVERY_DONE clears the flag, and any other value is refused. (13 R310) -/
def execRecoveryDoneClear (r : Requester) (v : U32) (s : State) : Host.Outcome State Fault Refusal :=
  done (busWrite r (regAddr 0x0A 0x008) v) s

/-- BM_INCR_WRITE. A write of BM_INCR_INT sets the Benchmark increment from the next tick, refused outside 3.900 to 4.100 ns. (16 R355) -/
def execBmIncrWrite (r : Requester) (v : U32) (s : State) : Host.Outcome State Fault Refusal := done (busWrite r (regAddr 0x08 0x018) v) s

/-- BM_STEP_GO. A write of BM_STEP_CMD.GO requests a step of device time by the written delta. (16 R357) -/
def execBmStepGo (r : Requester) (s : State) : Host.Outcome State Fault Refusal := done (busWrite r (regAddr 0x08 0x024) 1) s

/-- TSQ_POP_READ. A read of TSQ_POP removes and returns the oldest time-stamp queue entry. (16 R365) -/
def execTsqPopRead (r : Requester) (s : State) : Host.Outcome State Fault Refusal := done (access r (regAddr 0x40 0x00C) tsqPop) s

/-- KEY_DATA_WRITE. A write of KEY_DATA by the warden pair stores key words, and a write by any other requester is refused with OC_AUTH. (14 R326) -/
def execKeyDataWrite (r : Requester) (k : Fin 8) (v : U32) (s : State) : Host.Outcome State Fault Refusal :=
  done (busWrite r (regAddr 0x09 (0x020 + 4 * k.val)) v) s

/-- KEY_CMD_LOAD. The KEY_CMD LOAD command atomically loads a vault slot and writes the vault section. (14 R326) -/
def execKeyCmdLoad (r : Requester) (slot : U8) (s : State) : Host.Outcome State Fault Refusal :=
  done (busWrite r (regAddr 0x09 0x040) (u32 (256 * slot.toNat + 1))) s

/-- KEY_CMD_ERASE. The KEY_CMD ERASE command atomically erases a vault slot and writes the vault section. (14 R326) -/
def execKeyCmdErase (r : Requester) (slot : U8) (s : State) : Host.Outcome State Fault Refusal :=
  done (busWrite r (regAddr 0x09 0x040) (u32 (256 * slot.toNat + 2))) s

/-- CMP_DOORBELL_GO. A write of CMP_DOORBELL.GO makes the device take the companion manifest and cadastre images from BAR2. (13 R312) -/
def execCmpDoorbellGo (r : Requester) (ws : List (Nat × List U8)) (signerOk partOk imgOk : Bool) (x : Machine.StartInfo) (s : State) : Host.Outcome State Fault Refusal :=
  run (fun s => writeAt r (regAddr 0x0A 0x048) (regWrote r (companionGo signerOk partOk imgOk x) 0x0A 0x048 1) (posted ws s)) s

/-- CH_LOCK_READ. A read of CH_LOCK on an EMPTY channel locks it to the reader, and otherwise returns the owner's stamp. (17 R383) -/
def execChLockRead (r : Requester) (c : Fin 40) (s : State) : Host.Outcome State Fault Refusal :=
  done (access r (chAddr c.val 0x00) (chLockRead r c.val)) s

/-- CH_MSG_WRITE. The channel owner writes message words, and a write by anyone else is refused with OC_CMP_NOT_OWNER. (17 R383) -/
def execChMsgWrite (r : Requester) (c : Fin 40) (k : Fin 16) (v : U32) (s : State) : Host.Outcome State Fault Refusal :=
  done (busWrite r (chAddr c.val (0x40 + 4 * k.val)) v) s

/-- CH_DOORBELL_POST. The owner posts its message, moving the channel from LOCKED to POSTED and recording the stamp. (17 R383) -/
def execChDoorbellPost (r : Requester) (c : Fin 40) (s : State) : Host.Outcome State Fault Refusal :=
  done (busWrite r (chAddr c.val 0x0C) 1) s

/-- CH_STAMP_TAKE. A read of CH_STAMP by the receiving side in POSTED returns the stamp and moves the channel to TAKEN. (17 R383) -/
def execChStampTake (r : Requester) (c : Fin 40) (s : State) : Host.Outcome State Fault Refusal :=
  done (access r (chAddr c.val 0x10) (chTake r c.val)) s

/-- CH_ACK_WRITE. A write of an outcome to CH_ACK in TAKEN moves the channel to ACKED and raises the acknowledgement vector. (17 R383) -/
def execChAckWrite (r : Requester) (c : Fin 40) (v : U32) (s : State) : Host.Outcome State Fault Refusal :=
  done (busWrite r (chAddr c.val 0x18) v) s

/-- CH_RELEASE_DONE. The owner's write of CH_RELEASE.DONE returns the channel to EMPTY unless it is POSTED or TAKEN. (17 R383) -/
def execChReleaseDone (r : Requester) (c : Fin 40) (s : State) : Host.Outcome State Fault Refusal :=
  done (busWrite r (chAddr c.val 0x04) 1) s

/-- Q_DATA_PUSH. A write of Q_DATA appends one word to a queue, refused on pop-only or full control queues. (17 R391) -/
def execQDataPush (r : Requester) (q : Fin 22) (v : U32) (s : State) : Host.Outcome State Fault Refusal :=
  done (busWrite r (regAddr 0x06 (0x1000 + 0x40 * q.val)) v) s

/-- Q_DATA_POP. A read of Q_DATA removes the oldest word, or returns the idle word and sets EMPTY_LAST. (17 R391) -/
def execQDataPop (r : Requester) (q : Fin 22) (e : WordEcc) (s : State) : Host.Outcome State Fault Refusal :=
  run (access r (regAddr 0x06 (0x1000 + 0x40 * q.val)) (queuePop r q.val e)) s

/-- DMA_RING_WRITE. A write of DMA_RING or DMA_RING_SIZE sets HEAD and TAIL to 0, and is refused with OC_BUSY while RUN is set. (17 R395) -/
def execDmaRingWrite (r : Requester) (c : Fin 4) (size : Bool) (v : U32) (s : State) : Host.Outcome State Fault Refusal :=
  done (busWrite r (regAddr 0x07 (0x100 + 0x40 * c.val + (if size then 4 else 0))) v) s

/-- DMA_TAIL_WRITE. A write of DMA_TAIL makes further descriptors ready for the engine. (17 R395) -/
def execDmaTailWrite (r : Requester) (c : Fin 4) (ws : List (Nat × List U8)) (v : U32) (s : State) : Host.Outcome State Fault Refusal :=
  done (fun s => busWrite r (regAddr 0x07 (0x10C + 0x40 * c.val)) v (posted ws s)) s

/-- DMA_RUN. Setting DMA_CTRL.RUN starts or retries the engine on the channel's ring. (17 R395) -/
def execDmaRun (r : Requester) (c : Fin 4) (ws : List (Nat × List U8)) (s : State) : Host.Outcome State Fault Refusal :=
  done (fun s => busWrite r (regAddr 0x07 (0x110 + 0x40 * c.val)) 1 (posted ws s)) s

/-- DMA_DISABLE. Writing DMA_CTRL.DISABLE drops all work of the channel at once and clears RUN. (17 R399) -/
def execDmaDisable (r : Requester) (c : Fin 4) (s : State) : Host.Outcome State Fault Refusal :=
  done (busWrite r (regAddr 0x07 (0x110 + 0x40 * c.val)) 2) s

end Sys2Proof.Machine
end

