-- ==== Sys2Proof/Machine/CmdClock.lean ====
section
/-! DEFINITION. The commands of time and clocks (chapter 16): one meaning per command. -/

namespace Sys2Proof.Machine

/-- BM_STEP_APPLY. A requested step is applied at the next tick once 2 s have passed since the last step, and STEP_GEN advances. (16 R357) -/
def execBmStepApply (s : State) : Host.Outcome State Fault Refusal := run bmStepApply s

/-- ANCHOR_REFRESH. The keeper refreshes the current generation's stamp anchor at least once per second. (16 R358) -/
def execAnchorRefresh (s : State) : Host.Outcome State Fault Refusal := run anchorRefresh s

/-- PTP_SYNC. An accepted Sync updates the servo offset and lock state. (16 R366) -/
def execPtpSync (h : PtpHeader) (twoStep : Bool) (origin : Nat) (f : ServoResult) (s : State) : Host.Outcome State Fault Refusal :=
  run (ptpSync h twoStep origin f) s

/-- PTP_FOLLOW_UP. A Follow_Up completes a two-step Sync exchange. (16 R363) -/
def execPtpFollowUp (h : PtpHeader) (origin : Nat) (f : ServoResult) (s : State) : Host.Outcome State Fault Refusal :=
  run (ptpFollowUp h origin f) s

/-- PTP_DELAY_REQ. A master port answers a received Delay_Req. (16 R363) -/
def execPtpDelayReq (h : PtpHeader) (s : State) : Host.Outcome State Fault Refusal := run (ptpDelayReq h) s

/-- PTP_DELAY_RESP. A Delay_Resp completes the client's delay measurement. (16 R363) -/
def execPtpDelayResp (h : PtpHeader) (received : Nat) (s : State) : Host.Outcome State Fault Refusal := run (ptpDelayResp h received) s

/-- PTP_ANNOUNCE. An accepted Announce feeds the BMCA and may change the UTC offset. (16 R367) -/
def execPtpAnnounce (h : PtpHeader) (a : AnnounceBody) (s : State) : Host.Outcome State Fault Refusal := run (ptpAnnounce h a) s

/-- TC_FORWARD. A PTP frame of TC_DOMAIN is forwarded to the other TC ports with residence time added. (16 R364) -/
def execTcForward (h : PtpHeader) (ty : Nat) (residence : Nat) (s : State) : Host.Outcome State Fault Refusal :=
  run (tcForward h ty residence) s

/-- SYNC_LOSS_TIMEOUT. No accepted Sync for SYNC_LOSS_S loses lock and enters holdover. (16 R366) -/
def execSyncLossTimeout (s : State) : Host.Outcome State Fault Refusal := run syncLoss s

/-- HOLDOVER_LIMIT. The holdover error estimate reaching 100 ms moves time quality to TQ2. (16 R368) -/
def execHoldoverLimit (s : State) : Host.Outcome State Fault Refusal := run holdoverLimit s

/-- SUSPECT_MAX_EXPIRY. SUSPECT_MAX_H in TQ2 moves time quality to TQ3. (16 R368) -/
def execSuspectMaxExpiry (s : State) : Host.Outcome State Fault Refusal := run suspectMax s

/-- PPS_IN_EDGE. A PPS_IN edge is stamped and judged valid or not. (16 R369) -/
def execPpsInEdge (dt : Nat) (s : State) : Host.Outcome State Fault Refusal := run (ppsInEdge dt) s

/-- PPS_IN_LOSS. No PPS_IN edge arrives within 10^9 ns plus 1 ms of the last, and PPS_IN ceases to be valid. (16 R369) -/
def execPpsInLoss (s : State) : Host.Outcome State Fault Refusal := run ppsInLoss s

/-- PPS_OUT_PULSE. At each second of device time PPS_OUT rises for 100 ms while time quality is TQ0 or TQ1. (16 R369) -/
def execPpsOutPulse (s : State) : Host.Outcome State Fault Refusal := run ppsOutPulse s

/-- CLOCK_JUDGE_WINDOW. A judging window of a source ends and counts toward its pass or its limit. (16 R370) -/
def execClockJudgeWindow (k : ClockSource) (count : Nat) (s : State) : Host.Outcome State Fault Refusal := run (judgeAndJoin k count) s

/-- CLOCK_SOURCE_RETRY. A failed source is retried every 100 ms. (16 R370) -/
def execClockSourceRetry (k : ClockSource) (s : State) : Host.Outcome State Fault Refusal := run (sourceRetry k) s

/-- FIO_TRIP. The FIO monitor trips and the keeper moves to SIO. (16 R373) -/
def execFioTrip (s : State) : Host.Outcome State Fault Refusal := run fioTrip s

/-- XB_TRIP. The XB monitor trips and the always-on time counter moves to SIO. (16 R373) -/
def execXbTrip (s : State) : Host.Outcome State Fault Refusal := run xbTrip s

/-- REFCLK_TRIP. The REFCLK monitor trips, SerDes ports go down and the device enters DEGRADED. (16 R373) -/
def execRefclkTrip (s : State) : Host.Outcome State Fault Refusal := run refclkTripLink s

/-- REFCLK_YIELD_TIMEOUT. REFCLK not good within REFCLK_YIELD_MS drives TWIN_ALIVE low. (16 R373) -/
def execRefclkYieldTimeout (s : State) : Host.Outcome State Fault Refusal := run refclkYield s

/-- XA_TRIP. The XA monitor trips, and the device enters SLOW_HOLD and falls back to FIO. (16 R373) -/
def execXaTrip (s : State) : Host.Outcome State Fault Refusal := run xaTrip s

/-- PLL_UNLOCK. A PLL losing lock with a good reference raises a C4 fault. (16 R372) -/
def execPllUnlock (p : Pll) (s : State) : Host.Outcome State Fault Refusal := run (pllUnlock p) s

end Sys2Proof.Machine
end

