-- ==== Sys2Proof/Machine/CmdCompanion.lean ====
section
/-! DEFINITION. The commands of the companion port: DMA, mailbox services, function resets (chapter 17): one meaning per command. -/

namespace Sys2Proof.Machine

/-- DMA_DESCRIPTOR_DONE. The engine finishes or fails a descriptor, reads back, writes result fields, OUTCOME and DONE, and stops on failure. (17
R397) -/
def execDmaDescriptorDone (c : Fin 4) (h : HostAnswer) (s : State) : Host.Outcome State Fault Refusal := run (dmaDescriptor c.val h) s

/-- PCIE_FLR. A Function Level Reset advances that function's reset count and resets its mailbox parties. (17 R380) -/
def execPcieFlr (f : Fin 2) (s : State) : Host.Outcome State Fault Refusal := run (fnReset f.val) s

/-- PCIE_HOT_RESET. A hot reset or link down advances both counts and ends every DMA channel. (17 R380) -/
def execPcieHotReset (linkUp : Bool) (s : State) : Host.Outcome State Fault Refusal := run (pcieDown linkUp) s

/-- MBOX_PING. A PING mailbox service is acknowledged OC_OK. (17 R388) -/
def execMboxPing (c : Fin 40) (s : State) : Host.Outcome State Fault Refusal := run (mboxPing c.val) s

/-- MBOX_STATUS. A STATUS service returns the main status registers in a response. (17 R388) -/
def execMboxStatus (c : Fin 40) (s : State) : Host.Outcome State Fault Refusal := run (mboxStatus c.val) s

/-- MBOX_QUOTE. A QUOTE service writes a signed quote to the companion area. (17 R388) -/
def execMboxQuote (c : Fin 40) (s : State) : Host.Outcome State Fault Refusal := run (mboxQuote c.val) s

/-- MBOX_KEYLOAD. A secure KEYLOAD service reads its map from the staging buffer and loads keys or changes state. (17 R389) -/
def execMboxKeyload (c : Fin 40) (ws : List (Nat × List U8)) (s : State) : Host.Outcome State Fault Refusal :=
  run (mboxKeyload c.val ws) s

/-- MBOX_EVENT_FEED. An EVENT_FEED service enables or disables copying field book records to queue 4. (17 R388) -/
def execMboxEventFeed (c : Fin 40) (s : State) : Host.Outcome State Fault Refusal := run (mboxEventFeed c.val) s

/-- MBOX_UNDEFINED_SERVICE. A message naming an undefined SERVICE is acknowledged OC_CMP_SERVICE. (17 R388) -/
def execMboxUndefinedService (c : Fin 40) (s : State) : Host.Outcome State Fault Refusal := run (mboxUndefined c.val) s

/-- MBOX_OUTBOUND_WITHDRAW. An outbound message untaken for 10 s is withdrawn. (17 R390) -/
def execMboxOutboundWithdraw (c : Fin 40) (s : State) : Host.Outcome State Fault Refusal := run (outboundWithdraw c.val) s

/-- MBOX_RESPONSE_DROP. A response finding no free outbound channel for 1 s is dropped. (17 R390) -/
def execMboxResponseDrop (s : State) : Host.Outcome State Fault Refusal := run responseDrop s

/-- STREAM_CAPTURE. An enabled stream producer writes an ADC sample pair or a received radio frame into its queue. (17 R394) -/
def execStreamCapture (q : Fin 22) (x : Capture) (s : State) : Host.Outcome State Fault Refusal := run (streamCapture q.val x) s

end Sys2Proof.Machine
end

