-- ==== Sys2Proof/Machine/CmdFlash.lean ====
section
/-! DEFINITION. The commands of the archive and the flash (chapter 08): one meaning per command. -/

namespace Sys2Proof.Machine

/-- ARCHIVE_APPLY. The archive compressor applies a committed record to the parcel's staging ring. (08 R183) -/
def execArchiveApply (asn : Nat) (s : State) : Host.Outcome State Fault Refusal := run (archiveApply asn) s

/-- ARCHIVE_SWEEP_VISIT. The archive sweep visits 65,536 parcels per epoch, closing due spans and flushing verbatim records. (08 R183) -/
def execArchiveSweepVisit (s : State) : Host.Outcome State Fault Refusal := run archiveSweepVisit s

/-- CHUNK_PROGRAM_DONE. A chunk page finishes programming into its segment, sealing the segment when full. (08 R190) -/
def execChunkProgramDone (s : State) : Host.Outcome State Fault Refusal := run chunkProgramDone s

/-- SEGMENT_SEAL_TIMEOUT. A segment open for 600 s is sealed with its summary. (08 R190) -/
def execSegmentSealTimeout (s : State) : Host.Outcome State Fault Refusal := run segmentSealTimeout s

/-- NAND_READ_RETRY. A failing codeword is retried with further offset sets and queued for relocation on success. (08 R194) -/
def execNandReadRetry (area : Nat) (block : Nat) (page : Nat) (codeword : Nat) (errors : List (Option Nat)) (s : State) : Host.Outcome State Fault Refusal :=
  run (nandReadRetry area block page codeword errors) s

/-- GC_COPY_VERIFIED. A reclamation copy is read back and verified, invalidating the source, or restarts to a fresh target. (08 R197) -/
def execGcCopyVerified (ok : Bool) (s : State) : Host.Outcome State Fault Refusal := run (gcCopyVerified ok) s

/-- NAND_PROGRAM_FAIL. A program failure rewrites the page elsewhere, copies the block's valid pages and retires the block. (08 R198) -/
def execNandProgramFail (area : Nat) (block : Nat) (page : Nat) (s : State) : Host.Outcome State Fault Refusal :=
  run (nandProgramFail area block page) s

/-- NAND_ERASE_FAIL. An erase failure retires the block and records OC_NAND_ERASE_FAIL. (08 R198) -/
def execNandEraseFail (area : Nat) (block : Nat) (s : State) : Host.Outcome State Fault Refusal := run (nandEraseFail area block) s

/-- NAND_ERASE_DONE. The erase of a reclamation victim or a block completes successfully and the block joins the free blocks, which may end SQUEEZE.
(08 R195) -/
def execNandEraseDone (b : Nat) (s : State) : Host.Outcome State Fault Refusal := run (nandEraseDone b) s

/-- PARCEL_IMAGE_WRITE. The image writer writes the record of a changed parcel with its IMAGE_JSN. (08 R202) -/
def execParcelImageWrite (s : State) : Host.Outcome State Fault Refusal := run parcelImageWrite s

end Sys2Proof.Machine
end

