-- ==== Sys2Proof/Machine/CmdHx.lean ====
section
/-! DEFINITION. The commands of the Head-end Exchange (chapter 12): one meaning per command. -/

namespace Sys2Proof.Machine

/-- HX_CONNECT. A TLS 1.3 PSK handshake opens an HX session, or fails, or is closed over the session limit. (12 R270) -/
def execHxConnect (x : TlsOffer) (s : State) : Host.Outcome State Fault Refusal := run (hxConnect x) s

/-- HX_CALL_OUT. Every 30 s the device opens TCP to a CALL_OUT head end with which it holds no session. (12 R270) -/
def execHxCallOut (headend : Nat) (s : State) : Host.Outcome State Fault Refusal := run (hxCallOut headend) s

/-- HX_OPEN. An OPEN negotiates the HX version and is answered OPEN_ACK or CLOSE. (12 R272) -/
def execHxOpen (sid : Nat) (bytes : List U8) (s : State) : Host.Outcome State Fault Refusal := run (hxOpen sid bytes) s

/-- HX_OPEN_TIMEOUT. No OPEN within 10 s closes the session with OC_HX_FORMAT. (12 R272) -/
def execHxOpenTimeout (sid : Nat) (s : State) : Host.Outcome State Fault Refusal := run (hxOpenTimeout sid) s

/-- HX_SUBSCRIBE. A SUBSCRIBE starts or restarts sheet delivery from FROM, or closes with OC_HX_SHEET_GONE. (12 R280) -/
def execHxSubscribe (sid : Nat) (bytes : List U8) (s : State) : Host.Outcome State Fault Refusal := run (hxSubscribe sid bytes) s

/-- HX_SHEET_SEND. With window room, the next sheet is sent as SHEET_HEAD and SHEET_PARTs. (12 R280) -/
def execHxSheetSend (sid : Nat) (s : State) : Host.Outcome State Fault Refusal := run (hxSheetSend sid) s

/-- HX_SHEET_ACK. A SHEET_ACK advances the session's acknowledgement and the head end's ACK_THROUGH. (12 R281) -/
def execHxSheetAck (sid : Nat) (bytes : List U8) (s : State) : Host.Outcome State Fault Refusal := run (hxSheetAck sid bytes) s

/-- HX_PING. A PING from the peer is answered with PONG. (12 R273) -/
def execHxPing (sid : Nat) (bytes : List U8) (s : State) : Host.Outcome State Fault Refusal := run (hxPing sid bytes) s

/-- HX_PONG. A PONG from the peer is received on the session. (12 R273) -/
def execHxPong (sid : Nat) (bytes : List U8) (s : State) : Host.Outcome State Fault Refusal := run (hxPong sid bytes) s

/-- HX_CLOSE. A CLOSE from the head end ends the session. (12 R274) -/
def execHxClose (sid : Nat) (bytes : List U8) (s : State) : Host.Outcome State Fault Refusal := run (hxClose sid bytes) s

/-- HX_PING_TIMER. After 30 s without sending, the device sends PING. (12 R273) -/
def execHxPingTimer (sid : Nat) (s : State) : Host.Outcome State Fault Refusal := run (hxPingTimer sid) s

/-- HX_IDLE_TIMEOUT. A session receiving nothing for HX_IDLE_S is closed. (12 R273) -/
def execHxIdleTimeout (sid : Nat) (s : State) : Host.Outcome State Fault Refusal := run (hxIdleTimeout sid) s

/-- HX_REPORT_TIMER. Every REPORT_S the device sends a REPORT on each session. (12 R274) -/
def execHxReportTimer (sid : Nat) (s : State) : Host.Outcome State Fault Refusal := run (hxReportTimer sid) s

/-- HX_ORDER_UNKNOWN_KIND. An ORDER envelope that is malformed or names a reserved or device-made kind is refused with OC_HX_FORMAT, OC_UNKNOWN_TAG or
OC_SIG. (12 R286) -/
def execHxOrderUnknownKind (o : HxOrder) (s : State) : Host.Outcome State Fault Refusal := run (orderUnknownKind o) s

/-- HX_MESSAGE_MALFORMED. An HX message that is malformed, too long or of a type the head end may not send makes the device send CLOSE with
OC_HX_FORMAT and end the session. (12 R274) -/
def execHxMessageMalformed (sid : Nat) (bytes : List U8) (s : State) : Host.Outcome State Fault Refusal := run (hxMalformed sid bytes) s

end Sys2Proof.Machine
end

