-- ==== Sys2Proof/Machine/CmdOrder.lean ====
section
/-! DEFINITION. The orders of head ends: amendments, calendars, campaigns, keys, states, the twin (chapters 02, 06, 07, 12, 14, 15): one meaning per command. -/

namespace Sys2Proof.Machine

/-- AMEND. An AMEND order is checked, logged to both QSPI devices and applied by class. (02 R52) -/
def execAmend (o : HxOrder) (s : State) : Host.Outcome State Fault Refusal :=
  run (readOrder 1 readAmend (fun e a s => orderAmend e a (awaitRoom s)) o) s

/-- CALENDAR. A CALENDAR order loads, replaces or cancels a passive calendar version. (06 R143) -/
def execCalendar (o : HxOrder) (s : State) : Host.Outcome State Fault Refusal :=
  run (readOrder 2 readCalendar (fun e b s => orderCalendar e b.1 b.2.1 b.2.2 (awaitRoom s)) o) s

/-- CAMPAIGN_START. A CAMPAIGN order with ACTION 0 fixes members and starts an endpoint firmware campaign. (12 R290) -/
def execCampaignStart (o : HxOrder) (s : State) : Host.Outcome State Fault Refusal :=
  run (readOrder 3 readCampaignStart (fun e b s => orderCampaignStart e b (awaitRoom s)) o) s

/-- CAMPAIGN_CANCEL. A CAMPAIGN order with ACTION 1 cancels a running campaign. (12 R290) -/
def execCampaignCancel (o : HxOrder) (s : State) : Host.Outcome State Fault Refusal :=
  run (readOrder 3 readCampaignCancel (fun e n s => orderCampaignCancel e n (awaitRoom s)) o) s

/-- CAMPAIGN_MEMBER_START. With START passed and a parallel slot free, a WAITING member enters TRANSFER. (12 R292) -/
def execCampaignMemberStart (p : Nat) (s : State) : Host.Outcome State Fault Refusal := run (campaignMemberStart p) s

/-- CAMPAIGN_BLOCK_OUTCOME. A campaign block's downlink ends, delivering the block or resending it up to BLOCK_RETRIES. (12 R292) -/
def execCampaignBlockOutcome (s : State) : Host.Outcome State Fault Refusal := run campaignBlockOutcome s

/-- CAMPAIGN_ACTIVATE_AT. At ACTIVATE_AT, ACTIVATING members are sent the activation. (12 R292) -/
def execCampaignActivateAt (n : Nat) (s : State) : Host.Outcome State Fault Refusal := run (campaignActivateAt n) s

/-- CAMPAIGN_DEADLINE. At DEADLINE non-terminal members fail and the campaign closes. (12 R292) -/
def execCampaignDeadline (n : Nat) (s : State) : Host.Outcome State Fault Refusal := run (campaignDeadline n) s

/-- KEYLOAD_LOAD. A KEYLOAD LOAD installs a vault, parcel or cell key after its checks. (14 R329) -/
def execKeyloadLoad (o : HxOrder) (s : State) : Host.Outcome State Fault Refusal :=
  run (readOrder 7 readKeyLoad (fun e b s => orderKeyload false b.1 e b.2 (awaitRoom s)) o) s

/-- KEYLOAD_ERASE. A KEYLOAD ERASE removes a permitted vault, parcel or cell key. (14 R329) -/
def execKeyloadErase (o : HxOrder) (s : State) : Host.Outcome State Fault Refusal :=
  run (readOrder 7 readKeyErase (fun e b s => orderKeyload true 1 e b (awaitRoom s)) o) s

/-- ENTER_MAINTENANCE. ENTER_MAINTENANCE commits an ORDER entry that sets MAINTENANCE at commit. (14 R321) -/
def execEnterMaintenance (o : HxOrder) (s : State) : Host.Outcome State Fault Refusal :=
  run (readOrder 7 (readKeyPlain 2) (fun e _ s => orderMaintenance true e (awaitRoom s)) o) s

/-- LEAVE_MAINTENANCE. LEAVE_MAINTENANCE commits an ORDER entry that returns to DEPLOY at commit. (14 R321) -/
def execLeaveMaintenance (o : HxOrder) (s : State) : Host.Outcome State Fault Refusal :=
  run (readOrder 7 (readKeyPlain 3) (fun e _ s => orderMaintenance false e (awaitRoom s)) o) s

/-- CHANGE_STATE. A CHANGE_STATE request derives the incoming root, signs the handover quote and schedules the change. (14 R320) -/
def execChangeState (o : HxOrder) (s : State) : Host.Outcome State Fault Refusal :=
  run (readOrder 7 readChange (fun e b s => orderChangeState e b.1 b.2 (awaitRoom s)) o) s

/-- EXTRACT. An EXTRACT order returns named leaves with inclusion paths, seal and signature. (12 R289) -/
def execExtract (o : HxOrder) (s : State) : Host.Outcome State Fault Refusal :=
  run (readOrder 8 readExtract (fun e b s => orderExtract e b.1 b.2 (awaitRoom s)) o) s

/-- TOPOLOGY_ACCEPT. A TOPOLOGY_ACCEPT order applies an open proposal to the parcel's balance membership. (07 R176) -/
def execTopologyAccept (o : HxOrder) (s : State) : Host.Outcome State Fault Refusal :=
  run (readOrder 9 readTopology (fun e b s => orderTopology e b.1 b.2.1 b.2.2.1 b.2.2.2 (awaitRoom s)) o) s

/-- SNAPSHOT. A SNAPSHOT order schedules an ORDERED snapshot mark. (12 R288) -/
def execSnapshot (o : HxOrder) (s : State) : Host.Outcome State Fault Refusal :=
  run (readOrder 11 readSnapshot (fun e b s => orderSnapshot e b.1 b.2.1 b.2.2.1 b.2.2.2 (awaitRoom s)) o) s

/-- TWIN_SWITCH. TWIN_CMD SWITCH commits an entry and triggers a planned takeover. (15 R353) -/
def execTwinSwitch (o : HxOrder) (s : State) : Host.Outcome State Fault Refusal :=
  run (readOrder 10 (readTwinCmd 0) (fun e a s => orderTwin a e (awaitRoom s)) o) s

/-- TWIN_RESYNC. TWIN_CMD RESYNC makes the standby rejoin. (15 R353) -/
def execTwinResync (o : HxOrder) (s : State) : Host.Outcome State Fault Refusal :=
  run (readOrder 10 (readTwinCmd 1) (fun e a s => orderTwin a e (awaitRoom s)) o) s

/-- TWIN_DETACH. TWIN_CMD DETACH stops shadowing until a RESYNC. (15 R353) -/
def execTwinDetach (o : HxOrder) (s : State) : Host.Outcome State Fault Refusal :=
  run (readOrder 10 (readTwinCmd 2) (fun e a s => orderTwin a e (awaitRoom s)) o) s

/-- TWIN_CMD_STATUS. TWIN_CMD STATUS answers with the twin status, peer UNIT and last compared epoch. (15 R353) -/
def execTwinCmdStatus (o : HxOrder) (s : State) : Host.Outcome State Fault Refusal :=
  run (readOrder 10 (readTwinCmd 3) (fun e a s => orderTwin a e (awaitRoom s)) o) s

end Sys2Proof.Machine
end

