-- ==== Sys2Proof/Machine/CmdParcels.lean ====
section
/-! DEFINITION. The commands of parcels: enrolment, retirement, keys, the directory (chapter 03): one meaning per command. -/

namespace Sys2Proof.Machine

/-- ENROL. An ENROL order is checked, allocates an index, writes the parcel, commits and inserts the directory entry. (03 R71) -/
def execEnrol (o : HxOrder) (s : State) : Host.Outcome State Fault Refusal :=
  run (readOrder 5 readEnrol (fun e b s => orderEnrol e b (awaitRoom s)) o) s

/-- RETIRE. A RETIRE order marks the parcel retiring and joins its entry to the parcel's ordering domain. (03 R75) -/
def execRetire (o : HxOrder) (s : State) : Host.Outcome State Fault Refusal :=
  run (readOrder 6 readRetire (fun e b s => orderRetire e b.1 b.2 (awaitRoom s)) o) s

/-- RETIRE_ENTRY_COMMIT. The RETIRE entry commits after earlier domain tags, takes the snapshot and answers OC_OK. (03 R75) -/
def execRetireEntryCommit (p : Nat) (s : State) : Host.Outcome State Fault Refusal := run (fun s => domainTurn (retireEntryCommit p s)) s

/-- PARCEL_RELEASE. After boundary work of the retirement epoch completes, a RELEASE entry frees the index to the free list. (03 R76) -/
def execParcelRelease (p : Nat) (s : State) : Host.Outcome State Fault Refusal := run (parcelRelease p) s

/-- KEYLOAD_ENTRY_COMMIT. A parcel KEYLOAD entry commits in the domain, installing the key and clearing KEY_INVALID. (03 R78) -/
def execKeyloadEntryCommit (p : Nat) (s : State) : Host.Outcome State Fault Refusal := run (fun s => domainTurn (keyloadEntryCommit p s)) s

/-- PKEK_REWRAP_DONE. The background rewrap of every parcel under a new PKEK completes. (03 R59) -/
def execPkekRewrapDone (s : State) : Host.Outcome State Fault Refusal := run pkekRewrapDone s

/-- PARCEL_RESTORE_DONE. A parcel under C3 reload is restored from its image and its domain entries replayed, returning to ACTIVE. (03 R79) -/
def execParcelRestoreDone (p : Nat) (s : State) : Host.Outcome State Fault Refusal := run (parcelRestoreDone p) s

/-- BUCKET_REBUILD_DONE. A poisoned or mismatched directory bucket is rebuilt from the parcel store and waiting lookups resume. (03 R79) -/
def execBucketRebuildDone (s : State) : Host.Outcome State Fault Refusal := run bucketRebuildDone s

end Sys2Proof.Machine
end

