-- ==== Sys2Proof/Machine/CmdPlatform.lean ====
section
/-! DEFINITION. The commands of memory errors, field books, the panel and power (chapters 18 to 20): one meaning per command. -/

namespace Sys2Proof.Machine

/-- PATROL_SCRUB_READ. The patrol scrubber reads the next DRAM line, correcting or poisoning it. (18 R407) -/
def execPatrolScrubRead (x : LineRead) (s : State) : Host.Outcome State Fault Refusal := run (scrubRead x) s

/-- SCRUB_LATE. A patrol pass not complete within 2 × SCRUB_HOURS records OC_SCRUB_LATE. (18 R407) -/
def execScrubLate (s : State) : Host.Outcome State Fault Refusal := run scrubLate s

/-- FB_RECORD_CLOSE. An open block record closes after 1 s and passes to the keeper. (18 R413) -/
def execFbRecordClose (block : Nat) (s : State) : Host.Outcome State Fault Refusal := run (fbRecordClose block) s

/-- FB_FREEZE_EXPIRY. A freeze ends automatically 1 s after FREEZE, or at once when the pending buffer fills. (18 R417) -/
def execFbFreezeExpiry (s : State) : Host.Outcome State Fault Refusal := run fbFreezeExpiry s

/-- HOURS_TICK. Every 225 s the keeper advances HOURS. (18 R412) -/
def execHoursTick (s : State) : Host.Outcome State Fault Refusal := run hoursTick s

/-- PANEL_UPDATE_START. A target image differing from the shown one starts a waveform after MIN_UPDATE_S. (19 R422) -/
def execPanelUpdateStart (field : Int) (s : State) : Host.Outcome State Fault Refusal := run (panelUpdateStart field) s

/-- PANEL_WAVEFORM_DONE. A waveform's last frame ends, rails are lowered and DC book-keeping may schedule a refresh. (19 R425) -/
def execPanelWaveformDone (field : Int) (s : State) : Host.Outcome State Fault Refusal := run (panelWaveformDone field) s

/-- PANEL_RAIL_TIMEOUT. A panel rail not at 90 % within 2 ms abandons the update. (19 R421) -/
def execPanelRailTimeout (rail : Nat) (s : State) : Host.Outcome State Fault Refusal := run (panelRailTimeout rail) s

/-- PANEL_TEMP_MEASURE. Every 1 s the panel temperature and band are measured. (19 R424) -/
def execPanelTempMeasure (main : Int) (field : Int) (s : State) : Host.Outcome State Fault Refusal := run (tempMeasure main field) s

/-- PANEL_COLD_RETRY. A deferred update below −15 °C is retried every 60 s. (19 R424) -/
def execPanelColdRetry (field : Int) (s : State) : Host.Outcome State Fault Refusal := run (panelColdRetry field) s

/-- POWER_FAIL_TRIP. VIN_SENSE trips the detector, and the device enters LAST_GASP. (19 R428) -/
def execPowerFailTrip (samples : List Nat) (s : State) : Host.Outcome State Fault Refusal := run (powerFailTrip samples) s

/-- LAST_GASP_FLUSH_DONE. The journal tail flush ends, the marker is written and the fault image drawn before LG_DONE. (19 R429) -/
def execLastGaspFlushDone (pages : Nat) (field : Int) (s : State) : Host.Outcome State Fault Refusal :=
  run (lastGaspFlushDone pages field) s

/-- VIN_RETURN_RESET. VIN_SENSE above threshold for 100 ms after LG_DONE makes the keeper warm reset. (19 R430) -/
def execVinReturnReset (vin : Nat) (s : State) : Host.Outcome State Fault Refusal := run (vinReturnReset vin) s

/-- RAIL_LOW. A main rail below its minimum for 10 µs is a C4 fault, or ends the last gasp. (20 R439) -/
def execRailLow (rail : Nat) (s : State) : Host.Outcome State Fault Refusal := run (railLow rail) s

/-- TEMP_HIGH. The main die at or above 110 °C for 1 s records OC_TEMP_HIGH. (20 R449) -/
def execTempHigh (t : Int) (s : State) : Host.Outcome State Fault Refusal := run (tempHighEvent t) s

/-- TEMP_TRIP. The main die at or above 120 °C for 10 ms raises a C4 fault and holds RAIL_EN low. (20 R449) -/
def execTempTrip (t : Int) (s : State) : Host.Outcome State Fault Refusal := run (tempTrip t) s

/-- RAIL_EN_HOLD_EXPIRY. After 60 s of RAIL_EN low following a thermal trip, the warm reset proceeds. (20 R449) -/
def execRailEnHoldExpiry (s : State) : Host.Outcome State Fault Refusal := run railEnHoldExpiry s

/-- ETH_LINK_CHANGE. An Ethernet or MGMT link goes up or down, changing the panel's link segments. (19 R418) -/
def execEthLinkChange (port : Nat) (up : Bool) (s : State) : Host.Outcome State Fault Refusal := run (ethLinkChange port up) s

end Sys2Proof.Machine
end

