-- ==== Sys2Proof/Machine/CmdPlc.lean ====
section
/-! DEFINITION. The commands of the power-line ports (chapter 09): one meaning per command. -/

namespace Sys2Proof.Machine

/-- PLC_FRAME_RECEIVED. A PLC frame ends and is acknowledged, discarded or reassembled, and a complete DLMS datagram passes to admission. (09 R217) -/
def execPlcFrameReceived (n : Fin 6) (f : PlcFrame) (s : State) : Host.Outcome State Fault Refusal := run (plcFrameReceived n.val f) s

/-- PLC_REASSEMBLY_TIMEOUT. A reassembly not completed within REASSEMBLY_S is discarded. (09 R217) -/
def execPlcReassemblyTimeout (n : Fin 6) (s : State) : Host.Outcome State Fault Refusal := run (plcReassemblyTimeout n.val) s

/-- PLC_DRIVER_FAULT. PLCn_DRVFLT_N low during transmission stops the frame, inhibits transmission and may reset or retire the port. (09 R207) -/
def execPlcDriverFault (n : Fin 6) (dt : Nat) (s : State) : Host.Outcome State Fault Refusal := run (plcDriverFault n.val dt) s

/-- PLC_TX_INHIBIT_END. 1 s after a driver fault the port may transmit again. (09 R207) -/
def execPlcTxInhibitEnd (n : Fin 6) (s : State) : Host.Outcome State Fault Refusal := run (plcTxInhibitEnd n.val) s

/-- PLC_MAC_ACK_TIMEOUT. A PLC unicast receives no MAC acknowledgement in time and is retried, or ends counted in TX_NO_ACK after MAX_FRAME_RETRIES.
(09 R207) -/
def execPlcMacAckTimeout (n : Fin 6) (s : State) : Host.Outcome State Fault Refusal := run (plcMacAckTimeout n.val) s

/-- PLC_UNICAST_SEND. A unicast downlink to a PLC endpoint is sent with a fresh tone map or held for a request or route. (09 R212) -/
def execPlcUnicastSend (n : Fin 6) (s : State) : Host.Outcome State Fault Refusal := run (plcUnicastSend n.val) s

/-- TONEMAP_RESPONSE_RECEIVED. A tone-map response refreshes the neighbour entry and releases held unicasts. (09 R212) -/
def execTonemapResponseReceived (n : Fin 6) (addr : Nat) (map : Nat) (modulation : Nat) (gain : Nat) (bits : Option Nat) (s : State) : Host.Outcome State Fault Refusal :=
  run (tonemapResponse n.val addr map modulation gain bits) s

/-- TMR_WAIT_TIMEOUT. No tone-map response within TMR_WAIT_MS, and the unicast goes in ROBO. (09 R212) -/
def execTmrWaitTimeout (n : Fin 6) (s : State) : Host.Outcome State Fault Refusal := run (tmrWaitTimeout n.val) s

/-- ROUTE_REQUEST_RECEIVED. A LOADng route request addressed to the device is answered with a route reply. (09 R216) -/
def execRouteRequestReceived (n : Fin 6) (org : Nat) (hop : Nat) (hops : Nat) (cost : Nat) (toDevice : Bool) (s : State) : Host.Outcome State Fault Refusal :=
  run (routeRequestReceived n.val org hop hops cost toDevice) s

/-- ROUTE_REPLY_RECEIVED. A route reply installs a route and releases held unicasts. (09 R216) -/
def execRouteReplyReceived (n : Fin 6) (dest : Nat) (hop : Nat) (hops : Nat) (cost : Nat) (s : State) : Host.Outcome State Fault Refusal :=
  run (routeReplyReceived n.val dest hop hops cost) s

/-- RREQ_RETRY_TIMEOUT. No reply within NET_TRAVERSAL_MS retries discovery, or ends the unicast OC_PLC_NO_ROUTE. (09 R216) -/
def execRreqRetryTimeout (n : Fin 6) (s : State) : Host.Outcome State Fault Refusal := run (rreqRetryTimeout n.val) s

/-- ROUTE_EXPIRY. A route unused for ROUTE_TTL_MIN expires. (09 R216) -/
def execRouteExpiry (n : Fin 6) (s : State) : Host.Outcome State Fault Refusal := run (routeExpiry n.val) s

/-- PLC_JOIN. An LBP EAP-PSK join is authenticated and answered with the GMK and a short address, or refused. (09 R213) -/
def execPlcJoin (n : Fin 6) (eui : U64) (psk : Nat) (s : State) : Host.Outcome State Fault Refusal := run (plcJoin n.val eui psk) s

/-- JOIN_IDLE_EXPIRY. An endpoint silent for JOIN_IDLE_H is removed from the join table. (09 R214) -/
def execJoinIdleExpiry (n : Fin 6) (s : State) : Host.Outcome State Fault Refusal := run (joinIdleExpiry n.val) s

/-- GMK_RECEIPT_CONFIRMED. An endpoint confirms receipt of the new GMK, activating it when all have confirmed. (09 R215) -/
def execGmkReceiptConfirmed (n : Fin 6) (addr : Nat) (s : State) : Host.Outcome State Fault Refusal := run (gmkReceipt n.val addr) s

/-- GMK_REKEY_ACTIVATE. 24 h after the order the new GMK is activated regardless of confirmations. (09 R215) -/
def execGmkRekeyActivate (n : Fin 6) (s : State) : Host.Outcome State Fault Refusal := run (gmkRekeyActivate n.val) s

/-- ZC_EDGE. A rising zero-crossing edge is stamped, accepted or ignored, and updates the period and ZC_VALID. (09 R220) -/
def execZcEdge (k : Fin 6) (dt : Nat) (s : State) : Host.Outcome State Fault Refusal := run (zcEdge k.val dt) s

/-- ZC_LOSS_TIMEOUT. No accepted edge for 50 ms clears ZC_VALID. (09 R220) -/
def execZcLossTimeout (k : Fin 6) (s : State) : Host.Outcome State Fault Refusal := run (zcLossTimeout k.val) s

end Sys2Proof.Machine
end

