-- ==== Sys2Proof/Machine/CmdRadio.lean ====
section
/-! DEFINITION. The commands of the radio ports (chapter 10): one meaning per command. -/

namespace Sys2Proof.Machine

/-- RADIO_FRAME_RECEIVED. An RXSTAMP edge and RX_READ deliver a frame that is discarded, acknowledged and passed to admission. (10 R230) -/
def execRadioFrameReceived (n : Fin 8) (f : RadioFrame) (s : State) : Host.Outcome State Fault Refusal := run (radioFrameReceived n.val f) s

/-- RADIO_ACK_TXGO. At the scheduled TXGO the acknowledgement goes out, or is dropped as late. (10 R236) -/
def execRadioAckTxgo (n : Fin 8) (late : Bool) (s : State) : Host.Outcome State Fault Refusal := run (radioAckTxgo n.val late) s

/-- RADIO_SCRIPT_TIMEOUT. A POLL or WAIT_IRQ timeout fails the script run, repeated as C2 and escalating to port reset or retirement. (10 R232) -/
def execRadioScriptTimeout (n : Fin 8) (script : Nat) (s : State) : Host.Outcome State Fault Refusal :=
  run (radioScriptTimeout n.val script) s

/-- RADIO_ASSOCIATION_REQUEST. A SUN-FSK association request creates a table entry with a short address, or is refused at capacity. (10 R233) -/
def execRadioAssociationRequest (n : Fin 8) (addr : U64) (rxOnIdle : Bool) (ackBytes : Nat) (ago : Nat) (s : State) :
    Host.Outcome State Fault Refusal := run (radioAssociation n.val addr rxOnIdle ackBytes ago) s

/-- ENDPOINT_IDLE_EXPIRY. An endpoint silent for ENDPOINT_IDLE_H is removed from the port's table. (10 R233) -/
def execEndpointIdleExpiry (n : Fin 8) (s : State) : Host.Outcome State Fault Refusal := run (endpointIdleExpiry n.val) s

/-- RADIO_DOWNLINK_QUEUE. A downlink is queued for transmission, held as pending for a sleepy endpoint, or refused. (10 R240) -/
def execRadioDownlinkQueue (n : Fin 8) (s : State) : Host.Outcome State Fault Refusal := run (radioDownlinkQueue n.val) s

/-- RADIO_TX_START. A queued frame that fits its budget and the acknowledgement schedule starts with CSMA-CA. (10 R237) -/
def execRadioTxStart (n : Fin 8) (clear : Bool) (s : State) : Host.Outcome State Fault Refusal := run (radioTxStart n.val clear) s

/-- RADIO_ACK_TIMEOUT. A radio frame receives no link acknowledgement in time and is retried, or ends with OC_RADIO_NO_ACK after MAX_FRAME_RETRIES.
(10 R237) -/
def execRadioAckTimeout (n : Fin 8) (s : State) : Host.Outcome State Fault Refusal := run (radioAckTimeout n.val) s

/-- RADIO_TX_HOLD_EXPIRY. A frame unaffordable at TX_HOLD_S ends with OC_BUDGET. (10 R240) -/
def execRadioTxHoldExpiry (n : Fin 8) (s : State) : Host.Outcome State Fault Refusal := run (radioTxHoldExpiry n.val) s

/-- BUDGET_BUCKET_ROLL. Each second the oldest duty-cycle bucket leaves the window and used airtime falls. (10 R239) -/
def execBudgetBucketRoll (s : State) : Host.Outcome State Fault Refusal := run budgetRoll s

/-- RADIO_DATA_REQUEST. A data request from a sleepy endpoint is acknowledged with frame-pending and the oldest pending frame is sent. (10 R243) -/
def execRadioDataRequest (n : Fin 8) (k : Nat) (ackBytes : Nat) (ago : Nat) (s : State) : Host.Outcome State Fault Refusal :=
  run (radioDataRequest n.val k ackBytes ago) s

/-- PENDING_TTL_EXPIRY. A pending frame older than PENDING_TTL_S ends with OC_RADIO_PENDING_EXPIRED. (10 R242) -/
def execPendingTtlExpiry (n : Fin 8) (s : State) : Host.Outcome State Fault Refusal := run (pendingTtlExpiry n.val) s

end Sys2Proof.Machine
end

