-- ==== Sys2Proof/Machine/CmdReading.lean ====
section
/-! DEFINITION. The commands of the reading path: Traverse, the journal and the work queues (chapters 03 to 05): one meaning per command. -/

namespace Sys2Proof.Machine

/-- STAGED_FRAME_ADMIT. When a tag frees, the oldest staged frame is admitted in ASN order. (04 R84) -/
def execStagedFrameAdmit (s : State) : Host.Outcome State Fault Refusal := run stagedAdmit s

/-- HEAD_CACHE_MISS_DONE. A miss path completes with the head installed and pinned, or ends OC_PARCEL_UNKNOWN. (03 R70) -/
def execHeadCacheMissDone (id : U64) (s : State) : Host.Outcome State Fault Refusal := run (missDone id) s

/-- DOMAIN_JOIN. A tag joins its ordering domain once every lower ASN has joined or ended, and stage 3 classifies it. (04 R87) -/
def execDomainJoin (asn : Nat) (s : State) : Host.Outcome State Fault Refusal := run (fun s => domainTurn (domainJoin asn s)) s

/-- DECRYPTION_DONE. Stage 4 finishes header tests, key unwrap and authenticated decryption, or ends the tag. (03 R58) -/
def execDecryptionDone (asn : Nat) (s : State) : Host.Outcome State Fault Refusal := run (fun s => domainTurn (decryptionDone asn s)) s

/-- KEY_INVALID_COMMIT. A KEY_INVALID order entry commits in the parcel's domain, sets the flag and makes its single record. (03 R58) -/
def execKeyInvalidCommit (p : Nat) (s : State) : Host.Outcome State Fault Refusal := run (fun s => domainTurn (keyInvalidCommit p s)) s

/-- NORMALISATION_DONE. Stage 5 finishes mapping the payload into reading records, or ends the tag with a subsystem 2 code. (05 R122) -/
def execNormalisationDone (asn : Nat) (s : State) : Host.Outcome State Fault Refusal := run (fun s => domainTurn (normalisationDone asn s)) s

/-- VEE_DONE. After earlier tags of the parcel end, stage 6 validates the records and builds the confirmation. (05 R130) -/
def execVeeDone (asn : Nat) (s : State) : Host.Outcome State Fault Refusal := run (veeDone asn) s

/-- JOURNAL_COMMIT. A READY tag whose commit conditions hold is assigned a JSN, journalled and applied to the head. (04 R97) -/
def execJournalCommit (asn : Nat) (s : State) : Host.Outcome State Fault Refusal := run (fun s => domainTurn (commitJudged asn s)) s

/-- REGISTER_UPDATE. The tariff engine advances the parcel and credits each record's DELTA to its registers. (06 R147) -/
def execRegisterUpdate (asn : Nat) (s : State) : Host.Outcome State Fault Refusal := run (registerUpdate asn) s

/-- TAG_RETIRE. A committed tag whose records are in every engine queue releases its head pin and is freed. (04 R85) -/
def execTagRetire (asn : Nat) (s : State) : Host.Outcome State Fault Refusal := run (tagRetire asn) s

/-- JOURNAL_PAGE_WRITTEN. A journal page finishes writing to the reserve, shrinking the tail. (04 R99) -/
def execJournalPageWritten (s : State) : Host.Outcome State Fault Refusal := run journalPageWritten s

/-- QUEUE_PROMOTE. The oldest work item passes its urgent age and is promoted one level. (04 R108) -/
def execQueuePromote (q : Nat) (s : State) : Host.Outcome State Fault Refusal := run (queuePromote q) s

/-- QUEUE_URGENT_PREEMPT. The oldest item reaches twice its urgent age and takes one slot in 16 ahead of the reading path. (04 R108) -/
def execQueueUrgentPreempt (q : Nat) (s : State) : Host.Outcome State Fault Refusal := run (queuePreempt q) s

end Sys2Proof.Machine
end

