-- ==== Sys2Proof/Machine/CmdStart.lean ====
section
/-! DEFINITION. The commands of start-up, device states and the epoch boundary (chapters 00 to 02, 04, 14): one meaning per command. -/

namespace Sys2Proof.Machine

/-- STARTUP. PORST_N rises or a warm reset occurs, and the device runs the start-up sequence of Table 2.4. (02 R39) -/
def execStartup (x : Machine.StartInfo) (s : State) : Host.Outcome State Fault Refusal := run (startup x) s

/-- WARM_RESET. A device restart without loss of VCC_AON resets all but RWS fields and begins start-up. (00 R7) -/
def execWarmReset (s : State) : Host.Outcome State Fault Refusal := run warmReset s

/-- START_WATCHDOG_EXPIRY. The 180 s start watchdog expires before HEALTHY or DEGRADED, and the keeper issues a warm reset. (02 R40) -/
def execStartWatchdogExpiry (s : State) : Host.Outcome State Fault Refusal := run startWatchdogExpiry s

/-- HALTED_RESET_TIMER. 10 s after HALTED entered before HEALTHY, the keeper issues a warm reset counted as a failed boot. (02 R40) -/
def execHaltedResetTimer (s : State) : Host.Outcome State Fault Refusal := run haltedResetTimer s

/-- COMPANION_IMAGE_TIMEOUT. At boot source 0b10 the companion has not rung the doorbell within 60 s, and the device enters HALTED with
OC_NO_CADASTRE. (02 R39) -/
def execCompanionImageTimeout (s : State) : Host.Outcome State Fault Refusal := run companionImageTimeout s

/-- PORT_START_TIMEOUT. A port not up within START_PORT_TIMEOUT_MS is retired. (09 R208) -/
def execPortStartTimeout (s : State) : Host.Outcome State Fault Refusal := run portStartTimeout s

/-- EPOCH_BOUNDARY. At each epoch boundary the device starts the boundary work of Table 1.8 for the closing epoch. (01 R25) -/
def execEpochBoundary (load : Nat) (fail : Nat) (bad : Bool) (s : State) : Host.Outcome State Fault Refusal :=
  run (epochBoundary load fail bad) s

/-- QUIESCENT_APPLY. When the drained block is idle the new quiescent value is installed and dispatch resumes. (02 R50) -/
def execQuiescentApply (tag : Nat) (s : State) : Host.Outcome State Fault Refusal := run (quiescentApply tag) s

/-- CLUSTER_GATED. A draining cluster whose queues have moved and cores are idle is gated. (01 R28) -/
def execClusterGated (s : State) : Host.Outcome State Fault Refusal := run clusterGated s

/-- EPOCH_SEAL_COMMIT. After the tags of the epoch drain, the EPOCH_SEAL entry commits and closes the journal range and Merkle root. (04 R454) -/
def execEpochSealCommit (s : State) : Host.Outcome State Fault Refusal := run epochSealRow s

/-- SHEET_SIGN. The warden pair LMS-signs the sheet seal of the epoch. (12 R279) -/
def execSheetSign (fail : Nat) (s : State) : Host.Outcome State Fault Refusal := run (sheetSignRow fail) s

/-- DIE_LINK_TRANSFER_ERROR. A die-to-die transfer fails its CRC and is retried, and 16 failures retrain the link as C3. (01 R15) -/
def execDieLinkTransferError (again : Bool) (s : State) : Host.Outcome State Fault Refusal := run (dieLinkError again) s

/-- DIE_LINK_RETRAIN_TIMEOUT. Link retraining not complete within 1 ms raises a C4 fault. (01 R15) -/
def execDieLinkRetrainTimeout (s : State) : Host.Outcome State Fault Refusal := run dieLinkTimeout s

/-- CONTAIN_ERROR. An error of class C2 or higher is started, queued, absorbed or escalated under the containment rule. (04 R111) -/
def execContainError (x : ErrorReport) (s : State) : Host.Outcome State Fault Refusal := run (containReport x) s

/-- C4_FLUSH_DONE. The C4 flush ends, the fault is recorded with any lost JSNs, and a warm reset follows. (04 R112) -/
def execC4FlushDone (pages : Nat) (s : State) : Host.Outcome State Fault Refusal := run (c4FlushDone pages) s

/-- CONTAIN_C2_REPEAT_DONE. A C2 repeat completes or fails, and the fourth failure continues as C3. (04 R110) -/
def execContainC2RepeatDone (id : Nat) (ok : Bool) (s : State) : Host.Outcome State Fault Refusal := run (containRepeat id ok) s

/-- CONTAIN_C2_TIMEOUT. A C2 handling not complete within 1 ms continues as C3 on the owning block. (04 R110) -/
def execContainC2Timeout (id : Nat) (s : State) : Host.Outcome State Fault Refusal := run (containC2Timeout id) s

/-- CONTAIN_C3_DONE. A reset block is back in service with its work replayed, and the handling ends. (04 R110) -/
def execContainC3Done (id : Nat) (s : State) : Host.Outcome State Fault Refusal := run (containC3Done id) s

/-- CONTAIN_C3_TIMEOUT. A C3 handling not ended within 2 s continues as C4. (04 R110) -/
def execContainC3Timeout (id : Nat) (s : State) : Host.Outcome State Fault Refusal := run (containC3Timeout id) s

end Sys2Proof.Machine
end

