-- ==== Sys2Proof/Machine/CmdSteel.lean ====
section
/-! DEFINITION. The commands of Steelyard and Theodolite (chapter 07): one meaning per command. -/

namespace Sys2Proof.Machine

/-- STEELYARD_APPLY. The Steelyard engine splits a record's DELTA into interval shares and updates coverage and outage state. (07 R164) -/
def execSteelyardApply (asn : Nat) (s : State) : Host.Outcome State Fault Refusal := run (steelyardApply asn) s

/-- BALANCE_INTERVAL_CLOSE. At a seal every due balance interval is closed, judged and reported. (07 R166) -/
def execBalanceIntervalClose (s : State) : Host.Outcome State Fault Refusal := run balanceClose s

/-- THEO_PASS. At its pass instant a Theodolite pass correlates a candidate set's voltage profiles. (07 R174) -/
def execTheoPass (k : Nat) (s : State) : Host.Outcome State Fault Refusal := run (theoPass k) s

/-- THEO_PASS_APPLY. In epoch n + 64 the pass results are applied, judging each endpoint and opening or withdrawing proposals. (07 R175) -/
def execTheoPassApply (s : State) : Host.Outcome State Fault Refusal := run theoPassApply s

end Sys2Proof.Machine
end

