-- ==== Sys2Proof/Machine/CmdTwin.lean ====
section
/-! DEFINITION. The commands of the twin and the Baseline link (chapter 15): one meaning per command. -/

namespace Sys2Proof.Machine

/-- BL_HELLO. A Baseline HELLO pairs the units and derives session keys. (15 R343) -/
def execBlHello (h : Machine.BlFrame) (s : State) : Host.Outcome State Fault Refusal := run (blHello h) s

/-- BL_HEARTBEAT. A HEARTBEAT frame is received, keeping the link alive. (15 R344) -/
def execBlHeartbeat (h : Machine.BlFrame) (s : State) : Host.Outcome State Fault Refusal := run (blHeartbeat h) s

/-- BL_SHADOW. The standby receives a shadowed frame and processes it through Traverse. (15 R346) -/
def execBlShadow (h : Machine.BlFrame) (a : Arrival) (s : State) : Host.Outcome State Fault Refusal := run (blShadow h a) s

/-- BL_ENTRY. The standby receives a device-made journal entry in stream order. (15 R346) -/
def execBlEntry (h : Machine.BlFrame) (e : Machine.JEntry) (am : Option Amendment) (s : State) : Host.Outcome State Fault Refusal :=
  run (blEntry h e am) s

/-- BL_COMMIT. The standby commits or ends items with the JSNs and outcomes given. (15 R346) -/
def execBlCommit (h : Machine.BlFrame) (s : State) : Host.Outcome State Fault Refusal := run (blCommit h) s

/-- BL_DELTA_PAGE. The standby receives a journal page of the epoch and writes it to its reserve. (15 R348) -/
def execBlDeltaPage (h : Machine.BlFrame) (fail : Nat) (s : State) : Host.Outcome State Fault Refusal := run (blDeltaPage h fail) s

/-- BL_EPOCH_END. The standby compares the four digests and answers EPOCH_RESULT. (15 R348) -/
def execBlEpochEnd (h : Machine.BlFrame) (s : State) : Host.Outcome State Fault Refusal := run (blEpochEnd h) s

/-- BL_EPOCH_RESULT. The active receives the comparison result, starting a recheck on mismatch. (15 R349) -/
def execBlEpochResult (h : Machine.BlFrame) (s : State) : Host.Outcome State Fault Refusal := run (blEpochResult h) s

/-- BL_STATE_COPY. The standby installs copied port tables, buckets, ACK values, campaign data or manifest bytes. (15 R346) -/
def execBlStateCopy (h : Machine.BlFrame) (c : Machine.StateCopy) (s : State) : Host.Outcome State Fault Refusal := run (blStateCopy h c) s

/-- BL_BULK. A joining standby installs copied image records. (15 R352) -/
def execBlBulk (h : Machine.BlFrame) (records : List (Nat × Machine.Parcel × Nat)) (s : State) : Host.Outcome State Fault Refusal :=
  run (blBulk h records) s

/-- BL_BULK_DONE. The bulk copy ends, and the joiner catches up from the shadowed stream. (15 R352) -/
def execBlBulkDone (h : Machine.BlFrame) (b : Machine.BulkEnd) (s : State) : Host.Outcome State Fault Refusal := run (blBulkDone h b) s

/-- BL_KEY_SYNC. A joining standby loads the pair slots of the vault. (15 R352) -/
def execBlKeySync (h : Machine.BlFrame) (s : State) : Host.Outcome State Fault Refusal := run (blKeySync h) s

/-- BL_RECHECK. A peer's recheck verdict is received, and the pair yields, resynchronises or reports unresolved. (15 R350) -/
def execBlRecheck (h : Machine.BlFrame) (s : State) : Host.Outcome State Fault Refusal := run (blRecheck h) s

/-- BL_YIELD. The new active receives YIELD and begins admitting frames. (15 R351) -/
def execBlYield (h : Machine.BlFrame) (load : Nat) (fail : Nat) (up : List Nat) (s : State) : Host.Outcome State Fault Refusal :=
  run (blYield h load fail up) s

/-- BL_FAULT. A FAULT report with a C4 code triggers takeover. (15 R347) -/
def execBlFault (h : Machine.BlFrame) (s : State) : Host.Outcome State Fault Refusal := run (blFault h) s

/-- BL_RESERVE_REQ. The active commits an LMS_RESERVE entry for the standby's UNIT. (15 R346) -/
def execBlReserveReq (h : Machine.BlFrame) (s : State) : Host.Outcome State Fault Refusal := run (blReserveReq h) s

/-- BL_CMD. The active handles a TWIN_CMD relayed by the standby and answers CMD_ANSWER. (15 R353) -/
def execBlCmd (h : Machine.BlFrame) (s : State) : Host.Outcome State Fault Refusal := run (blCmd h) s

/-- BL_CMD_ANSWER. The standby receives the active's outcome and answers the relayed order. (15 R353) -/
def execBlCmdAnswer (h : Machine.BlFrame) (s : State) : Host.Outcome State Fault Refusal := run (blCmdAnswer h) s

/-- BL_CLOSE. A CLOSE frame ends the Baseline session. (15 R343) -/
def execBlClose (h : Machine.BlFrame) (s : State) : Host.Outcome State Fault Refusal := run (blClose h) s

/-- BL_RESERVED_FRAME. A frame of reserved type closes the session with OC_TWIN_LINK_FORMAT. (15 R344) -/
def execBlReservedFrame (h : Machine.BlFrame) (s : State) : Host.Outcome State Fault Refusal := run (blReserved h) s

/-- BL_RESEND_TIMEOUT. ACK_SEQ not advancing for 50 µs resends from the first unacknowledged frame. (15 R344) -/
def execBlResendTimeout (s : State) : Host.Outcome State Fault Refusal := run blResendTimeout s

/-- BL_HEARTBEAT_TIMER. After 100 µs without sending, the unit sends HEARTBEAT. (15 R344) -/
def execBlHeartbeatTimer (s : State) : Host.Outcome State Fault Refusal := run blHeartbeatTimer s

/-- BL_LINK_TIMEOUT. No authenticated frame for LINK_TIMEOUT_MS makes the link lost. (15 R344) -/
def execBlLinkTimeout (s : State) : Host.Outcome State Fault Refusal := run blLinkTimeout s

/-- BL_LANE_LOCK_LOSS. A lane without block lock for 1 ms is taken out of use and its frames resent. (15 R342) -/
def execBlLaneLockLoss (lane : Fin 2) (s : State) : Host.Outcome State Fault Refusal := run (laneLost lane.val) s

/-- BL_LANE_REJOIN. A lane with 100 ms of continuous lock rejoins. (15 R342) -/
def execBlLaneRejoin (lane : Fin 2) (s : State) : Host.Outcome State Fault Refusal := run (laneRejoin lane.val) s

/-- TWIN_ALIVE_TOGGLE. Every 500 µs the unit toggles TWIN_ALIVE. (15 R339) -/
def execTwinAliveToggle (s : State) : Host.Outcome State Fault Refusal := run twinAliveToggle s

/-- PEER_ALIVE_LOSS. No edge on TWIN_ALIVE_PEER for 5 ms counts the peer as lost. (15 R339) -/
def execPeerAliveLoss (s : State) : Host.Outcome State Fault Refusal := run peerAliveLoss s

/-- PEER_ALIVE_RETURN. An edge on TWIN_ALIVE_PEER after the peer was judged lost makes the peer alive again. (15 R339) -/
def execPeerAliveReturn (role : Bool) (dt : Nat) (s : State) : Host.Outcome State Fault Refusal := run (peerAliveReturn role dt) s

/-- ROLE_ARBITRATION_WAIT. After 10 ms with TWIN_ROLE high the unit keeps the role or backs off. (15 R340) -/
def execRoleArbitrationWait (role : Bool) (s : State) : Host.Outcome State Fault Refusal := run (arbitrationWait role) s

/-- ROLE_ARBITRATION_BACKOFF. After the random back-off of 10 to 100 ms a unit that lost arbitration retries it. (15 R340) -/
def execRoleArbitrationBackoff (s : State) : Host.Outcome State Fault Refusal := run arbitrationBackoff s

/-- MIRROR_HOLD_TIMEOUT. A cover not arriving within MIRROR_HOLD_MS detaches the pair. (15 R346) -/
def execMirrorHoldTimeout (s : State) : Host.Outcome State Fault Refusal := run mirrorHoldTimeout s

/-- TAKEOVER_INSTANT. At takeover instant E the yielding active stops and the new active serves. (15 R351) -/
def execTakeoverInstant (load : Nat) (fail : Nat) (bad : Bool) (up : List Nat) (s : State) : Host.Outcome State Fault Refusal :=
  run (takeoverInstant load fail bad up) s

/-- RECHECK_DONE. A recheck of a diverged epoch completes and RECHECK is sent. (15 R349) -/
def execRecheckDone (scrub : Bool) (replayed : List Nat) (s : State) : Host.Outcome State Fault Refusal :=
  run (recheckDone scrub replayed) s

/-- RECHECK_TIMEOUT. A recheck not ended within 2 × L reports FAULT with REASON bit 2. (15 R349) -/
def execRecheckTimeout (s : State) : Host.Outcome State Fault Refusal := run recheckTimeout s

end Sys2Proof.Machine
end

