-- ==== Sys2Proof/Machine/CmdUpdate.lean ====
section
/-! DEFINITION. The commands of device update, recovery and the lifecycle (chapters 13, 14): one meaning per command. -/

namespace Sys2Proof.Machine

/-- MANIFEST_BEGIN. A MANIFEST BEGIN checks the header and starts staging into the staging slot. (13 R301) -/
def execManifestBegin (o : HxOrder) (signerOk : Bool) (partner : U16 × Nat × Nat) (s : State) : Host.Outcome State Fault Refusal :=
  run (readOrder 4 (readManifest 0) (fun e b => manifestBegin e b.2.1 { bytes := b.2.2.1, signerOk := signerOk } partner) o) s

/-- MANIFEST_DATA. A MANIFEST DATA programs bytes at NEXT_OFFSET and checks completed parts. (13 R302) -/
def execManifestData (o : HxOrder) (cadOk : Bool) (partner : U16 × Nat × Nat) (s : State) : Host.Outcome State Fault Refusal :=
  run (readOrder 4 (readManifest 1) (fun e b => manifestData e
    { updateId := b.2.1, bytes := b.2.2.1, offset := b.2.2.2.1, cadOk := cadOk, partner := partner }) o) s

/-- MANIFEST_SCHEDULE. A MANIFEST SCHEDULE sets the activation instant of a staged slot. (13 R305) -/
def execManifestSchedule (o : HxOrder) (s : State) : Host.Outcome State Fault Refusal :=
  run (readOrder 4 (readManifest 2) (fun e b => manifestSchedule e b.2.1 b.2.2.2.2.1) o) s

/-- MANIFEST_CANCEL. A MANIFEST CANCEL removes a pending schedule and may empty the slot. (13 R305) -/
def execManifestCancel (o : HxOrder) (s : State) : Host.Outcome State Fault Refusal :=
  run (readOrder 4 (readManifest 3) (fun e b => manifestCancel e b.2.1 b.2.2.2.2.2) o) s

/-- MANIFEST_STATUS. A MANIFEST STATUS returns slot state and NEXT_OFFSET. (13 R303) -/
def execManifestStatus (o : HxOrder) (s : State) : Host.Outcome State Fault Refusal :=
  run (readOrder 4 (readManifest 4) (fun e b => manifestStatus e b.1) o) s

/-- STAGING_ERASE_DONE. The background erase of the staging slot completes and DATA orders waiting for it proceed. (13 R301) -/
def execStagingEraseDone (s : State) : Host.Outcome State Fault Refusal := run stagingEraseDone s

/-- STATE_CHANGE_EXECUTE. At the boundary the unit drains, blows the lifecycle fuse, zeroises the vault and warm resets. (14 R320) -/
def execStateChangeExecute (fuseOk : Bool) (s : State) : Host.Outcome State Fault Refusal := run (stateChangeExecute fuseOk) s

/-- JTAG_LIFECYCLE_TRANSITION. A JTAG request moves BLANK to MANUFACTURE, or MANUFACTURE or RMA to SCRAP. (14 R318) -/
def execJtagLifecycleTransition (new : Nat) (fuseOk : Bool) (s : State) : Host.Outcome State Fault Refusal :=
  run (jtagTransition new fuseOk) s

/-- UPDATE_ACTIVATION. At ACTIVATE_AT a single unit drains, sets the slot TRIAL, re-hashes parts and warm resets. (13 R306) -/
def execUpdateActivation (bad : Bool) (s : State) : Host.Outcome State Fault Refusal := run (updateActivation bad) s

/-- TRIAL_TIMER_EXPIRY. The 120 s trial timer expires before HEALTHY, and the keeper fails the slot and warm resets. (13 R308) -/
def execTrialTimerExpiry (s : State) : Host.Outcome State Fault Refusal := run trialTimerExpiry s

/-- TWIN_UPDATE_WAIT_TIMEOUT. A standby not resynchronised within TWIN_UPDATE_WAIT_S of A ends the schedule with OC_UPD_PARTNER. (13 R309) -/
def execTwinUpdateWaitTimeout (s : State) : Host.Outcome State Fault Refusal := run twinUpdateWaitTimeout s

/-- RECOVERY_ANNOUNCE_TIMER. In RECOVERY the device sends ANNOUNCE every 1 s until a valid host packet arrives. (13 R311) -/
def execRecoveryAnnounceTimer (s : State) : Host.Outcome State Fault Refusal := run recoveryAnnounce s

/-- RECOVERY_DATA. A recovery DATA packet is programmed at the expected offset and answered with ACK. (13 R311) -/
def execRecoveryData (path : Nat) (packet : List U8) (signerOk : Bool) (cadOk : Bool) (s : State) : Host.Outcome State Fault Refusal :=
  run (recoveryData path packet signerOk cadOk) s

/-- RECOVERY_FINISH. A FINISH verifies every part, sets the slot TRIAL and RECOVERY_DONE, and warm resets. (13 R311) -/
def execRecoveryFinish (path : Nat) (packet : List U8) (s : State) : Host.Outcome State Fault Refusal := run (recoveryFinish path packet) s

/-- RECOVERY_ABORT. An ABORT packet ends the download in progress. (13 R311) -/
def execRecoveryAbort (path : Nat) (packet : List U8) (s : State) : Host.Outcome State Fault Refusal := run (recoveryAbort path packet) s

/-- RECOVERY_SILENCE_TIMEOUT. 30 s of silence releases the download path. (13 R310) -/
def execRecoverySilenceTimeout (s : State) : Host.Outcome State Fault Refusal := run recoverySilence s

end Sys2Proof.Machine
end

