-- ==== Sys2Proof/Machine/Dispatch.lean ====
section
/-! DEFINITION. One arm per command: its meaning. -/

namespace Sys2Proof.Machine

/-- The effect of a command on everything but the queue. -/
def exec (i : Instr) (s : State) : Host.Outcome State Fault Refusal :=
  match i with
  | .regWrite r addr v => Sys2Proof.Machine.execRegWrite r addr v s
  | .unmappedAccess r addr bytes => Sys2Proof.Machine.execUnmappedAccess r addr bytes s
  | .secureAccessDenied r addr bytes => Sys2Proof.Machine.execSecureAccessDenied r addr bytes s
  | .misalignedAccess r addr bytes => Sys2Proof.Machine.execMisalignedAccess r addr bytes s
  | .gatedBlockAccess r addr bytes => Sys2Proof.Machine.execGatedBlockAccess r addr bytes s
  | .clkEnableWrite r second v => Sys2Proof.Machine.execClkEnableWrite r second v s
  | .epochLoRead r => Sys2Proof.Machine.execEpochLoRead r s
  | .jsnLoRead r => Sys2Proof.Machine.execJsnLoRead r s
  | .billingTimeLoRead r => Sys2Proof.Machine.execBillingTimeLoRead r s
  | .ackLoRead r => Sys2Proof.Machine.execAckLoRead r s
  | .activateAtLoRead r => Sys2Proof.Machine.execActivateAtLoRead r s
  | .comparedLoRead r => Sys2Proof.Machine.execComparedLoRead r s
  | .lmsQLoRead r => Sys2Proof.Machine.execLmsQLoRead r s
  | .reservedLoRead r => Sys2Proof.Machine.execReservedLoRead r s
  | .deviceTimeLoRead r => Sys2Proof.Machine.execDeviceTimeLoRead r s
  | .bmIntRead r => Sys2Proof.Machine.execBmIntRead r s
  | .fbOldestLoRead r => Sys2Proof.Machine.execFbOldestLoRead r s
  | .fbNewestLoRead r => Sys2Proof.Machine.execFbNewestLoRead r s
  | .fbCursorLoRead r => Sys2Proof.Machine.execFbCursorLoRead r s
  | .fbCursorWrite r v => Sys2Proof.Machine.execFbCursorWrite r v s
  | .fbSelectWrite r v => Sys2Proof.Machine.execFbSelectWrite r v s
  | .fbNext r => Sys2Proof.Machine.execFbNext r s
  | .fbSeekOldest r => Sys2Proof.Machine.execFbSeekOldest r s
  | .fbFreeze r => Sys2Proof.Machine.execFbFreeze r s
  | .fbThaw r => Sys2Proof.Machine.execFbThaw r s
  | .bootAttemptsClear r v => Sys2Proof.Machine.execBootAttemptsClear r v s
  | .recoveryDoneClear r v => Sys2Proof.Machine.execRecoveryDoneClear r v s
  | .bmIncrWrite r v => Sys2Proof.Machine.execBmIncrWrite r v s
  | .bmStepGo r => Sys2Proof.Machine.execBmStepGo r s
  | .tsqPopRead r => Sys2Proof.Machine.execTsqPopRead r s
  | .keyDataWrite r k v => Sys2Proof.Machine.execKeyDataWrite r k v s
  | .keyCmdLoad r slot => Sys2Proof.Machine.execKeyCmdLoad r slot s
  | .keyCmdErase r slot => Sys2Proof.Machine.execKeyCmdErase r slot s
  | .cmpDoorbellGo r ws signerOk partOk imgOk x => Sys2Proof.Machine.execCmpDoorbellGo r ws signerOk partOk imgOk x s
  | .chLockRead r c => Sys2Proof.Machine.execChLockRead r c s
  | .chMsgWrite r c k v => Sys2Proof.Machine.execChMsgWrite r c k v s
  | .chDoorbellPost r c => Sys2Proof.Machine.execChDoorbellPost r c s
  | .chStampTake r c => Sys2Proof.Machine.execChStampTake r c s
  | .chAckWrite r c v => Sys2Proof.Machine.execChAckWrite r c v s
  | .chReleaseDone r c => Sys2Proof.Machine.execChReleaseDone r c s
  | .qDataPush r q v => Sys2Proof.Machine.execQDataPush r q v s
  | .qDataPop r q e => Sys2Proof.Machine.execQDataPop r q e s
  | .dmaRingWrite r c size v => Sys2Proof.Machine.execDmaRingWrite r c size v s
  | .dmaTailWrite r c ws v => Sys2Proof.Machine.execDmaTailWrite r c ws v s
  | .dmaRun r c ws => Sys2Proof.Machine.execDmaRun r c ws s
  | .dmaDisable r c => Sys2Proof.Machine.execDmaDisable r c s
  | .dmaDescriptorDone c h => Sys2Proof.Machine.execDmaDescriptorDone c h s
  | .pcieFlr f => Sys2Proof.Machine.execPcieFlr f s
  | .pcieHotReset linkUp => Sys2Proof.Machine.execPcieHotReset linkUp s
  | .mboxPing c => Sys2Proof.Machine.execMboxPing c s
  | .mboxStatus c => Sys2Proof.Machine.execMboxStatus c s
  | .mboxQuote c => Sys2Proof.Machine.execMboxQuote c s
  | .mboxKeyload c ws => Sys2Proof.Machine.execMboxKeyload c ws s
  | .mboxEventFeed c => Sys2Proof.Machine.execMboxEventFeed c s
  | .mboxUndefinedService c => Sys2Proof.Machine.execMboxUndefinedService c s
  | .mboxOutboundWithdraw c => Sys2Proof.Machine.execMboxOutboundWithdraw c s
  | .mboxResponseDrop => Sys2Proof.Machine.execMboxResponseDrop s
  | .streamCapture q x => Sys2Proof.Machine.execStreamCapture q x s
  | .bmStepApply => Sys2Proof.Machine.execBmStepApply s
  | .anchorRefresh => Sys2Proof.Machine.execAnchorRefresh s
  | .ptpSync h twoStep origin f => Sys2Proof.Machine.execPtpSync h twoStep origin f s
  | .ptpFollowUp h origin f => Sys2Proof.Machine.execPtpFollowUp h origin f s
  | .ptpDelayReq h => Sys2Proof.Machine.execPtpDelayReq h s
  | .ptpDelayResp h received => Sys2Proof.Machine.execPtpDelayResp h received s
  | .ptpAnnounce h a => Sys2Proof.Machine.execPtpAnnounce h a s
  | .tcForward h ty residence => Sys2Proof.Machine.execTcForward h ty residence s
  | .syncLossTimeout => Sys2Proof.Machine.execSyncLossTimeout s
  | .holdoverLimit => Sys2Proof.Machine.execHoldoverLimit s
  | .suspectMaxExpiry => Sys2Proof.Machine.execSuspectMaxExpiry s
  | .ppsInEdge dt => Sys2Proof.Machine.execPpsInEdge dt s
  | .ppsInLoss => Sys2Proof.Machine.execPpsInLoss s
  | .ppsOutPulse => Sys2Proof.Machine.execPpsOutPulse s
  | .clockJudgeWindow k count => Sys2Proof.Machine.execClockJudgeWindow k count s
  | .clockSourceRetry k => Sys2Proof.Machine.execClockSourceRetry k s
  | .fioTrip => Sys2Proof.Machine.execFioTrip s
  | .xbTrip => Sys2Proof.Machine.execXbTrip s
  | .refclkTrip => Sys2Proof.Machine.execRefclkTrip s
  | .refclkYieldTimeout => Sys2Proof.Machine.execRefclkYieldTimeout s
  | .xaTrip => Sys2Proof.Machine.execXaTrip s
  | .pllUnlock p => Sys2Proof.Machine.execPllUnlock p s
  | .startup x => Sys2Proof.Machine.execStartup x s
  | .warmReset => Sys2Proof.Machine.execWarmReset s
  | .startWatchdogExpiry => Sys2Proof.Machine.execStartWatchdogExpiry s
  | .haltedResetTimer => Sys2Proof.Machine.execHaltedResetTimer s
  | .companionImageTimeout => Sys2Proof.Machine.execCompanionImageTimeout s
  | .portStartTimeout => Sys2Proof.Machine.execPortStartTimeout s
  | .epochBoundary load fail bad => Sys2Proof.Machine.execEpochBoundary load fail bad s
  | .quiescentApply tag => Sys2Proof.Machine.execQuiescentApply tag s
  | .clusterGated => Sys2Proof.Machine.execClusterGated s
  | .epochSealCommit => Sys2Proof.Machine.execEpochSealCommit s
  | .sheetSign fail => Sys2Proof.Machine.execSheetSign fail s
  | .dieLinkTransferError again => Sys2Proof.Machine.execDieLinkTransferError again s
  | .dieLinkRetrainTimeout => Sys2Proof.Machine.execDieLinkRetrainTimeout s
  | .containError x => Sys2Proof.Machine.execContainError x s
  | .c4FlushDone pages => Sys2Proof.Machine.execC4FlushDone pages s
  | .containC2RepeatDone id ok => Sys2Proof.Machine.execContainC2RepeatDone id ok s
  | .containC2Timeout id => Sys2Proof.Machine.execContainC2Timeout id s
  | .containC3Done id => Sys2Proof.Machine.execContainC3Done id s
  | .containC3Timeout id => Sys2Proof.Machine.execContainC3Timeout id s
  | .stagedFrameAdmit => Sys2Proof.Machine.execStagedFrameAdmit s
  | .headCacheMissDone id => Sys2Proof.Machine.execHeadCacheMissDone id s
  | .domainJoin asn => Sys2Proof.Machine.execDomainJoin asn s
  | .decryptionDone asn => Sys2Proof.Machine.execDecryptionDone asn s
  | .keyInvalidCommit p => Sys2Proof.Machine.execKeyInvalidCommit p s
  | .normalisationDone asn => Sys2Proof.Machine.execNormalisationDone asn s
  | .veeDone asn => Sys2Proof.Machine.execVeeDone asn s
  | .journalCommit asn => Sys2Proof.Machine.execJournalCommit asn s
  | .registerUpdate asn => Sys2Proof.Machine.execRegisterUpdate asn s
  | .tagRetire asn => Sys2Proof.Machine.execTagRetire asn s
  | .journalPageWritten => Sys2Proof.Machine.execJournalPageWritten s
  | .queuePromote q => Sys2Proof.Machine.execQueuePromote q s
  | .queueUrgentPreempt q => Sys2Proof.Machine.execQueueUrgentPreempt q s
  | .enrol o => Sys2Proof.Machine.execEnrol o s
  | .retire o => Sys2Proof.Machine.execRetire o s
  | .retireEntryCommit p => Sys2Proof.Machine.execRetireEntryCommit p s
  | .parcelRelease p => Sys2Proof.Machine.execParcelRelease p s
  | .keyloadEntryCommit p => Sys2Proof.Machine.execKeyloadEntryCommit p s
  | .pkekRewrapDone => Sys2Proof.Machine.execPkekRewrapDone s
  | .parcelRestoreDone p => Sys2Proof.Machine.execParcelRestoreDone p s
  | .bucketRebuildDone => Sys2Proof.Machine.execBucketRebuildDone s
  | .calendarActivation c => Sys2Proof.Machine.execCalendarActivation c s
  | .demandClosure c => Sys2Proof.Machine.execDemandClosure c s
  | .periodSweepSlice jsn => Sys2Proof.Machine.execPeriodSweepSlice jsn s
  | .snapshotMarkCommit => Sys2Proof.Machine.execSnapshotMarkCommit s
  | .steelyardApply asn => Sys2Proof.Machine.execSteelyardApply asn s
  | .balanceIntervalClose => Sys2Proof.Machine.execBalanceIntervalClose s
  | .theoPass k => Sys2Proof.Machine.execTheoPass k s
  | .theoPassApply => Sys2Proof.Machine.execTheoPassApply s
  | .archiveApply asn => Sys2Proof.Machine.execArchiveApply asn s
  | .archiveSweepVisit => Sys2Proof.Machine.execArchiveSweepVisit s
  | .chunkProgramDone => Sys2Proof.Machine.execChunkProgramDone s
  | .segmentSealTimeout => Sys2Proof.Machine.execSegmentSealTimeout s
  | .nandReadRetry area block page codeword errors => Sys2Proof.Machine.execNandReadRetry area block page codeword errors s
  | .gcCopyVerified ok => Sys2Proof.Machine.execGcCopyVerified ok s
  | .nandProgramFail area block page => Sys2Proof.Machine.execNandProgramFail area block page s
  | .nandEraseFail area block => Sys2Proof.Machine.execNandEraseFail area block s
  | .nandEraseDone b => Sys2Proof.Machine.execNandEraseDone b s
  | .parcelImageWrite => Sys2Proof.Machine.execParcelImageWrite s
  | .plcFrameReceived n f => Sys2Proof.Machine.execPlcFrameReceived n f s
  | .plcReassemblyTimeout n => Sys2Proof.Machine.execPlcReassemblyTimeout n s
  | .plcDriverFault n dt => Sys2Proof.Machine.execPlcDriverFault n dt s
  | .plcTxInhibitEnd n => Sys2Proof.Machine.execPlcTxInhibitEnd n s
  | .plcMacAckTimeout n => Sys2Proof.Machine.execPlcMacAckTimeout n s
  | .plcUnicastSend n => Sys2Proof.Machine.execPlcUnicastSend n s
  | .tonemapResponseReceived n addr map modulation gain bits => Sys2Proof.Machine.execTonemapResponseReceived n addr map modulation gain bits s
  | .tmrWaitTimeout n => Sys2Proof.Machine.execTmrWaitTimeout n s
  | .routeRequestReceived n org hop hops cost toDevice => Sys2Proof.Machine.execRouteRequestReceived n org hop hops cost toDevice s
  | .routeReplyReceived n dest hop hops cost => Sys2Proof.Machine.execRouteReplyReceived n dest hop hops cost s
  | .rreqRetryTimeout n => Sys2Proof.Machine.execRreqRetryTimeout n s
  | .routeExpiry n => Sys2Proof.Machine.execRouteExpiry n s
  | .plcJoin n eui psk => Sys2Proof.Machine.execPlcJoin n eui psk s
  | .joinIdleExpiry n => Sys2Proof.Machine.execJoinIdleExpiry n s
  | .gmkReceiptConfirmed n addr => Sys2Proof.Machine.execGmkReceiptConfirmed n addr s
  | .gmkRekeyActivate n => Sys2Proof.Machine.execGmkRekeyActivate n s
  | .zcEdge k dt => Sys2Proof.Machine.execZcEdge k dt s
  | .zcLossTimeout k => Sys2Proof.Machine.execZcLossTimeout k s
  | .radioFrameReceived n f => Sys2Proof.Machine.execRadioFrameReceived n f s
  | .radioAckTxgo n late => Sys2Proof.Machine.execRadioAckTxgo n late s
  | .radioScriptTimeout n script => Sys2Proof.Machine.execRadioScriptTimeout n script s
  | .radioAssociationRequest n addr rxOnIdle ackBytes ago => Sys2Proof.Machine.execRadioAssociationRequest n addr rxOnIdle ackBytes ago s
  | .endpointIdleExpiry n => Sys2Proof.Machine.execEndpointIdleExpiry n s
  | .radioDownlinkQueue n => Sys2Proof.Machine.execRadioDownlinkQueue n s
  | .radioTxStart n clear => Sys2Proof.Machine.execRadioTxStart n clear s
  | .radioAckTimeout n => Sys2Proof.Machine.execRadioAckTimeout n s
  | .radioTxHoldExpiry n => Sys2Proof.Machine.execRadioTxHoldExpiry n s
  | .budgetBucketRoll => Sys2Proof.Machine.execBudgetBucketRoll s
  | .radioDataRequest n k ackBytes ago => Sys2Proof.Machine.execRadioDataRequest n k ackBytes ago s
  | .pendingTtlExpiry n => Sys2Proof.Machine.execPendingTtlExpiry n s
  | .actHello k => Sys2Proof.Machine.execActHello k s
  | .actFrames k frames => Sys2Proof.Machine.execActFrames k frames s
  | .actConfirm k => Sys2Proof.Machine.execActConfirm k s
  | .actBeacon k => Sys2Proof.Machine.execActBeacon k s
  | .actCloseReceived k => Sys2Proof.Machine.execActCloseReceived k s
  | .actPendingSessionExpiry c => Sys2Proof.Machine.execActPendingSessionExpiry c s
  | .creditRaise => Sys2Proof.Machine.execCreditRaise s
  | .actDownlinkSend c => Sys2Proof.Machine.execActDownlinkSend c s
  | .actDlTimeout c => Sys2Proof.Machine.execActDlTimeout c s
  | .cellDarkTimeout c => Sys2Proof.Machine.execCellDarkTimeout c s
  | .actSessionIdleExpiry c => Sys2Proof.Machine.execActSessionIdleExpiry c s
  | .takeoverGraceExpiry => Sys2Proof.Machine.execTakeoverGraceExpiry s
  | .actCapsuleMalformed dt => Sys2Proof.Machine.execActCapsuleMalformed dt s
  | .hxConnect x => Sys2Proof.Machine.execHxConnect x s
  | .hxCallOut headend => Sys2Proof.Machine.execHxCallOut headend s
  | .hxOpen sid bytes => Sys2Proof.Machine.execHxOpen sid bytes s
  | .hxOpenTimeout sid => Sys2Proof.Machine.execHxOpenTimeout sid s
  | .hxSubscribe sid bytes => Sys2Proof.Machine.execHxSubscribe sid bytes s
  | .hxSheetSend sid => Sys2Proof.Machine.execHxSheetSend sid s
  | .hxSheetAck sid bytes => Sys2Proof.Machine.execHxSheetAck sid bytes s
  | .hxPing sid bytes => Sys2Proof.Machine.execHxPing sid bytes s
  | .hxPong sid bytes => Sys2Proof.Machine.execHxPong sid bytes s
  | .hxClose sid bytes => Sys2Proof.Machine.execHxClose sid bytes s
  | .hxPingTimer sid => Sys2Proof.Machine.execHxPingTimer sid s
  | .hxIdleTimeout sid => Sys2Proof.Machine.execHxIdleTimeout sid s
  | .hxReportTimer sid => Sys2Proof.Machine.execHxReportTimer sid s
  | .hxOrderUnknownKind o => Sys2Proof.Machine.execHxOrderUnknownKind o s
  | .hxMessageMalformed sid bytes => Sys2Proof.Machine.execHxMessageMalformed sid bytes s
  | .amend o => Sys2Proof.Machine.execAmend o s
  | .calendar o => Sys2Proof.Machine.execCalendar o s
  | .campaignStart o => Sys2Proof.Machine.execCampaignStart o s
  | .campaignCancel o => Sys2Proof.Machine.execCampaignCancel o s
  | .campaignMemberStart p => Sys2Proof.Machine.execCampaignMemberStart p s
  | .campaignBlockOutcome => Sys2Proof.Machine.execCampaignBlockOutcome s
  | .campaignActivateAt n => Sys2Proof.Machine.execCampaignActivateAt n s
  | .campaignDeadline n => Sys2Proof.Machine.execCampaignDeadline n s
  | .keyloadLoad o => Sys2Proof.Machine.execKeyloadLoad o s
  | .keyloadErase o => Sys2Proof.Machine.execKeyloadErase o s
  | .enterMaintenance o => Sys2Proof.Machine.execEnterMaintenance o s
  | .leaveMaintenance o => Sys2Proof.Machine.execLeaveMaintenance o s
  | .changeState o => Sys2Proof.Machine.execChangeState o s
  | .extract o => Sys2Proof.Machine.execExtract o s
  | .topologyAccept o => Sys2Proof.Machine.execTopologyAccept o s
  | .snapshot o => Sys2Proof.Machine.execSnapshot o s
  | .twinSwitch o => Sys2Proof.Machine.execTwinSwitch o s
  | .twinResync o => Sys2Proof.Machine.execTwinResync o s
  | .twinDetach o => Sys2Proof.Machine.execTwinDetach o s
  | .twinCmdStatus o => Sys2Proof.Machine.execTwinCmdStatus o s
  | .manifestBegin o signerOk partner => Sys2Proof.Machine.execManifestBegin o signerOk partner s
  | .manifestData o cadOk partner => Sys2Proof.Machine.execManifestData o cadOk partner s
  | .manifestSchedule o => Sys2Proof.Machine.execManifestSchedule o s
  | .manifestCancel o => Sys2Proof.Machine.execManifestCancel o s
  | .manifestStatus o => Sys2Proof.Machine.execManifestStatus o s
  | .stagingEraseDone => Sys2Proof.Machine.execStagingEraseDone s
  | .stateChangeExecute fuseOk => Sys2Proof.Machine.execStateChangeExecute fuseOk s
  | .jtagLifecycleTransition new fuseOk => Sys2Proof.Machine.execJtagLifecycleTransition new fuseOk s
  | .updateActivation bad => Sys2Proof.Machine.execUpdateActivation bad s
  | .trialTimerExpiry => Sys2Proof.Machine.execTrialTimerExpiry s
  | .twinUpdateWaitTimeout => Sys2Proof.Machine.execTwinUpdateWaitTimeout s
  | .recoveryAnnounceTimer => Sys2Proof.Machine.execRecoveryAnnounceTimer s
  | .recoveryData path packet signerOk cadOk => Sys2Proof.Machine.execRecoveryData path packet signerOk cadOk s
  | .recoveryFinish path packet => Sys2Proof.Machine.execRecoveryFinish path packet s
  | .recoveryAbort path packet => Sys2Proof.Machine.execRecoveryAbort path packet s
  | .recoverySilenceTimeout => Sys2Proof.Machine.execRecoverySilenceTimeout s
  | .blHello h => Sys2Proof.Machine.execBlHello h s
  | .blHeartbeat h => Sys2Proof.Machine.execBlHeartbeat h s
  | .blShadow h a => Sys2Proof.Machine.execBlShadow h a s
  | .blEntry h e am => Sys2Proof.Machine.execBlEntry h e am s
  | .blCommit h => Sys2Proof.Machine.execBlCommit h s
  | .blDeltaPage h fail => Sys2Proof.Machine.execBlDeltaPage h fail s
  | .blEpochEnd h => Sys2Proof.Machine.execBlEpochEnd h s
  | .blEpochResult h => Sys2Proof.Machine.execBlEpochResult h s
  | .blStateCopy h c => Sys2Proof.Machine.execBlStateCopy h c s
  | .blBulk h records => Sys2Proof.Machine.execBlBulk h records s
  | .blBulkDone h b => Sys2Proof.Machine.execBlBulkDone h b s
  | .blKeySync h => Sys2Proof.Machine.execBlKeySync h s
  | .blRecheck h => Sys2Proof.Machine.execBlRecheck h s
  | .blYield h load fail up => Sys2Proof.Machine.execBlYield h load fail up s
  | .blFault h => Sys2Proof.Machine.execBlFault h s
  | .blReserveReq h => Sys2Proof.Machine.execBlReserveReq h s
  | .blCmd h => Sys2Proof.Machine.execBlCmd h s
  | .blCmdAnswer h => Sys2Proof.Machine.execBlCmdAnswer h s
  | .blClose h => Sys2Proof.Machine.execBlClose h s
  | .blReservedFrame h => Sys2Proof.Machine.execBlReservedFrame h s
  | .blResendTimeout => Sys2Proof.Machine.execBlResendTimeout s
  | .blHeartbeatTimer => Sys2Proof.Machine.execBlHeartbeatTimer s
  | .blLinkTimeout => Sys2Proof.Machine.execBlLinkTimeout s
  | .blLaneLockLoss lane => Sys2Proof.Machine.execBlLaneLockLoss lane s
  | .blLaneRejoin lane => Sys2Proof.Machine.execBlLaneRejoin lane s
  | .twinAliveToggle => Sys2Proof.Machine.execTwinAliveToggle s
  | .peerAliveLoss => Sys2Proof.Machine.execPeerAliveLoss s
  | .peerAliveReturn role dt => Sys2Proof.Machine.execPeerAliveReturn role dt s
  | .roleArbitrationWait role => Sys2Proof.Machine.execRoleArbitrationWait role s
  | .roleArbitrationBackoff => Sys2Proof.Machine.execRoleArbitrationBackoff s
  | .mirrorHoldTimeout => Sys2Proof.Machine.execMirrorHoldTimeout s
  | .takeoverInstant load fail bad up => Sys2Proof.Machine.execTakeoverInstant load fail bad up s
  | .recheckDone scrub replayed => Sys2Proof.Machine.execRecheckDone scrub replayed s
  | .recheckTimeout => Sys2Proof.Machine.execRecheckTimeout s
  | .patrolScrubRead x => Sys2Proof.Machine.execPatrolScrubRead x s
  | .scrubLate => Sys2Proof.Machine.execScrubLate s
  | .fbRecordClose block => Sys2Proof.Machine.execFbRecordClose block s
  | .fbFreezeExpiry => Sys2Proof.Machine.execFbFreezeExpiry s
  | .hoursTick => Sys2Proof.Machine.execHoursTick s
  | .panelUpdateStart field => Sys2Proof.Machine.execPanelUpdateStart field s
  | .panelWaveformDone field => Sys2Proof.Machine.execPanelWaveformDone field s
  | .panelRailTimeout rail => Sys2Proof.Machine.execPanelRailTimeout rail s
  | .panelTempMeasure main field => Sys2Proof.Machine.execPanelTempMeasure main field s
  | .panelColdRetry field => Sys2Proof.Machine.execPanelColdRetry field s
  | .powerFailTrip samples => Sys2Proof.Machine.execPowerFailTrip samples s
  | .lastGaspFlushDone pages field => Sys2Proof.Machine.execLastGaspFlushDone pages field s
  | .vinReturnReset vin => Sys2Proof.Machine.execVinReturnReset vin s
  | .railLow rail => Sys2Proof.Machine.execRailLow rail s
  | .tempHigh t => Sys2Proof.Machine.execTempHigh t s
  | .tempTrip t => Sys2Proof.Machine.execTempTrip t s
  | .railEnHoldExpiry => Sys2Proof.Machine.execRailEnHoldExpiry s
  | .ethLinkChange port up => Sys2Proof.Machine.execEthLinkChange port up s

end Sys2Proof.Machine
end

