-- ==== Sys2Proof/Safety.lean ====
section
/-! DEFINITION. What counts as a safe run, and the terms in which the statements speak of states. -/

namespace Sys2Proof.Machine

/-- The addressed RAM of the device is in its one canonical form, so that equal memories are equal data. -/
def Canonical (s : State) : Prop := Memory.wf s.cmp = true ∧ Memory.wf s.stage = true

/-- `n` steps lead from one state to another without a fault or a refusal. -/
def Runs : Nat → State → State → Prop
  | 0, s, t => s = t
  | n + 1, s, t => ∃ u, step s = .next u ∧ Runs n u t

/-- A command leads to a next state of which `P` holds. -/
def Leads (i : Instr) (s : State) (P : State → Prop) : Prop := ∃ t, exec i s = .next t ∧ P t

/-- A word access by `r` at offset `off` of block `b` reaches its register. -/
def Reaches (r : Requester) (b off : Nat) (s : State) : Prop := reach r (regAddr b off) 4 s = .register

/-- A word access by `r` at offset `o` of mailbox channel `c` reaches its register. -/
def ReachesCh (r : Requester) (c o : Nat) (s : State) : Prop := reach r (chAddr c o) 4 s = .register

/-- The state with exactly these outputs. -/
def saying (o : List Output) (s : State) : State := { s with out := o }

/-- The state after a write to block `b` that ends with outcome `c` and has no other effect. -/
def ended (b : Nat) (c : U16) (s : State) : State := setOutcome b c (saying [] s)

/-- Only the field books, the word queues and the outputs differ: what making a record can change. -/
def BooksFrame (s t : State) : Prop := t = { s with fb := t.fb, queues := t.queues, out := t.out }

end Sys2Proof.Machine
end

