-- ==== Sys2Proof/Certificates/Slice0/Obligations.lean ====
section
/-! DEFINITION. The statements for the provers. Each names the rules of the specification it rests on in OBLIGATIONS.json; the states that
meet its hypotheses stand in Sys2Proof/Tests/Slice0.lean. -/

open Sys2Proof Sys2Proof.Machine

/-! ### The queue and the step -/

/-- A step takes the command at the front of the queue and runs it with the queue's rest. -/
def Obligations.StepRunsTheFrontCommand : Prop :=
  ∀ (i : Instr) (rest : List Instr) (s : State), s.pending = i :: rest → step s = exec i { s with pending := rest }

/-- With nothing waiting, a step is one TPLL tick of 4 ns: the Benchmark counter advances by the increment (16 R355); that a step without a
command is a tick is the model's choice (log 2). -/
def Obligations.EmptyQueueStepIsOneTick : Prop :=
  ∀ s : State, s.pending = [] → s.bench.running = true → s.bench.incrNext = none →
    ∃ t, step s = .next t ∧ t.bench.bm = s.bench.bm + s.bench.incr.setWidth 64 ∧ t.mono = s.mono + 4 ∧ t.cmp = s.cmp ∧ t.stage = s.stage ∧
      t.pending = [] ∧ t.out = [] ∧ t = { s with mono := t.mono, bench := t.bench, epoch := t.epoch, billing := t.billing, out := [] }

/-- Every command leads to a next state and leaves the commands that wait; every step takes exactly one command off the front of the queue,
or none where none waits. -/
def Obligations.CommandsAndStepsAnswerANextState : Prop :=
  (∀ (i : Instr) (s : State), ∃ t, exec i s = .next t ∧ t.pending = s.pending) ∧
  (∀ (s : State), ∃ t, step s = .next t ∧ t.pending = s.pending.tail)

/-- The companion area and the staging buffer keep their canonical form at every step, from every state. -/
def Obligations.EveryStepKeepsMemoryCanonical : Prop :=
  ∀ s t : State, Canonical s → step s = .next t → Canonical t

/-- Reset leaves the addressed RAM canonical and cleared, the queue empty, the device in RESET and every outcome OC_OK. -/
def Obligations.ResetIsCanonicalAndQuiet : Prop :=
  Canonical State.reset ∧ State.reset.pending = [] ∧ State.reset.glob.state = .reset ∧ (∀ b, outcomeOf State.reset b = OC_OK) ∧
    (∀ a, memRead State.reset.cmp a = 0 ∧ memRead State.reset.stage a = 0) ∧ State.reset.clk.enable0 = 0 ∧ State.reset.clk.enable1 = 0

/-- A byte of the companion area changes in a step only where the step posts a write that covers it, or clears the area. -/
def Obligations.OnlyPostedWritesChangeTheCompanionArea : Prop :=
  ∀ (i : Instr) (s t : State) (a : Nat), Canonical s → exec i s = .next t → Output.memClear ∉ t.out →
    (∀ (b : Nat) (bs : List U8), Output.cmpWrite b bs ∈ t.out → ¬ (b ≤ a ∧ a < b + bs.length)) → memRead t.cmp a = memRead s.cmp a

/-! ### Register accesses -/

/-- A read of EPOCH_LO returns the low half of the epoch and latches the high half, which EPOCH_HI returns; it is 0 from reset. -/
def Obligations.EpochReadLatchesHighHalf : Prop :=
  (∀ (r : Requester) (s : State), Reaches r 0x00 0x010 s →
    exec (.epochLoRead r) s = .next { s with out := [.rdata (loI s.epoch.current)], glob := { s.glob with epochHi := hiI s.epoch.current } }) ∧
  (∀ (r : Requester) (s : State), regValue r s 0x00 0x014 = s.glob.epochHi) ∧
  State.reset.glob.epochHi = 0 ∧ ∀ s : State, (warmReset s).glob.epochHi = 0

/-- Every other register read that latches: the word returned, the half latched, and nothing else changed. -/
def Obligations.LatchingReadsReturnTheWordAndLatchTheRest : Prop :=
  ∀ (r : Requester) (s : State),
    (Reaches r 0x10 0x040 s → exec (.jsnLoRead r) s =
      .next { s with out := [.rdata (lo32 s.jrn.lastJsn)], trav := { s.trav with jsnHi := hi32 s.jrn.lastJsn } }) ∧
    (Reaches r 0x10 0x300 s → exec (.billingTimeLoRead r) s =
      .next { s with out := [.rdata (lo32 s.billing.time)], billing := { s.billing with timeHi := hi32 s.billing.time } }) ∧
    (Reaches r 0x10 0x540 s → exec (.ackLoRead r) s =
      .next { s with out := [.rdata (loI (ackValue s))], hx := { s.hx with ackHi := hiI (ackValue s) } }) ∧
    (Reaches r 0x0A 0x010 s → exec (.activateAtLoRead r) s =
      .next { s with out := [.rdata (lo32 ((s.upd.schedule.map (·.2)).getD 0))],
                     upd := { s.upd with activateHi := hi32 ((s.upd.schedule.map (·.2)).getD 0) } }) ∧
    (Reaches r 0x0B 0x02C s → exec (.comparedLoRead r) s =
      .next { s with out := [.rdata (loI s.twin.compared)], twin := { s.twin with comparedHi := hiI s.twin.compared } }) ∧
    (Reaches r 0x09 0x044 s → exec (.lmsQLoRead r) s =
      .next { s with out := [.rdata (lo32 s.keys.q)], keys := { s.keys with qHi := hi32 s.keys.q } }) ∧
    (Reaches r 0x09 0x04C s → exec (.reservedLoRead r) s =
      .next { s with out := [.rdata (lo32 s.keys.reservedEnd)], keys := { s.keys with reservedHi := hi32 s.keys.reservedEnd } }) ∧
    (Reaches r 0x08 0x028 s → exec (.deviceTimeLoRead r) s =
      .next { s with out := [.rdata (lo32 (devTime s))], bench := { s.bench with timeHi := hi32 (devTime s) } }) ∧
    (Reaches r 0x08 0x00C s → exec (.bmIntRead r) s =
      .next { s with out := [.rdata ((s.bench.bm >>> 32).setWidth 32)], bench := { s.bench with fracLatch := s.bench.bm.setWidth 32 } }) ∧
    (Reaches r 0x03 0x018 s → exec (.fbOldestLoRead r) s =
      .next { s with out := [.rdata (lo32 (ringOldest s.fb))], fb := { s.fb with oldestHi := hi32 (ringOldest s.fb) } }) ∧
    (Reaches r 0x03 0x020 s → exec (.fbNewestLoRead r) s =
      .next { s with out := [.rdata (lo32 (ringNewest s.fb))], fb := { s.fb with newestHi := hi32 (ringNewest s.fb) } }) ∧
    (Reaches r 0x03 0x010 s → exec (.fbCursorLoRead r) s =
      .next { s with out := [.rdata (lo32 s.fb.cursor)], fb := { s.fb with cursorHi := hi32 s.fb.cursor } })

/-- An access outside every block ends in a bus error and a record of the global block under OC_FAULT, and changes no LAST_OUTCOME. -/
def Obligations.UnmappedAccessEndsInBusError : Prop :=
  ∀ (r : Requester) (addr : U32) (n : Nat) (s : State), reach r addr n s = .unmapped →
    ∃ t, exec (.unmappedAccess r addr n) s = .next t ∧ BooksFrame s t ∧ t.out.getLast? = some (.busError OC_FAULT) ∧
      t.fb = (record 0x00 OC_FAULT [addr, stampOf r] (saying [] s)).fb ∧ t.outcomes = s.outcomes

/-- A non-secure request to a secure block, an access to a gated block, and an access that is not one aligned word end in a bus error with
a record that names the requester; no register and no LAST_OUTCOME changes. -/
def Obligations.DeniedAccessesEndInBusErrors : Prop :=
  ∀ (r : Requester) (addr : U32) (n : Nat) (s : State),
    (reach r addr n s = .secure → ∃ t, exec (.secureAccessDenied r addr n) s = .next t ∧ BooksFrame s t ∧
      t.out.getLast? = some (.busError OC_AUTH) ∧ t.fb = (record (blockOf addr) OC_AUTH [stampOf r] (saying [] s)).fb ∧ secureReq r = false) ∧
    (reach r addr n s = .gated → ∃ t, exec (.gatedBlockAccess r addr n) s = .next t ∧ BooksFrame s t ∧
      t.out.getLast? = some (.busError OC_CLK_GATED) ∧
      t.fb = (record 0x01 OC_CLK_GATED [u32 (blockOf addr), stampOf r] (saying [] s)).fb ∧ blockGated s (blockOf addr) = true) ∧
    (reach r addr n s = .misaligned → ∃ t, exec (.misalignedAccess r addr n) s = .next t ∧ BooksFrame s t ∧
      t.out.getLast? = some (.busError OC_FAULT) ∧ t.fb = (record 0x00 OC_FAULT [addr, stampOf r] (saying [] s)).fb ∧
      (addr.toNat % 4 ≠ 0 ∨ n ≠ 4))

/-- A write that sets a reserved bit of a register that any requester may write is rejected whole with OC_RESERVED_SET. -/
def Obligations.ReservedBitsRejectTheWholeWrite : Prop :=
  ∀ (r : Requester) (addr v : U32) (s : State), reach r addr 4 s = .register →
    ownedWrite r (blockOf addr) (offsetOf addr) v (saying [] s) = none → v &&& reservedBits (blockOf addr) (offsetOf addr) ≠ 0 →
    exec (.regWrite r addr v) s = .next (ended (blockOf addr) OC_RESERVED_SET s)

/-- A write that completes sets LAST_OUTCOME of its block to its outcome, whatever the block held, and of no other block. A register of type RW stores
what is written (BM_INCR_FRAC), a read-only register keeps its value with OC_OK (BLOCK_ID), and an offset at which no register is defined acts as 32
reserved bits. -/
def Obligations.RegisterWritesTakeEffectAndSetLastOutcome : Prop :=
  (∀ (r : Requester) (addr v : U32) (s : State), reach r addr 4 s = .register →
     ∃ t, exec (.regWrite r addr v) s = .next t ∧
       outcomeOf t (blockOf addr) = (regWrote r id (blockOf addr) (offsetOf addr) v (saying [] s)).2 ∧
       (∀ b, b ≠ blockOf addr → outcomeOf t b = outcomeOf s b)) ∧
  (∀ (r : Requester) (v : U32) (s : State),
     (Reaches r 0x08 0x014 s → exec (.regWrite r (regAddr 0x08 0x014) v) s =
       .next (ended 0x08 OC_OK { s with bench := { s.bench with incrFrac := v } })) ∧
     (Reaches r 0x0D 0x000 s → v &&& 0x000000FF = 0 → exec (.regWrite r (regAddr 0x0D 0x000) v) s = .next (ended 0x0D OC_OK s)) ∧
     (Reaches r 0x0D 0x800 s → v ≠ 0 → exec (.regWrite r (regAddr 0x0D 0x800) v) s = .next (ended 0x0D OC_RESERVED_SET s)) ∧
     (Reaches r 0x0D 0x800 s → exec (.regWrite r (regAddr 0x0D 0x800) 0) s = .next (ended 0x0D OC_OK s) ∧ regValue r s 0x0D 0x800 = 0))

/-- CLK_ENABLE0 and CLK_ENABLE1 are written by firmware only: it gates and ungates blocks, and any other requester gets OC_AUTH with a
record and no change. -/
def Obligations.OnlyFirmwareWritesClockEnables : Prop :=
  (∀ (v : U32) (s : State), v &&& 0xFC00007F = 0 → exec (.clkEnableWrite .firmware false v) s =
    .next (ended 0x01 OC_OK { s with clk := { s.clk with enable0 := v } })) ∧
  (∀ (v : U32) (s : State), v &&& 0xFFFFFF00 = 0 → exec (.clkEnableWrite .firmware true v) s =
    .next (ended 0x01 OC_OK { s with clk := { s.clk with enable1 := v } })) ∧
  (∀ (r : Requester) (second : Bool) (v : U32) (s : State), r ≠ .firmware → Reaches r 0x01 (if second then 0x010 else 0x00C) s →
    ∃ t, exec (.clkEnableWrite r second v) s = .next t ∧ t.clk = s.clk ∧ outcomeOf t 0x01 = OC_AUTH ∧
      t.fb = (record 0x01 OC_AUTH [stampOf r] (ended 0x01 OC_AUTH s)).fb)

/-- BM_INCR_INT with the fraction written before takes effect at the next tick where it lies from 3.900 to 4.100 ns, and is refused outside;
BM_STEP_CMD.GO requests a step by the delta written. A write of 0 clears BOOT_ATTEMPTS and RECOVERY_DONE; any other value of the field is refused. -/
def Obligations.BenchmarkAndBootRegistersTakeTheirWrites : Prop :=
  (∀ (r : Requester) (v : U32) (s : State),
     (Reaches r 0x08 0x018 s → v.toNat < 256 → incrOk (incrOf (v.setWidth 8) s.bench.incrFrac) = true →
       exec (.bmIncrWrite r v) s = .next (ended 0x08 OC_OK
         { s with bench := { s.bench with incrInt := v.setWidth 8, incrNext := some (incrOf (v.setWidth 8) s.bench.incrFrac) } })) ∧
     (Reaches r 0x08 0x018 s → v.toNat < 256 → incrOk (incrOf (v.setWidth 8) s.bench.incrFrac) = false →
       exec (.bmIncrWrite r v) s = .next (ended 0x08 OC_RANGE s)) ∧
     (Reaches r 0x08 0x024 s → exec (.bmStepGo r) s =
       .next (ended 0x08 OC_OK { s with bench := { s.bench with stepReq := some ((s.bench.stepHi ++ s.bench.stepLo : BitVec 64).toInt) } }))) ∧
  (∀ (r : Requester) (s : State),
     (Reaches r 0x00 0x01C s → exec (.bootAttemptsClear r 0) s = .next (ended 0x00 OC_OK { s with upd := { s.upd with bootAttempts := 0 } })) ∧
     (Reaches r 0x00 0x01C s → exec (.bootAttemptsClear r 0x04000000) s = .next (ended 0x00 OC_RANGE s)) ∧
     (Reaches r 0x0A 0x008 s → exec (.recoveryDoneClear r 0) s = .next (ended 0x0A OC_OK { s with upd := { s.upd with recoveryDone := false } })) ∧
     (Reaches r 0x0A 0x008 s → exec (.recoveryDoneClear r 0x00100000) s = .next (ended 0x0A OC_RANGE s)))

/-! ### Field books, the vault and the companion's images -/

/-- The field book window: the cursor goes where it is written, or to the oldest record where that one was overwritten; NEXT and SEEK_OLDEST move it;
FB_SELECT takes the device book and existing blocks only. A freeze belongs to the requester that commanded it: another requester gets OC_FB_FROZEN,
and the owner's THAW ends it, with an OVERRUN record exactly where records were dropped. -/
def Obligations.FieldBookWindowAndFreeze : Prop :=
  (∀ (r : Requester) (v : U32) (s : State),
     (∀ c, Reaches r 0x03 0x010 s → c = v.toNat + 4294967296 * s.fb.cursorHiW.toNat →
       (s.fb.select = 0xFFFF → ringOldest s.fb ≤ c) →
       exec (.fbCursorWrite r v) s = .next (ended 0x03 OC_OK { s with fb := { s.fb with cursor := c, cursorLost := false } })) ∧
     (∀ c, Reaches r 0x03 0x010 s → c = v.toNat + 4294967296 * s.fb.cursorHiW.toNat → s.fb.select = 0xFFFF → c ≠ 0 → c < ringOldest s.fb →
       exec (.fbCursorWrite r v) s = .next (ended 0x03 OC_OK { s with fb := { s.fb with cursor := ringOldest s.fb, cursorLost := true } })) ∧
     (Reaches r 0x03 0x00C s → v.toNat < 65536 → (v = 0xFFFF ∨ blockExists v.toNat = true) → (v = 0xFFFF → ringOldest s.fb ≤ s.fb.cursor) →
       exec (.fbSelectWrite r v) s = .next (ended 0x03 OC_OK { s with fb := { s.fb with select := v.setWidth 16, cursorLost := false } })) ∧
     (Reaches r 0x03 0x00C s → v.toNat < 65536 → v ≠ 0xFFFF → blockExists v.toNat = false →
       exec (.fbSelectWrite r v) s = .next (ended 0x03 OC_RANGE s)) ∧
     (∀ q x, Reaches r 0x03 0x028 s → (fbBook s).find? (fun e => decide (s.fb.cursor < e.1)) = some (q, x) → (s.fb.select = 0xFFFF → ringOldest s.fb ≤ q) →
       exec (.fbNext r) s = .next (ended 0x03 OC_OK { s with fb := { s.fb with cursor := q, cursorLost := false } })) ∧
     (Reaches r 0x03 0x028 s → fbAtEnd s = false → (fbBook s).find? (fun e => decide (s.fb.cursor < e.1)) = none →
       exec (.fbNext r) s =
         .next (ended 0x03 OC_OK { s with fb := { s.fb with cursor := max s.fb.cursor (fbNewest s) + 1, cursorLost := false } })) ∧
     (Reaches r 0x03 0x028 s →
       exec (.fbSeekOldest r) s = .next (ended 0x03 OC_OK { s with fb := { s.fb with cursor := fbOldest s, cursorLost := false } }))) ∧
  (∀ (r : Requester) (s : State), Reaches r 0x03 0x028 s →
     (s.fb.freeze = none → exec (.fbFreeze r) s =
       .next (ended 0x03 OC_OK { s with fb := { s.fb with freeze := some { owner := stampOf r, since := s.mono }, cursorLost := false } })) ∧
     (∀ z, s.fb.freeze = some z → z.owner ≠ stampOf r →
       exec (.fbFreeze r) s = .next (ended 0x03 OC_FB_FROZEN s) ∧ exec (.fbThaw r) s = .next (ended 0x03 OC_FB_FROZEN s)) ∧
     (∀ z, s.fb.freeze = some z → z.owner = stampOf r →
       Leads (.fbThaw r) s (fun t => t.fb.freeze = none ∧ outcomeOf t 0x03 = OC_OK ∧
         t.fb.nextSeq = s.fb.nextSeq + (if z.dropped = 0 then 0 else 1) ∧
         t = { s with fb := t.fb, queues := t.queues, outcomes := t.outcomes, out := t.out })))

/-- Only the warden pair writes KEY_DATA and KEY_CMD: it loads and erases vault slots 0 to 63, the pair slots 0 to 27 in the saved section
too; a slot beyond 63 is out of range, and any other requester gets OC_AUTH and is counted. -/
def Obligations.VaultCommandsAreTheWardensAlone : Prop :=
  ∀ (s : State),
    (∀ (k : Fin 8) (v : U32), Reaches .warden 0x09 (0x020 + 4 * k.val) s → exec (.keyDataWrite .warden k v) s =
      .next (ended 0x09 OC_OK { s with keys := { s.keys with keyData := tabPut s.keys.keyData k.val v } })) ∧
    (∀ slot : U8, Reaches .warden 0x09 0x040 s → slot.toNat < 64 →
      exec (.keyCmdLoad .warden slot) s = .next (ended 0x09 OC_OK
        (vaultPut slot.toNat { role := slotRole slot.toNat, version := 0, key := keyDataValue s } s)) ∧
      exec (.keyCmdErase .warden slot) s = .next (ended 0x09 OC_OK (vaultDel slot.toNat s))) ∧
    (∀ slot : U8, Reaches .warden 0x09 0x040 s → 64 ≤ slot.toNat →
      exec (.keyCmdLoad .warden slot) s = .next (ended 0x09 OC_RANGE s) ∧ exec (.keyCmdErase .warden slot) s = .next (ended 0x09 OC_RANGE s)) ∧
    (∀ (r : Requester) (k : Fin 8) (v : U32), r ≠ .warden → Reaches r 0x09 (0x020 + 4 * k.val) s →
      Leads (.keyDataWrite r k v) s (fun t => t.keys = { s.keys with refused := s.keys.refused + 1 } ∧ outcomeOf t 0x09 = OC_AUTH ∧
        t = { s with keys := t.keys, fb := t.fb, queues := t.queues, outcomes := t.outcomes, out := t.out }))

/-- The state that CMP_DOORBELL.GO meets: the bytes posted before it are there, and CMP_RESULT is cleared. -/
def imagesPosted (ws : List (Nat × List U8)) (s : State) : State := modUpd (fun u => { u with result := 0 }) (posted ws (saying [] s))

/-- CMP_DOORBELL.GO in RECOVERY: a manifest that checks is installed for trial and the device resets with RECOVERY_DONE; a manifest whose part
fails leaves its slot FAILED, one whose header fails leaves the slots, and both leave the code in CMP_RESULT. At boot source 0b10 a
manifest that fails leaves the device waiting with its code. -/
def Obligations.CompanionImagesAreCheckedAndInstalled : Prop :=
  ∀ (r : Requester) (ws : List (Nat × List U8)) (signerOk partOk imgOk : Bool) (x : StartInfo) (s u : State) (m : ManifestHead) (c : U16) (y : Slot),
    Reaches r 0x0A 0x048 s → s.upd.cadastreLen = 0 → u = imagesPosted ws s → m = companionHead signerOk u →
    (s.glob.state = .recovery → s.clk.pllLock.getLsbD 1 = true → s.upd.download = none →
      companionCheck m partOk (fwSlot s (recoverySlot s)) (hostPacket u) = (OC_OK, y) →
      Leads (.cmpDoorbellGo r ws signerOk partOk imgOk x) s (fun t => t.glob.state = .reset ∧ (fwSlot t (recoverySlot s)).state = 3 ∧
        t.upd.recoveryDone = true ∧ t.upd.trialAt = some t.mono)) ∧
    (s.glob.state = .recovery → s.clk.pllLock.getLsbD 1 = true → s.upd.download = none → c ≠ OC_OK →
      companionCheck m partOk (fwSlot s (recoverySlot s)) (hostPacket u) = (c, y) →
      Leads (.cmpDoorbellGo r ws signerOk partOk imgOk x) s (fun t => t.glob = s.glob ∧ t.upd.result = 0x80000000#32 ||| c.setWidth 32 ∧
        (y.state = 5 → (fwSlot t (recoverySlot s)).state = 5) ∧ (y.state ≠ 5 → t.upd.slots = s.upd.slots))) ∧
    (s.glob.state = .boot → s.glob.startStep = 8 → bootSrc s = 2 → c ≠ OC_OK → companionCheck m partOk {} u = (c, y) →
      Leads (.cmpDoorbellGo r ws signerOk partOk imgOk x) s (fun t => t.glob = s.glob ∧ t.upd.result = 0x80000000#32 ||| c.setWidth 32))
/-! ### The companion port -/

/-- A mailbox channel's lock: an EMPTY channel becomes LOCKED and owned by the reader, any other read returns the owner's stamp and changes nothing,
and a read against the direction takes nothing. Only the owner writes a message, in LOCKED only, and its post moves the channel to POSTED with the
owner's stamp and reset count. -/
def Obligations.ChannelIsLockedWrittenAndPosted : Prop :=
  (∀ (r : Requester) (c : Fin 40) (s : State), ReachesCh r c.val 0x00 s →
     (maySend r c.val = true → (chOf s c.val).state = .empty → exec (.chLockRead r c) s =
       .next (setCh c.val { state := .locked, owner := stampOf r } (saying [.rdata 0] s))) ∧
     (maySend r c.val = true → (chOf s c.val).state ≠ .empty → exec (.chLockRead r c) s =
       .next (saying [.rdata (0x80000000 ||| (chOf s c.val).owner)] s)) ∧
     (maySend r c.val = false → exec (.chLockRead r c) s =
       .next (saying [.outcome OC_CMP_DIRECTION, .rdata (0x80000000 ||| (chOf s c.val).owner)] s))) ∧
  (∀ (r : Requester) (c : Fin 40) (s : State),
     (∀ (k : Fin 16) (v : U32), ReachesCh r c.val (0x40 + 4 * k.val) s → (chOf s c.val).state = .locked → (chOf s c.val).owner = stampOf r →
       exec (.chMsgWrite r c k v) s =
         .next (ended (chBlock c.val) OC_OK (setCh c.val { chOf s c.val with msg := tabPut (chOf s c.val).msg k.val v } s))) ∧
     (∀ (k : Fin 16) (v : U32), ReachesCh r c.val (0x40 + 4 * k.val) s → (chOf s c.val).owner ≠ stampOf r →
       exec (.chMsgWrite r c k v) s = .next (ended (chBlock c.val) OC_CMP_NOT_OWNER s)) ∧
     (∀ (k : Fin 16) (v : U32), ReachesCh r c.val (0x40 + 4 * k.val) s → (chOf s c.val).owner = stampOf r →
       (chOf s c.val).state = .posted → exec (.chMsgWrite r c k v) s = .next (ended (chBlock c.val) OC_CMP_STATE s)) ∧
     (ReachesCh r c.val 0x0C s → maySend r c.val = true → (chOf s c.val).state = .locked → (chOf s c.val).owner = stampOf r →
       Leads (.chDoorbellPost r c) s (fun t => (chOf t c.val).state = .posted ∧ (chOf t c.val).stamp = stampOf r ∧
         (chOf t c.val).stampRc = resetCount r s ∧ (chOf t c.val).msg = (chOf s c.val).msg ∧ outcomeOf t (chBlock c.val) = OC_OK ∧
         t = { s with mbox := t.mbox, outcomes := t.outcomes, out := t.out })) ∧
     (ReachesCh r c.val 0x0C s → maySend r c.val = true → (chOf s c.val).owner ≠ stampOf r →
       exec (.chDoorbellPost r c) s = .next (ended (chBlock c.val) OC_CMP_NOT_OWNER s)))

/-- The receiving side takes a posted message, acknowledges it, and the owner releases the channel; others take nothing. -/
def Obligations.ChannelReceiverTakesAndAcknowledges : Prop :=
  ∀ (r : Requester) (c : Fin 40) (s : State),
    (ReachesCh r c.val 0x10 s → mayTake r c.val = true → (chOf s c.val).state = .posted → exec (.chStampTake r c) s =
      .next (setCh c.val { chOf s c.val with state := .taken } (saying [.rdata (chOf s c.val).stamp] s))) ∧
    (ReachesCh r c.val 0x10 s → mayTake r c.val = false → exec (.chStampTake r c) s = .next (saying [.rdata 0] s)) ∧
    (∀ v : U32, ReachesCh r c.val 0x18 s → v.toNat < 65536 → mayTake r c.val = true → (chOf s c.val).state = .taken →
      (chOf s c.val).lockStale = false → s.mbox.waiting = [] →
      Leads (.chAckWrite r c v) s (fun t => (chOf t c.val).state = .acked ∧ (chOf t c.val).ack = v.setWidth 16 ∧
        (chOutbound c.val = false → s.mbox.linkUp = true → Output.msix (chFn c.val) 1 ∈ t.out) ∧
        t = { s with mbox := t.mbox, outcomes := t.outcomes, out := t.out })) ∧
    (∀ v : U32, ReachesCh r c.val 0x18 s → v.toNat < 65536 → mayTake r c.val = true → (chOf s c.val).state ≠ .taken →
      exec (.chAckWrite r c v) s = .next (ended (chBlock c.val) OC_CMP_STATE s)) ∧
    (ReachesCh r c.val 0x04 s → (chOf s c.val).owner = stampOf r → ((chOf s c.val).state = .locked ∨ (chOf s c.val).state = .acked) →
      s.mbox.waiting = [] → exec (.chReleaseDone r c) s = .next (ended (chBlock c.val) OC_OK
        (setCh c.val { chOf s c.val with state := .empty, owner := 0, senderStale := false, lockStale := false } s))) ∧
    (ReachesCh r c.val 0x04 s → (chOf s c.val).owner = stampOf r → ((chOf s c.val).state = .posted ∨ (chOf s c.val).state = .taken) →
      exec (.chReleaseDone r c) s = .next (ended (chBlock c.val) OC_CMP_STATE s))

/-- An outbound message untaken for 10 s is withdrawn, and a response that waited 1 s for a channel is dropped. A Function Level Reset advances that
function's count; a hot reset or link down advances both and clears RUN of every DMA channel. -/
def Obligations.MailboxTimesOutAndFunctionResets : Prop :=
  (∀ (c : Fin 40) (s : State), s.downs = [] →
     (chOutbound c.val = true → (chOf s c.val).state = .posted → s.mbox.waiting = [] →
       Leads (.mboxOutboundWithdraw c) s (fun t => (chOf t c.val).state = .empty ∧ (chOf t c.val).owner = 0 ∧
         tabGet t.mbox.withdrawn (chFn c.val) 0 = tabGet s.mbox.withdrawn (chFn c.val) 0 + 1 ∧
         (chOf s c.val).postedAt + 10000000000 ≤ t.mono ∧
         t = { s with mbox := t.mbox, out := t.out, mono := t.mono, bench := t.bench, epoch := t.epoch, billing := t.billing })) ∧
     (∀ w ws, s.mbox.waiting = w :: ws →
       Leads .mboxResponseDrop s (fun t => t.mbox = { s.mbox with waiting := ws } ∧ w.since + 1000000000 ≤ t.mono ∧
         t = { s with mbox := t.mbox, out := [], mono := t.mono, bench := t.bench, epoch := t.epoch, billing := t.billing }))) ∧
  (∀ s : State, s.downs = [] →
     Leads (.pcieFlr 0) s (fun t => t.mbox.fn0Resets = s.mbox.fn0Resets + 1 ∧ t.mbox.fn1Resets = s.mbox.fn1Resets ∧
       t = { s with mbox := t.mbox, out := t.out }) ∧
     Leads (.pcieFlr 1) s (fun t => t.mbox.fn0Resets = s.mbox.fn0Resets ∧ t.mbox.fn1Resets = s.mbox.fn1Resets + 1 ∧
       t = { s with mbox := t.mbox, out := t.out }) ∧
     ∀ up : Bool, Leads (.pcieHotReset up) s (fun t => t.mbox.fn0Resets = s.mbox.fn0Resets + 1 ∧ t.mbox.fn1Resets = s.mbox.fn1Resets + 1 ∧
       t.mbox.linkUp = up ∧ (∀ c : Fin 4, (dmaOf t c.val).run = false) ∧ t = { s with mbox := t.mbox, dma := t.dma, freeCtr := t.freeCtr, out := t.out }))

/-- A message in POSTED on an inbound channel names this service, and its channel is not stale. -/
def mailFor (n : Nat) (c : Fin 40) (s : State) : Prop :=
  servesMail s = true ∧ chOutbound c.val = false ∧ (chOf s c.val).state = .posted ∧ serviceOf (chOf s c.val) = n ∧
    (chOf s c.val).senderStale = false ∧ (chOf s c.val).lockStale = false ∧ s.downs = []

/-- The acknowledgement of a service stands in its channel. -/
def acked (c : Fin 40) (code : U16) (t : State) : Prop := (chOf t c.val).state = .acked ∧ (chOf t c.val).ack = code

/-- PING acknowledges OC_OK; a service that is not defined acknowledges OC_CMP_SERVICE; EVENT_FEED sets or clears the feed on a non-secure channel; a
KEYLOAD on a secure channel enters MAINTENANCE where it may, and a malformed map acknowledges OC_HX_FORMAT. STATUS answers with eight status
registers, and QUOTE writes the signed quote at OFFSET of the companion area. -/
def Obligations.MailboxServicesAnswer : Prop :=
  (∀ (c : Fin 40) (s : State),
     (mailFor 0x0001 c s → Leads (.mboxPing c) s (fun t => acked c OC_OK t ∧ t = { s with mbox := t.mbox, out := t.out })) ∧
     (∀ n, mailFor n c s → servicesDefined.contains n = false →
       Leads (.mboxUndefinedService c) s (fun t => acked c OC_CMP_SERVICE t ∧ t = { s with mbox := t.mbox, out := t.out })) ∧
     (mailFor 0x0020 c s → chSecure c.val = false → (tabGet (chOf s c.val).msg 2 0).toNat % 256 ≤ 1 →
       Leads (.mboxEventFeed c) s (fun t => acked c OC_OK t ∧ t.fb.feed = ((tabGet (chOf s c.val).msg 2 0).toNat % 256 == 1) ∧
         t = { s with mbox := t.mbox, fb := { s.fb with feed := t.fb.feed }, out := t.out })) ∧
     (∀ (ws : List (Nat × List U8)) (g : Memory) (off len : Nat), mailFor 0x0010 c s → chSecure c.val = true → mailKeysOpen s = true →
       g = ws.foldl (fun m w => memWriteBytes m w.1 w.2) s.stage → off = (tabGet (chOf s c.val).msg 2 0).toNat →
       len = (tabGet (chOf s c.val).msg 3 0).toNat → off + len ≤ 65536 →
       (mailRead (memReadBytes g off len) = .malformed →
         Leads (.mboxKeyload c ws) s (fun t => acked c OC_HX_FORMAT t ∧ t.stage = g ∧
           t = { s with mbox := t.mbox, out := t.out, stage := t.stage })) ∧
       (mailRead (memReadBytes g off len) = .maintenance true → mailLate s = none → maintCheck true s = OC_OK →
         Leads (.mboxKeyload c ws) s (fun t => acked c OC_OK t ∧ t.keys.maintenance = true ∧ t.stage = g)))) ∧
  (∀ (c : Fin 40) (s : State),
     (mailFor 0x0002 c s → ∀ d, freeOut (chSecure c.val) s = some d →
       Leads (.mboxStatus c) s (fun t => (chOf t d).state = .posted ∧ (chOf t d).msg =
         [(0, 2), (1, tabGet (chOf s c.val).msg 1 0), (2, deviceStatus s), (3, loI s.epoch.current), (4, hiI s.epoch.current),
          (5, lifecycleView s), (6, twinStatus s), (7, updStatus s), (8, archStatus s), (9, traverseStatus s)] ∧
         t = { s with mbox := t.mbox, out := t.out })) ∧
     (mailFor 0x0003 c s → (tabGet (chOf s c.val).msg 10 0).toNat + 5924 ≤ 268435456 → s.keys.q < s.keys.reservedEnd → s.keys.q < 2 ^ 40 →
       Leads (.mboxQuote c) s (fun t => t.keys.q = s.keys.q + 1 ∧
         t.cmp = memWriteBytes s.cmp (tabGet (chOf s c.val).msg 10 0).toNat
           (quoteBytes (mailNonce (chOf s c.val)) false s ++ signature (quoteBytes (mailNonce (chOf s c.val)) false s) s.keys.q))))

/-- Queue pushes and pops: a word is appended or the oldest removed; a full queue, a wrong direction and an empty queue change no word. TSQ_POP
removes and returns the oldest time-stamp queue entry; an empty queue reads 0. -/
def Obligations.WordQueuesAndStampQueueAreFirstInFirstOut : Prop :=
  (∀ (r : Requester) (q : Fin 22) (s : State),
     (∀ v : U32, Reaches r 0x06 (0x1000 + 0x40 * q.val) s → mayPush r q.val = true → (tabGet s.queues q.val {}).words.length < queueDepth q.val →
       Leads (.qDataPush r q v) s (fun t => (tabGet t.queues q.val {}).words = (tabGet s.queues q.val {}).words ++ [(v, false)] ∧
         outcomeOf t 0x06 = OC_OK ∧ t = { s with queues := t.queues, outcomes := t.outcomes, out := t.out })) ∧
     (∀ v : U32, Reaches r 0x06 (0x1000 + 0x40 * q.val) s → mayPush r q.val = true → queueDepth q.val ≤ (tabGet s.queues q.val {}).words.length →
       exec (.qDataPush r q v) s = .next (ended 0x06 OC_CMP_QUEUE_FULL s)) ∧
     (∀ v : U32, Reaches r 0x06 (0x1000 + 0x40 * q.val) s → mayPush r q.val = false →
       exec (.qDataPush r q v) s = .next (ended 0x06 OC_CMP_DIRECTION s)) ∧
     (Reaches r 0x06 (0x1000 + 0x40 * q.val) s → s.downs = [] → mayPop r q.val = true → ∀ v ws, (tabGet s.queues q.val {}).words = (v, false) :: ws →
       Leads (.qDataPop r q .clean) s (fun t => t.out = [.rdata v] ∧ (tabGet t.queues q.val {}).words = ws ∧
         (tabGet t.queues q.val {}).emptyLast = false ∧ t = { s with queues := t.queues, out := t.out })) ∧
     (Reaches r 0x06 (0x1000 + 0x40 * q.val) s → s.downs = [] → mayPop r q.val = true → (tabGet s.queues q.val {}).words = [] →
       Leads (.qDataPop r q .clean) s (fun t => t.out = [.rdata idleWord] ∧ (tabGet t.queues q.val {}).words = [] ∧
         (tabGet t.queues q.val {}).emptyLast = true ∧ t = { s with queues := t.queues, out := t.out })) ∧
     (Reaches r 0x06 (0x1000 + 0x40 * q.val) s → s.downs = [] → mayPop r q.val = false →
       exec (.qDataPop r q .clean) s = .next (saying [.rdata idleWord] s)) ∧
     (∀ a b : U16, 8 ≤ q.val → s.downs = [] → (tabGet s.queues q.val {}).enable = true → (tabGet s.queues q.val {}).words.length < queueDepth q.val →
       Leads (.streamCapture q (.plc a b)) s (fun t => (tabGet t.queues q.val {}).words =
         (tabGet s.queues q.val {}).words ++ [(a.setWidth 32 ||| (b.setWidth 32 <<< 16), false)] ∧ t = { s with queues := t.queues, out := t.out }))) ∧
  (∀ (r : Requester) (s : State), Reaches r 0x40 0x00C s →
     (∀ e es, s.ptp.tsq = e :: es → exec (.tsqPopRead r) s = .next { s with
       out := [.rdata (fieldAt e.port.toNat 30 ||| bitAt e.transmit 29 ||| fieldAt e.msgType.toNat 24 ||| fieldAt e.gen.toNat 20 |||
         fieldAt e.seqId.toNat 0)],
       ptp := { s.ptp with tsq := es, tsqStamp := e.stamp } }) ∧
     (s.ptp.tsq = [] → exec (.tsqPopRead r) s = .next (saying [.rdata 0] s)))

/-- The ring of a DMA channel: an accepted write of DMA_RING or DMA_RING_SIZE sets HEAD and TAIL to 0, a running channel refuses it with OC_BUSY,
DMA_TAIL makes descriptors ready, RUN starts the engine, and DISABLE clears RUN. A FILL descriptor within the companion area: its bytes are written,
then the result fields, OUTCOME and DONE; HEAD and the count advance. A descriptor of a reserved operation ends OC_CMP_DMA_DESC and stops the channel,
with HEAD kept. -/
def Obligations.DmaRingIsDrivenAndCompletes : Prop :=
  (∀ (r : Requester) (c : Fin 4) (v : U32) (s : State),
     (Reaches r 0x07 (0x100 + 0x40 * c.val) s → (dmaOf s c.val).run = false → v.toNat % 64 = 0 → v.toNat < 268435456 →
       exec (.dmaRingWrite r c false v) s = .next (ended 0x07 OC_OK (setDma c.val { dmaOf s c.val with ring := v, head := 0, tail := 0 } s))) ∧
     (Reaches r 0x07 (0x104 + 0x40 * c.val) s → (dmaOf s c.val).run = false → ringSizeOk v.toNat = true →
       exec (.dmaRingWrite r c true v) s = .next (ended 0x07 OC_OK (setDma c.val { dmaOf s c.val with size := v, head := 0, tail := 0 } s))) ∧
     (Reaches r 0x07 (0x100 + 0x40 * c.val) s → (dmaOf s c.val).run = true →
       exec (.dmaRingWrite r c false v) s = .next (ended 0x07 OC_BUSY s)) ∧
     (∀ ws, Reaches r 0x07 (0x10C + 0x40 * c.val) s → v.toNat < (dmaOf s c.val).size.toNat →
       Leads (.dmaTailWrite r c ws v) s (fun t => dmaOf t c.val = { dmaOf s c.val with tail := v } ∧
         t.cmp = ws.foldl (fun m w => memWriteBytes m w.1 w.2) s.cmp ∧ outcomeOf t 0x07 = OC_OK ∧
         t = { s with dma := t.dma, cmp := t.cmp, outcomes := t.outcomes, out := t.out })) ∧
     (∀ ws, Reaches r 0x07 (0x110 + 0x40 * c.val) s →
       Leads (.dmaRun r c ws) s (fun t => dmaOf t c.val = { dmaOf s c.val with run := true, stopped := false } ∧
         t.cmp = ws.foldl (fun m w => memWriteBytes m w.1 w.2) s.cmp ∧ outcomeOf t 0x07 = OC_OK ∧
         t = { s with dma := t.dma, cmp := t.cmp, outcomes := t.outcomes, out := t.out })) ∧
     (Reaches r 0x07 (0x110 + 0x40 * c.val) s →
       Leads (.dmaDisable r c) s (fun t => dmaOf t c.val = { dmaOf s c.val with run := false, head := (dmaOf t c.val).head, done := (dmaOf t c.val).done } ∧
         t = { s with dma := t.dma, freeCtr := t.freeCtr, outcomes := t.outcomes, out := t.out }))) ∧
  (∀ (c : Fin 4) (h : HostAnswer) (s : State) (d : Descriptor), s.downs = [] → (dmaOf s c.val).run = true → (dmaOf s c.val).stopped = false →
     (dmaOf s c.val).head ≠ (dmaOf s c.val).tail → d = descriptorAt s.cmp ((dmaOf s c.val).ring.toNat + 64 * (dmaOf s c.val).head.toNat) →
     (d.op = 2 → d.dstSpace = 0 → 0 < d.length → d.dst + d.length ≤ 268435456 → d.srcSpace ≠ 1 →
       Leads (.dmaDescriptorDone c h) s (fun t =>
         t.cmp = memWriteBytes (memWriteBytes s.cmp d.dst ((List.range d.length).map (fun i => (leBytes 4 (d.src % 4294967296)).getD (i % 4) 0)))
           ((dmaOf s c.val).ring.toNat + 64 * (dmaOf s c.val).head.toNat + 32) (leBytes 8 0 ++ leBytes 4 d.length ++ leBytes 2 OC_OK.toNat ++ [1]) ∧
         (dmaOf t c.val).head = u32 (((dmaOf s c.val).head.toNat + 1) % max 1 (dmaOf s c.val).size.toNat) ∧
         (dmaOf t c.val).done = (dmaOf s c.val).done + 1 ∧ (dmaOf t c.val).lastCode = OC_OK ∧
         t = { s with dma := t.dma, cmp := t.cmp, ecc := { s.ecc with poisoned := t.ecc.poisoned }, out := t.out })) ∧
     (d.op = 0 →
       Leads (.dmaDescriptorDone c h) s (fun t => (dmaOf t c.val).stopped = true ∧ (dmaOf t c.val).head = (dmaOf s c.val).head ∧
         (dmaOf t c.val).lastCode = OC_CMP_DMA_DESC ∧ t = { s with dma := t.dma, cmp := t.cmp, out := t.out })))

/-! ### Time and clocks -/

/-- The keeper's refresh sets the anchor of the current generation to device time now, and device time stays as it is. A requested step is applied no
sooner than 2 s after the last one: STEP_GEN and BM_STEPS advance, the request is gone, and the new generation has its anchor. -/
def Obligations.AnchorAndStepKeepDeviceTime : Prop :=
  (∀ s : State, s.downs = [] → Leads .anchorRefresh s (fun t => devTime t = devTime s ∧
     tabGet t.bench.anchors s.bench.stepGen.toNat (0, 0) = (devTime s, bmInt s) ∧
     t = { s with bench := { s.bench with anchors := t.bench.anchors }, out := [] })) ∧
  (∀ (s : State) (d : Int), s.bench.stepReq = some d →
     Leads .bmStepApply s (fun t => t.bench.stepReq = none ∧ t.bench.stepGen = s.bench.stepGen + 1 ∧ t.bench.steps = s.bench.steps + 1 ∧
       t.bench.lastStep = some t.mono ∧ (∀ l, s.bench.lastStep = some l → l + 2000000000 < t.mono) ∧
       (tabFind t.bench.anchors (s.bench.stepGen + 1).toNat).isSome = true))

/-- An accepted message of PTP: listed parts, the unit's domain and a port of PORT_MASK. -/
def ptpAccepted (s : State) (h : PtpHeader) : Prop := ptpListed s h = true ∧ ptpOurs s h = true

/-- A Sync of the slave port and a Follow_Up of the same exchange reach the servo: the offset measured and filtered, the estimate and the acceptance
count; a two-step Sync waits for its Follow_Up; a message of unlisted parts is only counted as discarded. A master port answers a Delay_Req, a
Delay_Resp completes the client's measurement, an Announce enters the masters known, and a frame of TC_DOMAIN goes to the other TC ports with its
residence time in units of 2^-16 ns added. -/
def Obligations.PtpMessagesReachServoAndClients : Prop :=
  (∀ (h : PtpHeader) (origin : Nat) (f : ServoResult) (s : State),
     (ptpAccepted s h → slavePort s = some h.port → s.ptp.tsq.length < 64 → ∀ z : Int,
       z = (devTime (elapse h.dt s) : Int) - (origin : Int) - h.correction / 65536 - s.ptp.delay + f.filter →
       Leads (.ptpSync h false origin f) s (fun t => t.ptp.accepted = s.ptp.accepted + 1 ∧ t.ptp.offset = z ∧
         (s.glob.tq ≠ 1 → t.ptp.eps0 = z.natAbs + cadNum s 0x0910 6 + accuracyBound (tabGet s.ptp.masters h.port {}).accuracy) ∧
         t.ptp.lastSync = t.mono ∧ s.mono + h.dt ≤ t.mono)) ∧
     (ptpAccepted s h → slavePort s = some h.port → s.ptp.tsq.length < 64 →
       Leads (.ptpSync h true origin f) s (fun t => t.ptp.accepted = s.ptp.accepted ∧
         (∃ x, t.ptp.sync = some x ∧ x.seqId = h.seqId ∧ x.port = h.port ∧ x.t1 = none ∧ x.corr = h.correction) ∧
         t.ptp.tsq.length = s.ptp.tsq.length + 1)) ∧
     (ptpAccepted s h → slavePort s = some h.port → ∀ x y : PtpExchange, s.ptp.sync = some x → x.port = h.port → x.seqId = h.seqId →
       y = { x with t1 := some origin, corr := x.corr + h.correction } →
       Leads (.ptpFollowUp h origin f) s (fun t => t.ptp.accepted = s.ptp.accepted + 1 ∧ t.ptp.offset = measuredOffset y s + f.filter ∧
         t.ptp.sync = none ∧ t.ptp.exchange = some y)) ∧
     (ptpListed s h = false → Leads (.ptpSync h false origin f) s (fun t => t.ptp = { s.ptp with discarded := s.ptp.discarded + 1 }))) ∧
  (∀ (h : PtpHeader) (s : State), s.downs = [] →
     (ptpAccepted s h → masterSends s h.port = true →
       Leads (.ptpDelayReq h) s (fun t => ∃ ns : Nat, t.out = [.send (.eth h.port) "DELAY_RESP" [h.seqId.toNat, ns, h.source.toNat]] ∧
         t = { s with ptp := t.ptp, mono := t.mono, bench := t.bench, epoch := t.epoch, billing := t.billing, out := t.out })) ∧
     (∀ received t3 x, ptpAccepted s h → s.ptp.delayReq = some (h.seqId, t3) → s.ptp.exchange = some x → slavePort s = some h.port →
       Leads (.ptpDelayResp h received) s (fun t => t.ptp = { s.ptp with delayReq := none, delay :=
         ((x.t2 : Int) - (x.t1.getD 0 : Nat) + ((received : Int) - t3) - (x.corr + h.correction) / 65536) / 2 })) ∧
     (∀ a, ptpAccepted s h → Leads (.ptpAnnounce h a) s (fun t =>
       (tabGet t.ptp.masters h.port {}).identity = a.identity ∧ (tabGet t.ptp.masters h.port {}).clockClass = a.clockClass ∧
       (tabGet t.ptp.masters h.port {}).stepsRemoved = a.stepsRemoved ∧ s.mono + h.dt ≤ tabGet t.ptp.heard h.port 0)) ∧
     (∀ ty residence, (cadNum s 0x0911 0).testBit h.port = true → h.domain = cadNum s 0x0911 1 → h.transport = 2 → s.twin.role ≤ 1 →
       Leads (.tcForward h ty residence) s (fun t => t.ptp = { s.ptp with forwarded := s.ptp.forwarded + 1 } ∧
         t.out = ([0, 1, 2, 3].filter (fun p => (cadNum s 0x0911 0).testBit p && p != h.port)).map
           (fun p => .send (.eth p) "TC" [(ty : Int), (h.seqId.toNat : Int), if ty ≤ 1 then h.correction + residence * 65536 else h.correction]))))

/-- Time quality falls as the rules say: loss of Syncs ends lock, the holdover estimate's limit gives TQ2, and SUSPECT_MAX_H in TQ2 gives TQ3. PPS_IN
edges are stamped and judged against the last, a missing edge ends their validity, and PPS_OUT rises in TQ0 and TQ1. -/
def Obligations.TimeQualityFallsAndPulsesAreStamped : Prop :=
  (∀ s : State,
     (s.ptp.locked = true → s.glob.tq = 0 → Leads .syncLossTimeout s (fun t => t.ptp.locked = false ∧ t.glob.tq = 1 ∧
       s.ptp.lastSync + cadNum s 0x0910 4 * 1000000000 ≤ t.mono)) ∧
     (s.glob.tq = 1 → Leads .holdoverLimit s (fun t => t.glob.tq = 2)) ∧
     (s.glob.tq = 2 → Leads .suspectMaxExpiry s (fun t => t.glob.tq = 3 ∧ s.ptp.suspectAt + cadNum s 0x0913 1 * 3600000000000 ≤ t.mono))) ∧
  (∀ s : State, s.downs = [] →
     (∀ dt, cadNum s 0x0913 3 = 1 → spHas s 8 = true → Leads (.ppsInEdge dt) s (fun t => t.bench.ppsStamp = bmInt t ∧
       t.bench.ppsLast = some (devTime t) ∧
       t.bench.ppsValid = (match s.bench.ppsLast with
         | some l => decide (l + 999000000 ≤ devTime t ∧ devTime t ≤ l + 1001000000)
         | none => false) ∧
       t = { s with mono := t.mono, bench := t.bench, epoch := t.epoch, billing := t.billing, out := [] })) ∧
     (∀ l, s.bench.ppsLast = some l → Leads .ppsInLoss s (fun t => t.bench.ppsValid = false ∧
       t = { s with mono := t.mono, bench := t.bench, epoch := t.epoch, billing := t.billing, out := [] })) ∧
     (spHas s 9 = true → s.glob.tq ≤ 1 → s.glob.season = .run → Leads .ppsOutPulse s (fun t => t.bench.ppsRise = some t.mono ∧
       t = { s with mono := t.mono, bench := t.bench, epoch := t.epoch, billing := t.billing, out := [] })))

/-- A judging window within its band counts toward the source's pass, one outside starts the count again, and a failed source is tried again 100 ms
later. A good source is monitored with the same windows: one within the band starts the count of misses again, one outside is a miss, and the second
miss in a row, or a window with no edge, trips the source. Monitor trips: FIO moves the keeper to SIO, XB the always-on counter, REFCLK takes the
SerDes ports and the companion link down, and REFCLK_YIELD_MS later TWIN_ALIVE is low. Each trip is counted. -/
def Obligations.ClockSourcesAreJudgedAndTripsMoveUsers : Prop :=
  (∀ (k : ClockSource) (count : Nat) (s : State), s.downs = [] →
     ((srcOf s k).good = false → (judging s k).2.1.1 ≤ count → count ≤ (judging s k).2.1.2 → (srcOf s k).passes + 1 < (judging s k).2.2.1 →
       Leads (.clockJudgeWindow k count) s (fun t => srcOf t k = { srcOf s k with passes := (srcOf s k).passes + 1 } ∧
         t = { s with clk := t.clk, mono := t.mono, bench := t.bench, epoch := t.epoch, billing := t.billing, out := [] })) ∧
     ((srcOf s k).good = false → k ≠ .fio → (count < (judging s k).2.1.1 ∨ (judging s k).2.1.2 < count) →
       Leads (.clockJudgeWindow k count) s (fun t => (srcOf t k).good = false ∧ (srcOf t k).passes = 0 ∧
         t = { s with clk := t.clk, mono := t.mono, bench := t.bench, epoch := t.epoch, billing := t.billing, out := [] })) ∧
     (k = .xb → (srcOf s k).good = false → (judging s k).2.1.1 ≤ count → count ≤ (judging s k).2.1.2 →
       (judging s k).2.2.1 ≤ (srcOf s k).passes + 1 → Leads (.clockJudgeWindow k count) s (fun t => t.clk.xb.good = true ∧ t.clk.aonSio = false)) ∧
     ((srcOf s k).good = true → (judging s k).2.1.1 ≤ count → count ≤ (judging s k).2.1.2 →
       Leads (.clockJudgeWindow k count) s (fun t => srcOf t k = { srcOf s k with misses := 0 } ∧
         t = { s with clk := t.clk, mono := t.mono, bench := t.bench, epoch := t.epoch, billing := t.billing, out := [] })) ∧
     ((srcOf s k).good = true → (count < (judging s k).2.1.1 ∨ (judging s k).2.1.2 < count) → count ≠ 0 → (srcOf s k).misses = 0 →
       Leads (.clockJudgeWindow k count) s (fun t => srcOf t k = { srcOf s k with misses := 1 } ∧
         t = { s with clk := t.clk, mono := t.mono, bench := t.bench, epoch := t.epoch, billing := t.billing, out := [] })) ∧
     (k = .fio ∨ k = .xb → (srcOf s k).good = true → (count < (judging s k).2.1.1 ∨ (judging s k).2.1.2 < count) →
       (count = 0 ∨ 1 ≤ (srcOf s k).misses) → Leads (.clockJudgeWindow k count) s (fun t => (srcOf t k).good = false ∧
         t.clk.trips = s.clk.trips + 1)) ∧
     ((srcOf s k).failed = true → Leads (.clockSourceRetry k) s (fun t => (srcOf t k).failed = false ∧ (srcOf t k).passes = 0 ∧
       (srcOf t k).since = t.mono ∧ (srcOf s k).since + 100000000 ≤ t.mono ∧
         t = { s with clk := t.clk, mono := t.mono, bench := t.bench, epoch := t.epoch, billing := t.billing, out := [] }))) ∧
  (∀ s : State,
     (s.downs = [] → Leads .fioTrip s (fun t => t.clk.fio.good = false ∧ t.clk.keeperSio = true ∧ t.clk.trips = s.clk.trips + 1 ∧
       t = { s with clk := t.clk, fb := t.fb, queues := t.queues, out := t.out } ∧
       t.clk = { s.clk with fio := t.clk.fio, keeperSio := true, trips := t.clk.trips })) ∧
     (s.downs = [] → Leads .xbTrip s (fun t => t.clk.xb.good = false ∧ t.clk.aonSio = true ∧ t.clk.trips = s.clk.trips + 1 ∧
       t = { s with clk := t.clk, fb := t.fb, queues := t.queues, out := t.out } ∧
       t.clk = { s.clk with xb := t.clk.xb, aonSio := true, trips := t.clk.trips })) ∧
     Leads .refclkTrip s (fun t => t.clk.refclk.good = false ∧ t.clk.refclkAt = some s.mono ∧ t.clk.trips = s.clk.trips + 1 ∧
       t.panel.links = 0 ∧ t.twin.link.lanes = 0 ∧ t.mbox.linkUp = false ∧ t.clk.pllLock.getLsbD 2 = false) ∧
     (∀ a, s.clk.refclkAt = some a → Leads .refclkYieldTimeout s (fun t => t.twin.alive = false ∧ a + cadNum s 0x0915 0 * 1000000 ≤ t.mono)))

/-- An XA trip outside the states with no fast domain enters SLOW_HOLD with Benchmark stopped where FIO is not good, and where it is good the
device goes on from FIO, DEGRADED where it was HEALTHY; the last gasp goes on from FIO in its own state; with no fast domain the trip only
marks XA. A PLL that loses lock under a good reference raises a C4 fault. -/
def Obligations.XaTripsAndLostLocksAreHandled : Prop :=
  ∀ s : State,
    (s.glob.state ∉ [DevState.reset, .halted, .slowHold, .lastGasp] → s.clk.fio.good = false →
      Leads .xaTrip s (fun t => t.glob.state = .slowHold ∧ t.bench.running = false ∧ t.trav.stopped = true ∧ t.clk.xa.good = false ∧
        t.clk.slowHolds = s.clk.slowHolds + 1 ∧ t.clk.holdAt = some s.mono ∧ t.ptp.locked = false)) ∧
    (s.glob.state ∉ [DevState.reset, .halted, .slowHold, .lastGasp] → s.clk.fio.good = true →
      Leads .xaTrip s (fun t => t.glob.state = (if s.glob.state = .healthy then .degraded else s.glob.state) ∧ t.bench.running = true ∧
        t.clk.onFio = true ∧ t.clk.holdAt = none ∧ t.clk.xa.good = false ∧ t.clk.slowHolds = s.clk.slowHolds + 1)) ∧
    (s.glob.state = .lastGasp → Leads .xaTrip s (fun t => t.glob.state = .lastGasp ∧ t.bench.running = true ∧ t.clk.onFio = true ∧
      t.clk.xa.good = false ∧ t.clk.slowHolds = s.clk.slowHolds)) ∧
    (s.glob.state ∈ [DevState.reset, .halted, .slowHold] → s.downs = [] → Leads .xaTrip s (fun t => t.clk.xa.good = false ∧
      t.clk.trips = s.clk.trips + 1 ∧ t.clk = { s.clk with xa := t.clk.xa, trips := t.clk.trips } ∧
      t = { s with clk := t.clk, fb := t.fb, queues := t.queues, out := t.out })) ∧
    (∀ p : Pll, (match p with
        | .spll => s.clk.refclk.good
        | _ => if s.clk.onFio then s.clk.fio.good else s.clk.xa.good) = true →
      Leads (.pllUnlock p) s (fun t => t.trav.stopped = true ∧ t.trav.c4 = some (s.trav.c4.getD OC_PLL_UNLOCK) ∧
        t.clk.pllLock = s.clk.pllLock &&& ~~~(1#4 <<< (match p with
          | .cpll => 0
          | .mpll => 1
          | .spll => 2
          | .tpll => 3))))

/-! ### Start-up, device states, the epoch boundary and containment -/

/-- A cold start: a rail that fails halts it at step 3 with OC_FAULT, boot source 0b11 leads to RECOVERY, and boot source 0b10 waits after
step 8 for the companion's images. -/
def Obligations.StartupFollowsItsSteps : Prop :=
  ∀ (i : StartInfo) (s : State), i.cold = true →
    (i.railFail ≠ none → Leads (.startup i) s (fun t => t.glob.state = .halted ∧ t.glob.haltCode = OC_FAULT ∧ t.glob.startStep = 2)) ∧
    (i.railFail = none → i.clocksGood = false →
      Leads (.startup i) s (fun t => t.glob.state = .halted ∧ t.glob.haltCode = OC_FAULT ∧ t.glob.startStep = 3)) ∧
    (i.railFail = none → i.clocksGood = true → i.pins.toNat % 4 = 3 →
      Leads (.startup i) s (fun t => t.glob.state = .recovery ∧ t.upd.reason = 0 ∧ t.upd.announcing = true ∧ t.glob.startWd = false)) ∧
    (i.railFail = none → i.clocksGood = true → i.pins.toNat % 4 = 2 → s.keys.state = 0 → dramOk i (dramFound i s) = true →
      Leads (.startup i) s (fun t => t.glob.state = .boot ∧ t.glob.startStep = 8 ∧ t.mbox.linkUp = i.companion ∧
        t.glob.straps = i.pins.setWidth 6))

/-- The resets of the start: a warm reset returns the device to RESET with its RWS counters as they stood, the 180 s watchdog and the 10 s timer of
HALTED end in it, and no doorbell within 60 s ends in HALTED with OC_NO_CADASTRE. Ports that are not up in time are retired and the start ends in
service: DEGRADED where a port was retired. Ingest starts at the first epoch boundary after it; where the epoch length has changed, the epoch that
begins there is numbered one above the last sealed. -/
def Obligations.StartsEndInServiceAndResetsInReset : Prop :=
  (∀ s : State,
     Leads .warmReset s (fun t => t.glob.state = .reset ∧ t.glob.startStep = 0 ∧ t.power.trips = s.power.trips ∧
       t.upd.activations = s.upd.activations ∧ t.upd.bootAttempts = s.upd.bootAttempts ∧ t.mbox.warmResets = s.mbox.warmResets + 1 ∧
       t.keys.state = s.keys.state ∧ t.mono = s.mono) ∧
     (s.glob.startWd = true → serving s = false →
       Leads .startWatchdogExpiry s (fun t => t.glob.state = .reset ∧ s.glob.startAt + 180000000000 ≤ t.mono)) ∧
     (∀ a, s.glob.haltedAt = some a → s.glob.state = .halted → s.keys.state ≠ 6 →
       Leads .haltedResetTimer s (fun t => t.glob.state = .reset ∧ a + 10000000000 ≤ t.mono)) ∧
     (s.glob.state = .boot → s.glob.startStep = 8 → bootSrc s = 2 →
       Leads .companionImageTimeout s (fun t => t.glob.state = .halted ∧ t.glob.haltCode = OC_NO_CADASTRE ∧
         s.glob.bootAt + 60000000000 ≤ t.mono))) ∧
  (∀ s : State,
     (s.glob.state = .starting → s.glob.startStep = 13 → twinParam s 0 = 0 →
       Leads .portStartTimeout s (fun t => serving t = true ∧ t.glob.startStep = 16 ∧ portsSettled t = true ∧
         (portsSettled s = false → t.glob.state = .degraded) ∧ s.glob.portsAt + cadNum s 0x0022 0 * 1000000 ≤ t.mono)) ∧
     (∀ load fail bad, s.bench.running = true → serving s = true → s.glob.ingest = false → s.upd.deferredAt = none →
       Leads (.epochBoundary load fail bad) s (fun t => t.glob.ingest = true ∧ t.glob.startStep = 17 ∧
         ∀ n ms b, s.jrn.sealed = some (n, ms, b) → s.glob.startStep < 17 → s.twin.role ≤ 1 → ms * 1000000 ≠ epochLen s →
           t.epoch.current = n + 1)))

/-- In service a boundary starts the boundary work of the epoch it ends; the seal closes the journal range at the last JSN, and signing the
sheet carries the chain on. -/
def Obligations.EpochBoundaryWorkGoesStepByStep : Prop :=
  ∀ s : State,
    (∀ load fail bad, s.bench.running = true → serving s = true → s.glob.ingest = true → 17 ≤ s.glob.startStep → s.twin.role ≤ 1 →
      s.upd.deferredAt = none → s.epoch.work = [] →
      Leads (.epochBoundary load fail bad) s (fun t => s.epoch.current + 1 ≤ t.epoch.current ∧
        t.epoch.work = [{ epoch := s.epoch.current, step := 2, boundary := epochEnd s s.epoch.current }])) ∧
    (∀ w, s.epoch.work = [w] → w.step < 4 → s.twin.role ≤ 1 → s.glob.ingest = true → undrained s w.epoch = false → commitRoom 128 s = true →
      Leads .epochSealCommit s (fun t => t.epoch.work = [{ w with step := 4 }] ∧ t.jrn.lastSeal = t.jrn.lastJsn ∧
        t.jrn.sealed = some (w.epoch, epochLen s / 1000000, w.boundary) ∧ s.jrn.lastJsn + 1 ≤ t.jrn.lastJsn ∧ t.jrn.pageFill = 0)) ∧
    (∀ w fail x u, s.epoch.work = [w] → w.step = 4 → s.twin.role ≤ 1 → s.keys.q < s.keys.reservedEnd →
      buildSheet false w.epoch (saying [] s) = some (x, u) →
      Leads (.sheetSign fail) s (fun t => t.hx.chain = some (w.epoch, x.sealHash) ∧ (∀ y ∈ t.epoch.work, 6 ≤ y.step)))

/-- A drained quiescent value is installed and its drain ends; a cluster that has drained is gated. Die-to-die transfer errors: a retry that succeeds
is a C1 event, a further failure counts toward 16, the 16th retrains the link under a C3 handling, and retraining that lasts 1 ms is a C4 fault. -/
def Obligations.DrainedBlocksAndDieLinkErrors : Prop :=
  (∀ s : State,
     (∀ tag v, s.cad.draining.contains tag = true → blockIdle tag s = true → tabFind s.cad.staged tag = some v →
       Leads (.quiescentApply tag) s (fun t => t.cad =
         { s.cad with running := tabPut s.cad.running tag v, staged := tabDel s.cad.staged tag,
                      draining := s.cad.draining.filter (· != tag),
                      blankWas := if tag = 0x0502 then some (s.mono, valRows s.cad.running 0x0502) else s.cad.blankWas })) ∧
     (∀ k, s.downs = [] → s.glob.draining = some k → exec .clusterGated s = .next (saying []
       { s with glob := { s.glob with clustersUp := s.glob.clustersUp &&& ~~~(1#4 <<< k), draining := none } }))) ∧
  (∀ s : State,
     (s.downs = [] → exec (.dieLinkTransferError true) s = .next (saying []
       { s with glob := { s.glob with dieErrors := s.glob.dieErrors + 1, dieRetries := 0 }, trav := { s.trav with c1 := s.trav.c1 + 1 } })) ∧
     (s.downs = [] → s.glob.dieRetries + 1 < 16 → exec (.dieLinkTransferError false) s = .next (saying []
       { s with glob := { s.glob with dieErrors := s.glob.dieErrors + 1, dieRetries := s.glob.dieRetries + 1 } })) ∧
     (16 ≤ s.glob.dieRetries + 1 → s.trav.handlings = [] →
       Leads (.dieLinkTransferError false) s (fun t => t.glob.dieErrors = s.glob.dieErrors + 1 ∧ t.glob.dieRetries = 0 ∧
         t.glob.dieRetrain = some s.mono ∧ ∃ h, t.trav.handlings = [h] ∧ h.cls = 3 ∧ h.scope = .block 0 ∧ h.started = true)) ∧
     (∀ a, s.glob.dieRetrain = some a →
       Leads .dieLinkRetrainTimeout s (fun t => t.trav.stopped = true ∧ t.trav.c4 = some (s.trav.c4.getD OC_FAULT) ∧ a + 1000000 ≤ t.mono)))

/-- Containment: the first error of class C2 or C3 starts a handling, a second of no higher class queues behind it, a third is a C4 fault
OC_CONTAIN_ESCALATED, and an event of class C1 is only counted. Handlings end or continue in the next class: a C2 repeat that succeeds ends it, 1 ms
makes it C3, a block back in service ends a C3, 2 s make it C4, and the flush of a C4 ends in a warm reset. -/
def Obligations.ContainmentStartsQueuesEscalatesAndEnds : Prop :=
  (∀ (cls : Nat) (scope : Scope) (code : U16) (payload : List U32) (s : State),
     (s.downs = [] → cls ≤ 1 → exec (.containError (.generic cls scope code payload)) s =
       .next (saying [] { s with trav := { s.trav with c1 := s.trav.c1 + 1 } })) ∧
     (2 ≤ cls → cls ≤ 3 → s.trav.handlings = [] →
       Leads (.containError (.generic cls scope code payload)) s (fun t =>
         (∃ h, t.trav.handlings = [h] ∧ h.id = s.trav.nextHandling ∧ h.cls = cls ∧ h.scope = scope ∧ h.code = code ∧ h.started = true ∧
           h.since = s.mono ∧ h.payload = payload) ∧ t.trav.c2 = s.trav.c2 + (if cls = 2 then 1 else 0) ∧ t.trav.c3 = s.trav.c3 + (if cls = 3 then 1 else 0))) ∧
     (∀ h, 2 ≤ cls → cls ≤ h.cls → h.cls ≤ 3 → s.trav.handlings = [h] →
       Leads (.containError (.generic cls scope code payload)) s (fun t => ∃ g, t.trav.handlings = [h, g] ∧ g.cls = cls ∧ g.started = false ∧
         g.behind = some h.id ∧ t.trav.c2 = s.trav.c2 ∧ t.trav.c3 = s.trav.c3)) ∧
     (2 ≤ cls → cls ≤ 3 → s.trav.handlings.length = 2 →
       Leads (.containError (.generic cls scope code payload)) s (fun t => t.trav.c4 = some (s.trav.c4.getD OC_CONTAIN_ESCALATED) ∧
         t.trav.stopped = true ∧ t.trav.handlings = s.trav.handlings))) ∧
  (∀ (id : Nat) (h : Handling) (s : State), handlingOf s id = some h → h.started = true →
     (h.cls = 2 → Leads (.containC2RepeatDone id true) s (fun t => handlingOf t id = none)) ∧
     (s.downs = [] → h.cls = 2 → h.failures + 1 < 4 → exec (.containC2RepeatDone id false) s = .next (saying [] (modTrav (fun v =>
       { v with handlings := v.handlings.map (fun x => if x.id = id then { x with failures := x.failures + 1 } else x) }) s))) ∧
     (h.cls = 2 → Leads (.containC2Timeout id) s (fun t => h.since + 1000000 ≤ t.mono ∧
       (handlingOf t id).map (·.cls) = some 3 ∧ t.trav.c3 = s.trav.c3 + 1)) ∧
     (h.cls = 3 → Leads (.containC3Done id) s (fun t => handlingOf t id = none)) ∧
     (h.cls = 3 → Leads (.containC3Timeout id) s (fun t => handlingOf t id = none ∧ t.trav.c4 = some (s.trav.c4.getD h.code) ∧
       h.since + 2000000000 ≤ t.mono)) ∧
     (∀ pages, s.trav.c4 ≠ none → s.power.thermalAt = none → Leads (.c4FlushDone pages) s (fun t => t.glob.state = .reset ∧ t.trav.c4 = none)))

/-! ### Readings: admission to retirement of a tag -/

/-- No entry that commits by itself waits in a domain for its place to come. -/
def quietDomains (s : State) : Prop := ∀ y ∈ s.trav.items, turns y.body = false

/-- The oldest staged frame is admitted and looked up, a completed miss delivers its head, a delivered tag of a new counter joins its domain and
one that repeats a counter ends; a page reaches the reserve, and queued work is promoted and preempts. -/
def Obligations.FramesAreAdmittedLookedUpAndJoined : Prop :=
  ∀ s : State,
    (∀ t ts id, s.trav.staged = t :: ts → s.trav.tags.length < 1024 → admitting s = true → blockHeld s 16 = false → tagOf s t.asn = none → t.arr.identity = some id →
      entriesHeld (commitDue (saying [] s)) = false → headFind s id = none → s.store.misses = [] →
      Leads .stagedFrameAdmit s (fun u => u.trav.staged = ts ∧ u.trav.admitted = s.trav.admitted + 1 ∧ u.store.misses = [(id, [t.asn])] ∧
        ∃ x, tagOf u t.asn = some x ∧ x.arrival = t.arrival ∧ x.arr = t.arr ∧ x.admitAt = devTime s ∧ x.epoch = s.epoch.current ∧
          x.tq = s.glob.tq ∧ x.state = .lookup)) ∧
    (∀ id t e, s.store.misses = [(id, [t.asn])] → s.store.rebuild = [] → s.trav.tags = [t] → t.arr.identity = some id →
      dirFind s id = some e → e.state ≠ 2 → (headPlace (drainWrites s) id).isSome = true →
      Leads (.headCacheMissDone id) s (fun u => u.store.misses = [] ∧ (headFind u id).isSome = true ∧
        ∃ x, tagOf u t.asn = some x ∧ x.parcel = some e.index ∧ x.generation = e.generation ∧ x.keysOf = some (e.index, e.generation) ∧
          x.keys = (if t.keysOf = x.keysOf then t.keys else (parcelOf s e.index).keys) ∧ x.state = t.state ∧ x.arr = t.arr)) ∧
    (∀ id t, s.store.misses = [(id, [t.asn])] → s.store.rebuild = [] → s.trav.tags = [t] → t.arr.identity = some id → dirFind s id = none →
      Leads (.headCacheMissDone id) s (fun u => u.trav.tags = [] ∧ u.store.unknown = s.store.unknown + 1)) ∧
    (∀ asn t i, tagOf s asn = some t → t.parcel = some i → t.state = .lookup → (parcelOf s i).state ≠ .restoring → blockHeld s 16 = false →
      (∀ x ∈ s.trav.tags, x.asn < asn → x.state ≠ .lookup) → (∀ x ∈ s.trav.tags, x.asn ≠ asn → x.parcel ≠ some i) →
      (s.downs = [] → quietDomains s → fcClass (parcelOf s i) (extendCounter (parcelOf s i) t.arr.counter) = .new →
        exec (.domainJoin asn) s = .next (saying [] (setTag
          { t with state := .joined, joinNo := s.trav.nextJoin, counter := extendCounter (parcelOf s i) t.arr.counter }
          (modTrav (fun v => { v with nextJoin := v.nextJoin + 1 }) s)))) ∧
      (fcClass (parcelOf s i) (extendCounter (parcelOf s i) t.arr.counter) ≠ .new →
        Leads (.domainJoin asn) s (fun u => tagOf u asn = none))) ∧
    (∀ j l, s.jrn.pages = j :: l → s.jrn.reserve.length < ringPages s → s.twin.role ≤ 1 → entriesHeld s = false → quietDomains s →
      Leads .journalPageWritten s (fun u => u.jrn.pages = l ∧ u.jrn.reserve = s.jrn.reserve ++ [j] ∧ u.jrn.durable = max s.jrn.durable j)) ∧
    (∀ q w ws, workOf s q = w :: ws → w.promoted = false →
      Leads (.queuePromote q) s (fun u => workOf u q = { w with level := min 2 (w.level + 1), promoted := true } :: ws ∧
        u.trav.promotions = s.trav.promotions + 1 ∧ w.enqueued + urgentAge s q < u.mono)) ∧
    (∀ q w ws, workOf s q = w :: ws → (q ≠ 5 ∨ s.trav.imageUrgent = false) →
      Leads (.queueUrgentPreempt q) s (fun u => workOf u q = { w with preempting := true } :: ws ∧
        u.trav.preempts = s.trav.preempts + 1 ∧ w.enqueued + 2 * urgentAge s q ≤ u.mono))

/-- Stages 4 to 11 of a tag: it is secured where its keys authenticate the frame and ends where they do not, its payload becomes records, a
READY tag commits a READING entry under the next JSN and moves its parcel's counter, stage 8 queues its records for the engines, each engine takes them from its queue once, and the tag retires when all
have their copies. -/
def Obligations.TagsGoThroughTheirStages : Prop :=
  ∀ (asn : Nat) (t : Tag) (i : Nat) (s : State), tagOf s asn = some t → t.parcel = some i → blockHeld s 16 = false →
    (∀ slots, s.downs = [] → quietDomains s → t.state = .joined → t.shadowOf = none → (parcelOf s i).state ≠ .restoring →
      servedOver s t.arr (parcelOf s i) = true → headerTest (parcelOf s i) t.arr.sec = .ok slots → (parcelOf s i).keyInvalid = false →
      (∀ n ∈ slots, (tabGet t.keys n {}).role ≠ 0 ∧ slotUsable s (tabGet t.keys n {}) = true) →
      authentic (parcelOf s i) t.arr.sec ((slots.map (fun n => tabGet t.keys n {})).filterMap (slotKey s)) = true → t.arr.sec.compressed = false →
      exec (.decryptionDone asn) s = .next (saying [] (setTag { t with state := .secured } s))) ∧
    (∀ slots, t.state = .joined → t.shadowOf = none → (parcelOf s i).state ≠ .restoring →
      servedOver s t.arr (parcelOf s i) = true → headerTest (parcelOf s i) t.arr.sec = .ok slots → (parcelOf s i).keyInvalid = false →
      (∀ n ∈ slots, (tabGet t.keys n {}).role ≠ 0 ∧ slotUsable s (tabGet t.keys n {}) = true) →
      authentic (parcelOf s i) t.arr.sec ((slots.map (fun n => tabGet t.keys n {})).filterMap (slotKey s)) = false →
      Leads (.decryptionDone asn) s (fun u => tagOf u asn = none)) ∧
    (∀ rs un, s.downs = [] → quietDomains s → t.state = .secured → t.normal = false →
      normalise (clockConv s (parcelOf s i) t.arrival) ((profileIn t.profiles (parcelOf s i).veeProfile).getD default) t.arr.payload
        { arrival := t.arrival, tq := t.tq, epStatus := if (parcelOf s i).protocol < 0x10 then 0 else t.arr.sec.status,
          identity := (parcelOf s i).identity, parcel := i, generation := t.generation, veeProfile := (parcelOf s i).veeProfile } = .ok (rs, un) →
      exec (.normalisationDone asn) s = .next (saying [] (setTag { t with normal := true, records := rs, unmapped := un } s))) ∧
    (s.downs = [] → t.state = .secured → t.normal = true →
      (∀ x ∈ s.trav.tags, x.parcel = some i → inDomain x = true → t.joinNo ≤ x.joinNo) →
      Leads (.veeDone asn) s (fun u => u = { s with trav := u.trav, out := [] } ∧ ∃ x, tagOf u asn = some x ∧ x.state = .ready ∧
        x.counter = t.counter ∧ x.confirm.counter = t.counter ∧ x.confirm.length ≤ 92)) ∧
    (t.state = .ready → t.shadowOf = none → domainClear s i t.joinNo = true → s.twin.role ≤ 1 → (parcelOf s i).state = .active → quietDomains s →
      fcClass (parcelOf s i) t.counter ≠ .stale → commitRoom (192 + 64 * t.records.length) s = true → covered s t.item = true →
      (parcelOf s i).campaign.ep ≠ 3 → Leads (.journalCommit asn) s (fun u => u.jrn.lastJsn = s.jrn.lastJsn + 1 ∧ u.trav.committed = s.trav.committed + 1 ∧
        (∃ e, u.jrn.entries = s.jrn.entries ++ [e] ∧ e.jsn = u.jrn.lastJsn ∧ e.asn = t.asn ∧ e.parcel = some i ∧ e.body = .reading t.records (tailOf t)) ∧
        (parcelOf u i).fcHigh = (fcAfter (parcelOf s i) t.counter).1 ∧
        ∃ x, tagOf u asn = some x ∧ x.state = .committed ∧ x.jsn = u.jrn.lastJsn)) ∧
    (t.state = .committed →
      (t.regDone = false → t.steelDone = false → engineTurn s t (fun x => !x.regDone) = true → (parcelOf s i).state ≠ .restoring →
        Leads (.registerUpdate asn) s (fun u => (∃ x, tagOf u asn = some x ∧ x.regDone = true ∧ x.sheetDone = true ∧ x.state = .committed) ∧
          (engineQueue s 1 = [] → (∀ x ∈ s.trav.tags, x.state = .committed → x.asn = asn) →
            ∃ x, engineQueue u 1 = [x] ∧ x.asn = t.asn ∧ x.parcel = i ∧ x.records = t.records ∧ x.entry.jsn = t.jsn))) ∧
      (t.regDone = true → t.steelDone = true → t.archDone = true → t.sheetDone = true →
        Leads (.tagRetire asn) s (fun u => u.trav.tags = s.trav.tags.filter (fun x => x.asn != asn)))) ∧
    (∀ x, engineQueue s 1 = [x] → x.asn = asn → (parcelOf s x.parcel).state ≠ .restoring → blockHeld s 17 = false →
      (∀ y ∈ s.trav.tags, y.state = .committed → y.regDone = true → y.steelDone = true ∧ y.archDone = true) →
      Leads (.steelyardApply asn) s (fun u => engineQueue u 1 = [])) ∧
    (∀ x, engineQueue s 2 = [x] → x.asn = asn → (parcelOf s x.parcel).state ≠ .restoring → blockHeld s 13 = false →
      (∀ y ∈ s.trav.tags, y.state = .committed → y.regDone = true → y.steelDone = true ∧ y.archDone = true) →
      Leads (.archiveApply asn) s (fun u => engineQueue u 2 = []))

/-! ### Parcels -/

/-- An order that commits an entry need not wait for room in the journal. -/
def roomNow (s : State) : Prop := s.glob.ingest = false ∨ makesEntries s = false ∨ commitRoom 65536 s = true

/-- An order of a kind passes the checks of R285: its bytes are an envelope of that kind, its session is open, nothing refuses it, it is neither a
repeat nor stale, and the journal has room for it. -/
def orderComes (kind : Nat) (journalled : Bool) (permitted : State → Bool) (o : HxOrder) (s : State) : Prop :=
  countOk o s = true ∧ (envelopeOf o).malformed = false ∧ (envelopeOf o).kind = kind ∧ (envelopeOf o).badKey = false ∧ roomNow s ∧
    (∃ x, sessionOf s (envelopeOf o).sid = some x ∧ x.version ≠ 0) ∧ orderRefusal kind (permitted s) (envelopeOf o) s = none ∧
    (repeatsOf s (envelopeOf o).headend).find? (fun r => r.orderId == (envelopeOf o).orderId) = none ∧ orderLate journalled (envelopeOf o) s = none

/-- An order has been answered with an outcome: on its session, and in the repeat table. -/
def orderDone (o : HxOrder) (c : U16) (u : State) : Prop :=
  (∃ d j, answerMsg (envelopeOf o).sid (envelopeOf o).orderId c false d j ∈ u.out) ∧
    ∃ r ∈ repeatsOf u (envelopeOf o).headend, r.orderId = (envelopeOf o).orderId ∧ r.waits = false ∧ r.outcome = c

/-- The life of a parcel: ENROL takes the head of the free list under the next generation, RETIRE waits in the domain until its entry commits,
RELEASE frees the index, KEYLOAD and KEY_INVALID entries set its keys, and restoring ends in service. -/
def Obligations.ParcelsAreEnrolledKeyedRetiredAndReleased : Prop :=
  ∀ s : State,
    (∀ o b i, orderComes 5 true (fun _ => true) o s → readEnrol (envelopeOf o).body = some (some b) → enrolRanges b s = true →
      enrolCheck (envelopeOf o).headend b s = none → freeHead s = some i →
      Leads (.enrol o) s (fun u =>
        (domainClear s i s.trav.nextJoin = true → orderDone o OC_OK u ∧ u.jrn.lastJsn = s.jrn.lastJsn + 1 ∧ (parcelOf u i).state = .active ∧
          (parcelOf u i).identity = b.identity ∧ (parcelOf u i).generation = nextGeneration (parcelOf s i).generation) ∧
        (domainClear s i s.trav.nextJoin = false → u.jrn.lastJsn = s.jrn.lastJsn ∧
          ∃ x ∈ u.trav.items, x.parcel = i ∧ x.body = .enrol (enrolBody (envelopeOf o) b s)))) ∧
    (∀ o id i p, orderComes 6 true (fun _ => true) o s → readRetire (envelopeOf o).body = some (some (id, p.generation)) →
      s.store.parcels.find? (fun x => inUse x.2 && x.2.identity == id) = some (i, p) → goesAway p = false →
      Leads (.retire o) s (fun u => (parcelOf u i).retireAccepted = true ∧
        ∃ x ∈ u.trav.items, x.parcel = i ∧ x.body = .retire (envelopeOf o).orderId (envelopeOf o).headend (envelopeOf o).digest id)) ∧
    (∀ x rest o h d id, s.trav.items = x :: rest → (∀ y ∈ rest, turns y.body = false) → x.body = .retire o h d id →
      domainClear s x.parcel x.joinNo = true → mayCommitMade s = true →
      Leads (.retireEntryCommit x.parcel) s (fun u => (parcelOf u x.parcel).state = .retiring ∧
        (parcelOf u x.parcel).retireJsn = s.jrn.lastJsn + 1 ∧ u.jrn.lastJsn = s.jrn.lastJsn + 1)) ∧
    (∀ i, (parcelOf s i).state = .retiring → workComplete s (epochOfJsn s (parcelOf s i).retireJsn) = true →
      domainClear s i s.trav.nextJoin = true → mayCommitMade s = true →
      Leads (.parcelRelease i) s (fun u => (parcelOf u i).state = .free ∧ u.jrn.lastJsn = s.jrn.lastJsn + 1 ∧
        u.store.free = rangesAdd i s.store.free)) ∧
    (∀ x rest o h d src n k, s.trav.items = x :: rest → (∀ y ∈ rest, turns y.body = false) → x.body = .keyload o h d src n k →
      x.channel = none → k.role ≠ 0 → domainClear s x.parcel x.joinNo = true → mayCommitMade s = true →
      Leads (.keyloadEntryCommit x.parcel) s (fun u => tabGet (parcelOf u x.parcel).keys n {} = slotRewrap s k ∧ (parcelOf u x.parcel).keyInvalid = false ∧
        u.jrn.lastJsn = s.jrn.lastJsn + 1)) ∧
    (∀ x rest src o h d ns, s.trav.items = x :: rest → (∀ y ∈ rest, turns y.body = false) → x.body = .order 0x84 src o h d ns →
      domainClear s x.parcel x.joinNo = true → mayCommitMade s = true →
      Leads (.keyInvalidCommit x.parcel) s (fun u => (parcelOf u x.parcel).keyInvalid = true ∧ u.jrn.lastJsn = s.jrn.lastJsn + 1)) ∧
    (s.store.rewrap = true → s.keys.pkekPrev ≠ s.keys.pkekGen → Leads .pkekRewrapDone s (fun u => u.store.rewrap = false ∧ u.keys = s.keys ∧
      ∀ e ∈ u.store.parcels, ∀ k ∈ e.2.keys, slotUsable s k.2 = true → k.2.kekGen ≠ s.keys.pkekPrev)) ∧
    (∀ i, (parcelOf s i).state = .restoring → (∀ h ∈ s.trav.handlings, h.behind = none) →
      Leads (.parcelRestoreDone i) s (fun u => (parcelOf u i).state ≠ .restoring)) ∧
    (∀ b, s.store.rebuild = [b] → (∀ h ∈ s.trav.handlings, h.scope = .op 16 b → h.started = true) →
      Leads .bucketRebuildDone s (fun u => u.store.rebuild = []))

/-! ### Billing -/

/-- What falls due by billing time commits: a calendar's passive version becomes current, a closure is kept under its JSN, a mark starts its
sweep, a sweep takes its next slice in its epoch, and a credited DELTA advances the total register of its quantity. -/
def Obligations.BillingEntriesAndCredits : Prop :=
  ∀ s : State,
    (∀ c v, (calOf s c).passive = some v → mayCommitMade s = true → v.activation ≤ s.billing.time →
      Leads (.calendarActivation c) s (fun u => calOf u c = { current := some v, previous := (calOf s c).current, passive := none } ∧
        u.jrn.lastJsn = s.jrn.lastJsn + 1)) ∧
    (∀ c b, mayCommitMade s = true → closureDue s c = some b →
      Leads (.demandClosure c) s (fun u => u.jrn.lastJsn = s.jrn.lastJsn + 1 ∧ u.billing.boundaryCommits = s.billing.boundaryCommits + 1 ∧
        u.billing.bounds = { b with nextAsn := nextAsn s, billingTime := s.billing.time, jsn := s.jrn.lastJsn + 1 } :: s.billing.bounds ∧
        (b.period = true → u.billing.sweeps.length = s.billing.sweeps.length + 1))) ∧
    (∀ m, s.billing.marks.filter (fun x => x.committed.isNone) = [m] → mayCommitMade s = true → m.at_ ≤ s.billing.time →
      commitRoom (192 + 8 * m.identities.length) s = true →
      Leads .snapshotMarkCommit s (fun u => u.jrn.lastJsn = s.jrn.lastJsn + 1 ∧ u.billing.sweeps.length = s.billing.sweeps.length + 1 ∧
        u.billing.marks = s.billing.marks.map (fun x => if x = m then { x with committed := some (s.jrn.lastJsn + 1, nextAsn s) } else x))) ∧
    (∀ jsn w, s.billing.sweeps.find? (fun x => x.jsn == jsn) = some w → w.epoch + 2 + w.slice ≤ s.epoch.current → w.slice + 1 < sliceCount s →
      Leads (.periodSweepSlice jsn) s (fun u => (u.billing.sweeps.find? (fun x => x.jsn == jsn)).map (·.slice) = some (w.slice + 1))) ∧
    (∀ asn t i r pv f d, tagOf s asn = some t → t.parcel = some i → t.state = .committed → t.regDone = false →
      engineTurn s t (fun x => !x.regDone) = true → (parcelOf s i).state ≠ .restoring → blockHeld s 16 = false → t.records = [r] → t.prevs = [pv] → 0 < r.delta →
      profileIn t.profiles r.veeProfile = some f → f.channels[r.channel]? = some d → d.target ≠ 0 →
      boundFor s 1 (parcelOf s i).calendar t.asn = none → s.billing.marks = [] →
      Leads (.registerUpdate asn) s (fun u => tabGet (parcelOf u i).registers.total (targetIndex d.target) 0 =
        add64 (tabGet (parcelOf s i).registers.total (targetIndex d.target) 0) r.delta.toNat))

/-! ### Steelyard, Theodolite and the archive's flash -/

/-- A due balance interval is closed with its shares, a pass of a candidate set is kept once per instant, and 64 epochs on the oldest pass is
applied to the endpoints it names. -/
def Obligations.SteelyardIntervalsAndPasses : Prop :=
  ∀ s : State,
    (∀ n j, lastSealed s = some (n, j) → blockHeld s 17 = false →
      ((s.steel.nextK.getD (firstInterval s n)) + 1) * balI s + cadNum s 0x0304 0 * 1000000000 ≤ epochEnd s n →
      Leads .balanceIntervalClose s (fun u => u.steel.nextK = some (s.steel.nextK.getD (firstInterval s n) + 1) ∧
        ∀ h ∈ u.steel.shares, s.steel.nextK.getD (firstInterval s n) < h.k)) ∧
    (∀ k n inst j, s.downs = [] → passDue s k = some (n, inst, j) →
      Leads (.theoPass k) s (fun u => u = { s with steel := u.steel, out := [] } ∧ tabGet u.steel.lastPass k 0 = inst ∧
        ∃ p, u.steel.passes = s.steel.passes ++ [p] ∧ p.set = k ∧ p.epoch = n ∧ p.instant = inst)) ∧
    (∀ p ps, s.steel.passes = p :: ps → p.epoch + 64 ≤ s.epoch.current → blockHeld s 17 = false →
      Leads .theoPassApply s (fun u => u.steel.passes = ps ∧ ∀ r ∈ p.rows, inUse (parcelOf s r.parcel) = true →
        (parcelOf s r.parcel).generation = r.generation → (parcelOf u r.parcel).theo.lastPass = p.instant / 1000000000))

/-- The archive's flash: chunks go to pages of the open segment, a segment is sealed after 600 s, a copy is kept once it is verified, a failed
block is retired, an erased one is free again, reads are retried by offset sets, and the image writer takes the next changed parcel. -/
def Obligations.FlashIsWrittenReadAndReclaimed : Prop :=
  ∀ s : State,
    (∀ g, s.flash.waiting ≠ [] → openSeg s = some g → s.flash.job = none →
      Leads .chunkProgramDone s (fun u => u.flash.waiting = s.flash.waiting.drop (pageFit 16384 s.flash.waiting).length ∧
        u.flash.chunksWritten = s.flash.chunksWritten + u32 (pageFit 16384 s.flash.waiting).length)) ∧
    (∀ g, openSeg s = some g → Leads .segmentSealTimeout s (fun u => (segOf u g.serial).any (·.sealedAt.isSome) = true ∧
      g.openedAt + 600000000000 ≤ u.mono)) ∧
    (∀ j g p rest, s.flash.job = some j → segOf s j.victim = some g → g.pages.filter (·.valid) = p :: rest →
      (rest ≠ [] → Leads (.gcCopyVerified true) s (fun u => (∃ t, u.flash.job = some { j with copied := j.copied ++ [{ p with tag := t }] }) ∧
        u.flash.gcCopied = s.flash.gcCopied + 1)) ∧
      (rest = [] → (∀ x ∈ s.flash.segments, x.serial < s.flash.nextSerial) → Leads (.gcCopyVerified true) s (fun u => (∃ x ∈ u.flash.segments, x.block = j.target ∧ 0 < validPages x) ∧
        u.flash.gcCopied = s.flash.gcCopied + 1)) ∧
      Leads (.gcCopyVerified false) s (fun u => u.flash.retired.contains j.target = true ∧ u.flash.targetFails = s.flash.targetFails + 1)) ∧
    (∀ area block page, Leads (.nandProgramFail area block page) s (fun u => u.flash.retired.contains block = true ∧
      u.flash.programFails = s.flash.programFails + 1)) ∧
    (∀ area block, Leads (.nandEraseFail area block) s (fun u => u.flash.retired.contains block = true ∧
      u.flash.eraseFails = s.flash.eraseFails + 1 ∧ u.flash.erasing.contains block = false)) ∧
    (∀ b, s.flash.erasing.contains b = true → (∀ g ∈ s.flash.segments, g.block ≠ b) →
      Leads (.nandEraseDone b) s (fun u => u.flash.erasing.contains b = false ∧ tabGet u.flash.pe b 0 = tabGet s.flash.pe b 0 + 1)) ∧
    (∀ area block page codeword errors, cleanUnder s errors (readSetOf s area block page) = true →
      Leads (.nandReadRetry area block page codeword errors) s (fun u => u.flash = s.flash)) ∧
    (∀ area block page codeword errors, cleanUnder s errors (readSetOf s area block page) = false →
      Leads (.nandReadRetry area block page codeword errors) s (fun u =>
        u.flash.readRetries = s.flash.readRetries + u32 (triedSets s errors (readSetOf s area block page)).length ∧
        u.flash.uncorrectable = s.flash.uncorrectable +
          (if (readSetOf s area block page :: triedSets s errors (readSetOf s area block page)).any (fun k => (errors.getD k none).isSome) then 0 else 1))) ∧
    (∀ i p, enginesIdle s = true → imageNextOf s s.flash.imageNext = some (i, p) →
      Leads .parcelImageWrite s (fun u => tabFind u.store.image i = some (p, lastApplied s i p) ∧ u.flash.imageNext = i + 1)) ∧
    Leads .archiveSweepVisit s (fun u => ∀ i p, tabFind s.store.parcels i = some p → inUse p = true → archPending s i = false →
      65536 * (s.epoch.current % 256).toNat ≤ i → i < 65536 * (s.epoch.current % 256).toNat + 65536 →
        (parcelOf u i).archive.sweepEpoch = BitVec.ofInt 32 s.epoch.current)

/-! ### Power-line ports, radio ports and cells -/

/-- Reception on a power-line port: a good frame counts, a datagram is acknowledged and takes the next ASN, an acknowledgement ends the frame
sent, a bad check sequence and a coherent frame are counted, an old reassembly is dropped; zero-crossing edges make the period and their loss
clears it. -/
def Obligations.PlcReceptionAndZeroCrossings : Prop :=
  ∀ (n : Fin 6) (f : PlcFrame) (s : State), s.downs = [] →
    (plcLive s n.val = true → f.pan = plcCfg s n.val 4 →
      (f.coherent = true → Leads (.plcFrameReceived n f) s (fun u => (plcOf u n.val).coherent = (plcOf s n.val).coherent + 1 ∧
        (plcOf u n.val).rxFrames = (plcOf s n.val).rxFrames ∧ u.trav = s.trav)) ∧
      (f.coherent = false → f.fcsOk = false → Leads (.plcFrameReceived n f) s (fun u =>
        (plcOf u n.val).fcsFail = (plcOf s n.val).fcsFail + 1 ∧ (plcOf u n.val).rxFrames = (plcOf s n.val).rxFrames ∧ u.trav = s.trav)) ∧
      (f.coherent = false → f.fcsOk = true → Leads (.plcFrameReceived n f) s (fun u =>
        (plcOf u n.val).rxFrames = (plcOf s n.val).rxFrames + 1 ∧ s.mono + f.dt ≤ u.mono ∧
        (f.content = .ack → (plcOf u n.val).current = none) ∧
        (∀ a, f.content = .datagram 4059 true a → s.trav.bpLocal = false → plcSecure s n.val f = true → admitting s = true →
          u.trav.nextAsn = s.trav.nextAsn + 1 ∧
          ((plcOf s n.val).inhibit = none → Output.send (.plc n.val) "MAC_ACK" [(f.src.getD 0xFFFF : Int), plcPhase u n.val] ∈ u.out))))) ∧
    (∀ b l, (plcOf s n.val).reasm = b :: l → Leads (.plcReassemblyTimeout n) s (fun u =>
      b.since + cadNum s 0x0506 1 * 1000000000 ≤ u.mono ∧
      ∀ x ∈ (plcOf u n.val).reasm, x ∈ l ∧ u.mono < x.since + cadNum s 0x0506 1 * 1000000000)) ∧
    (∀ dt, (zcOf s n.val).last = none →
      Leads (.zcEdge n dt) s (fun u => zcOf u n.val = { zcOf s n.val with last := some (devTime u), stamp := bmInt u })) ∧
    (∀ dt a, (zcOf s n.val).last = some a → Leads (.zcEdge n dt) s (fun u => a + 8000000 ≤ devTime u → zcInRange (devTime u - a) = true →
      (zcOf u n.val).last = some (devTime u) ∧ (zcOf u n.val).prior = some a ∧
      (zcOf u n.val).periods = ((devTime u - a) :: (zcOf s n.val).periods).take 16)) ∧
    (∀ a, (zcOf s n.val).last = some a →
      Leads (.zcLossTimeout n) s (fun u => zcOf u n.val = { zcOf s n.val with valid := false, periods := [] }))

/-- Transmission on a power-line port: a unicast with a route and a fresh map goes out, one whose tone-map request went unanswered goes in ROBO,
retries end in TX_NO_ACK, a driver fault inhibits the port for 1 s, and discoveries are repeated and end. Joining a power-line port: an endpoint under
the port's master key gets a short address, one under another key is declined, silence removes it, and a new GMK is activated when all have confirmed
it, or after 24 h. -/
def Obligations.PlcTransmissionJoiningAndKeys : Prop :=
  (∀ (n : Fin 6) (s : State), s.downs = [] →
     (∀ t r, plcFree s n.val = true → (plcOf s n.val).queue.find? plcReady = some t →
       (tabFind (plcOf s n.val).joined t.down.shortAddr).isSome = true → tabFind (plcOf s n.val).routes t.down.shortAddr = some r →
       (t.robo = true ∨ mapFresh s n.val (if r.nextHop = 0 then t.down.shortAddr else r.nextHop) = true) →
       Leads (.plcUnicastSend n) s (fun u => (plcOf u n.val).current = some { t with heldAt := none } ∧
         (plcOf u n.val).queue = removeFirst plcReady (plcOf s n.val).queue ∧ (plcOf u n.val).txFrames = (plcOf s n.val).txFrames + 1 ∧
         ∃ l, Output.send (.plc n.val) "UNICAST" ((t.down.shortAddr : Int) :: l) ∈ u.out)) ∧
     (∀ t, plcFree s n.val = true → (plcOf s n.val).queue = [t] → t.tmSince.isSome = true → t.routeSince = none →
       (tabFind (plcOf s n.val).joined t.down.shortAddr).isSome = true → (tabFind (plcOf s n.val).routes t.down.shortAddr).isSome = true →
       Leads (.tmrWaitTimeout n) s (fun u => (plcOf u n.val).current = some { t with tmSince := none, robo := true, heldAt := none } ∧
         (plcOf u n.val).queue = [] ∧ t.tmSince.getD 0 + cadNum s 0x0503 1 * 1000000 ≤ u.mono)) ∧
     (∀ addr map md gain, plcLive s n.val = true →
       Leads (.tonemapResponseReceived n addr map md gain none) s (fun u => ∃ e, tabFind (plcOf u n.val).neighbours addr = some e ∧
         e.map = map ∧ e.modulation = md ∧ e.gain = gain ∧ e.mapAt = some s.mono ∧ e.stale = false)) ∧
     (∀ t, (plcOf s n.val).current = some t → (plcOf s n.val).inhibit = none → plcLive s n.val = true →
       (∀ r, t.attempts < cadNum s 0x0506 0 → plcReady t = true → (tabFind (plcOf s n.val).joined t.down.shortAddr).isSome = true →
         tabFind (plcOf s n.val).routes t.down.shortAddr = some r →
         (t.robo = true ∨ mapFresh s n.val (if r.nextHop = 0 then t.down.shortAddr else r.nextHop) = true) →
         Leads (.plcMacAckTimeout n) s (fun u => (plcOf u n.val).current = some { t with attempts := t.attempts + 1, heldAt := none } ∧
           (plcOf u n.val).txFrames = (plcOf s n.val).txFrames + 1)) ∧
       (cadNum s 0x0506 0 ≤ t.attempts → Leads (.plcMacAckTimeout n) s (fun u =>
         (plcOf u n.val).current = none ∧ (plcOf u n.val).noAck = (plcOf s n.val).noAck + 1))) ∧
     (∀ dt, plcLive s n.val = true → (plcOf s n.val).inhibit = none → Leads (.plcDriverFault n dt) s (fun u =>
         (plcOf u n.val).driverFaults = (plcOf s n.val).driverFaults + 1 ∧ Output.send (.plc n.val) "TXEN" [0] ∈ u.out ∧
         ((plcOf s n.val).resetAt = none → (plcOf u n.val).inhibit = some u.mono))) ∧
     (∀ a, (plcOf s n.val).inhibit = some a →
       Leads (.plcTxInhibitEnd n) s (fun u => (plcOf u n.val).inhibit = none ∧ (plcOf u n.val).held = [] ∧ a + 1000000000 ≤ u.mono)) ∧
     (∀ org hop hops cost, plcLive s n.val = true → hops ≤ cadNum s 0x0504 0 →
       (∀ x, tabFind (plcOf s n.val).routes org = some x → cost < x.cost) →
       Leads (.routeRequestReceived n org hop hops cost true) s (fun u =>
         tabFind (plcOf u n.val).routes org = some { nextHop := hop, hops := hops, cost := cost, used := s.mono } ∧
         ((plcOf s n.val).inhibit = none →
           Output.send (.plc n.val) "ROUTE_REPLY" [(org : Int), hop, hops, cost, plcPhase s n.val] ∈ u.out)) ∧
       Leads (.routeReplyReceived n org hop hops cost) s (fun u =>
         tabFind (plcOf u n.val).routes org = some { nextHop := hop, hops := hops, cost := cost, used := s.mono })) ∧
     (∀ t, (plcOf s n.val).queue.find? (fun x => x.routeSince.isSome) = some t →
       (t.tries < cadNum s 0x0504 1 → Leads (.rreqRetryTimeout n) s (fun u =>
         (plcOf u n.val).discoveries = (plcOf s n.val).discoveries + 1 ∧ (plcOf u n.val).queue.length = (plcOf s n.val).queue.length)) ∧
       (cadNum s 0x0504 1 ≤ t.tries → Leads (.rreqRetryTimeout n) s (fun u =>
         (plcOf u n.val).routeFails = (plcOf s n.val).routeFails + 1 ∧
         (plcOf u n.val).queue = removeFirst (fun x => x.routeSince.isSome) (plcOf s n.val).queue))) ∧
     ((plcOf s n.val).routes ≠ [] → tabWf (plcOf s n.val).routes = true → Leads (.routeExpiry n) s (fun u =>
       ∃ d r, tabFind (plcOf s n.val).routes d = some r ∧ (plcOf u n.val).routes = tabDel (plcOf s n.val).routes d ∧
         r.used + cadNum s 0x0504 3 * 60000000000 ≤ u.mono ∧ ∀ e ∈ (plcOf s n.val).routes, r.used ≤ e.2.used))) ∧
  (∀ (n : Fin 6) (s : State), s.downs = [] →
     (∀ eui k a, plcLive s n.val = true → vaultKey s 3 = some k → (plcOf s n.val).joined.find? (fun e => e.2.eui == eui) = none →
       (plcOf s n.val).joined.length < 2000 → plcAddress s n.val = some a →
       Leads (.plcJoin n eui (plcPsk k.key eui)) s (fun u => tabFind (plcOf u n.val).joined a = some { eui := eui, heard := s.mono } ∧
         (plcOf u n.val).joinOk = (plcOf s n.val).joinOk + 1)) ∧
     (∀ eui k m, plcLive s n.val = true → vaultKey s 3 = some k → plcPsk k.key eui ≠ m →
       Leads (.plcJoin n eui m) s (fun u => (plcOf u n.val).joined = (plcOf s n.val).joined ∧
         (plcOf u n.val).joinRefused = (plcOf s n.val).joinRefused + 1)) ∧
     ((plcOf s n.val).joined ≠ [] → tabWf (plcOf s n.val).joined = true → Leads (.joinIdleExpiry n) s (fun u =>
       ∃ a j, tabFind (plcOf s n.val).joined a = some j ∧ (plcOf u n.val).joined.map (·.1) = (tabDel (plcOf s n.val).joined a).map (·.1) ∧
         j.heard + cadNum s 0x0505 0 * 3600000000000 ≤ u.mono ∧ ∀ e ∈ (plcOf s n.val).joined, j.heard ≤ e.2.heard)) ∧
     (∀ k v t, (plcOf s n.val).rekey = some (k, v, t) →
       (∀ addr j, tabFind (plcOf s n.val).joined addr = some j → tabWf (plcOf s n.val).joined = true →
         (∀ e ∈ (plcOf s n.val).joined, e.1 ≠ addr → e.2.newKey = true) →
         Leads (.gmkReceiptConfirmed n addr) s (fun u => vaultKey u (4 + n.val) = some { role := 4, version := v, key := k } ∧
           (plcOf u n.val).rekey = none)) ∧
       (∀ addr j, tabFind (plcOf s n.val).joined addr = some j → (∃ e ∈ (plcOf s n.val).joined, e.1 ≠ addr ∧ e.2.newKey = false) →
         Leads (.gmkReceiptConfirmed n addr) s (fun u => (plcOf u n.val).rekey = some (k, v, t) ∧ u.keys = s.keys ∧
           tabFind (plcOf u n.val).joined addr = some { j with newKey := true, heard := s.mono })) ∧
       Leads (.gmkRekeyActivate n) s (fun u => vaultKey u (4 + n.val) = some { role := 4, version := v, key := k } ∧
         (plcOf u n.val).rekey = none ∧ t + 86400000000000 ≤ u.mono)))

/-- The radio ports: good frames count and an EN 13757-4 frame takes the next ASN, acknowledgements go out at their TXGO and are charged,
script failures count, endpoints associate and age out, downlinks are queued or held, transmissions start, are retried and end, pending frames
are polled and expire, and the budget window moves on. -/
def Obligations.RadioPortsReceiveAndTransmit : Prop :=
  ∀ (n : Fin 8) (s : State), s.downs = [] →
    (∀ f : RadioFrame, radioLive s n.val = true → 100 ≤ f.pulse → (radioOf s n.val).edge = none → f.length ≤ 255 →
      (radioCfg s n.val 1 = 1 → f.modeOk = true) → contentFits (radioCfg s n.val 1 == 0) f.content = true →
      (f.checkOk = true → Leads (.radioFrameReceived n f) s (fun u => (radioOf u n.val).rxFrames = (radioOf s n.val).rxFrames + 1 ∧
        (∀ c acc a, f.content = .mbus c acc a → f.toDevice = true → radioCfg s n.val 1 = 1 → s.trav.bpLocal = false → admitting s = true →
          (epByAddress s n.val f.address).isSome = true → u.trav.nextAsn = s.trav.nextAsn + 1))) ∧
      (f.checkOk = false → Leads (.radioFrameReceived n f) s (fun u => (radioOf u n.val).fcsFail = (radioOf s n.val).fcsFail + 1 ∧
        (radioOf u n.val).rxFrames = (radioOf s n.val).rxFrames))) ∧
    (∀ a, (radioOf s n.val).ack = some a →
      Leads (.radioAckTxgo n false) s (fun u => (radioOf u n.val).ack = none ∧ (radioOf u n.val).acksSent = (radioOf s n.val).acksSent + 1 ∧
        (radioOf u n.val).txStamp = bmInt u) ∧
      Leads (.radioAckTxgo n true) s (fun u => (radioOf u n.val).ack = none ∧ (radioOf u n.val).late = (radioOf s n.val).late + 1 ∧
        u.trav.c1 = s.trav.c1 + 1)) ∧
    (∀ k, (radioOf s n.val).retired = false →
      Leads (.radioScriptTimeout n k) s (fun u => (radioOf u n.val).scriptFails = (radioOf s n.val).scriptFails + 1)) ∧
    (∀ addr idle bytes ago, radioLive s n.val = true → radioCfg s n.val 1 = 0 → (∀ m, m < 8 → epByAddress s m addr = none) →
      (∀ k a, epFree s n.val = some k → radioAddress s n.val = some a → (radioOf s n.val).queue.length < 1024 →
        Leads (.radioAssociationRequest n addr idle bytes ago) s (fun u => (radioOf u n.val).rxFrames = (radioOf s n.val).rxFrames + 1 ∧
        tabFind (radioOf u n.val).eps k = some { address := addr, short := a, heard := s.mono, sleepy := !idle, lastHop := a } ∧
        (radioOf u n.val).queue.length = (radioOf s n.val).queue.length + 1)) ∧
      (epFree s n.val = none → Leads (.radioAssociationRequest n addr idle bytes ago) s (fun u => (radioOf u n.val).eps = (radioOf s n.val).eps ∧
        (radioOf u n.val).assocRefused = (radioOf s n.val).assocRefused + 1))) ∧
    ((radioOf s n.val).eps ≠ [] → tabWf (radioOf s n.val).eps = true → Leads (.endpointIdleExpiry n) s (fun u =>
      ∃ k e, tabFind (radioOf s n.val).eps k = some e ∧ (radioOf u n.val).eps = tabDel (radioOf s n.val).eps k ∧
        e.heard + cadNum s 0x0515 0 * 3600000000000 ≤ u.mono)) ∧
    (∀ d l e, (radioOf s n.val).inbox = d :: l → downEntry s n.val d = some e → radioUp s n.val = true → e.oneWay = false →
      s.cad.draining.contains 0x0513 = false →
      (e.sleepy = true → e.pending.length < 4 → Leads (.radioDownlinkQueue n) s (fun u => (radioOf u n.val).inbox = l ∧
        tabFind (radioOf u n.val).eps d.entry = some { e with pending := e.pending ++ [(d, s.mono)] })) ∧
      (e.sleepy = false → d.kind ≠ 0 → (radioOf s n.val).queue.length < 1024 → Leads (.radioDownlinkQueue n) s (fun u =>
        (radioOf u n.val).inbox = l ∧ (radioOf u n.val).queue = (radioOf s n.val).queue ++ [{ down := d, entry := d.entry, since := s.mono }]))) ∧
    (∀ t, radioLive s n.val = true → (radioOf s n.val).current = none →
      (radioOf s n.val).queue.find? (canStart s n.val) = some t →
      Leads (.radioTxStart n true) s (fun u => (radioOf u n.val).current = some t ∧
        (radioOf u n.val).queue = removeFirst (canStart s n.val) (radioOf s n.val).queue ∧
        (radioOf u n.val).txFrames = (radioOf s n.val).txFrames + 1 ∧ ∃ l, Output.send (.radio n.val) "FRAME" ((t.entry : Int) :: l) ∈ u.out) ∧
      (t.attempts < cadNum s 0x0506 0 → Leads (.radioTxStart n false) s (fun u => (radioOf u n.val).current = none ∧
        (radioOf u n.val).queue = { t with attempts := t.attempts + 1 } :: removeFirst (canStart s n.val) (radioOf s n.val).queue))) ∧
    (∀ t, (radioOf s n.val).current = some t →
      (t.attempts < cadNum s 0x0506 0 → Leads (.radioAckTimeout n) s (fun u => (radioOf u n.val).current = none ∧
        (radioOf u n.val).queue = { t with attempts := t.attempts + 1 } :: (radioOf s n.val).queue)) ∧
      (cadNum s 0x0506 0 ≤ t.attempts → Leads (.radioAckTimeout n) s (fun u => (radioOf u n.val).current = none ∧
        (radioOf u n.val).queue = (radioOf s n.val).queue))) ∧
    (∀ t q, (radioOf s n.val).queue = t :: q → (∀ x ∈ q, t.since ≤ x.since) → t.polled = false → bandBudget s (txBand s n.val) < airtime s n.val (frameLen s n.val t.down) →
      Leads (.radioTxHoldExpiry n) s (fun u => (radioOf u n.val).queue = q ∧ (radioOf u n.val).budgetFail = (radioOf s n.val).budgetFail + 1 ∧
        t.since + (cadInt s 0x0513 n.val 1).toNat * 1000000000 ≤ u.mono)) ∧
    (∀ k bytes ago e d t l, radioLive s n.val = true → radioCfg s n.val 1 = 0 → tabFind (radioOf s n.val).eps k = some e →
      e.pending = (d, t) :: l → (radioOf s n.val).queue.any (fun x => x.polled && x.entry == k) = false →
      (radioOf s n.val).queue.length < 1024 →
      Leads (.radioDataRequest n k bytes ago) s (fun u => tabFind (radioOf u n.val).eps k = some { e with heard := s.mono } ∧
        (radioOf u n.val).queue =
          { down := d, entry := k, since := s.mono, polled := true, more := !l.isEmpty } :: (radioOf s n.val).queue)) ∧
    ((∃ e ∈ (radioOf s n.val).eps, e.2.pending ≠ []) → tabWf (radioOf s n.val).eps = true → Leads (.pendingTtlExpiry n) s (fun u =>
      (radioOf u n.val).expired = (radioOf s n.val).expired + 1 ∧ ∃ k e d t l, tabFind (radioOf s n.val).eps k = some e ∧ e.pending = (d, t) :: l ∧
        tabFind (radioOf u n.val).eps k = some { e with pending := l, sent := none } ∧ t + cadNum s 0x0514 0 * 1000000000 ≤ u.mono)) ∧
    Leads .budgetBucketRoll s (fun u => (radioOf u n.val).queue = (radioOf s n.val).queue ∧
      ∀ b ∈ (radioOf u n.val).buckets, ∀ x ∈ b.2, curSecond u < x.1 + 3600)

/-- A capsule of a type and of an open session arrives: the datagram reaches the device, its bytes are well formed, its tag verifies under the key of
the current session, its SEQ is fresh, and the cell is UP. -/
def capsuleFresh (t : CapType) (k : Capsule) (y : ActSession) (s : State) : Prop :=
  actReaches s k = true ∧ capOk t k = true ∧ (cellOf s (capCell k)).current = some y ∧ y.number = capSession k ∧ k.key = y.up ∧
    (windowStep y.high y.window (capSeq k)).isSome = true ∧ (cellOf s (capCell k)).link = 2 ∧ (cellOf s (capCell k)).grace = false

/-- The cells whose raise is due and fits, in the order in which they are served. -/
def raisable (s : State) : List Nat :=
  let due := (s.act.cells.map (·.1)).filter (fun c => raiseDue s c && ((cellOf s c).current.map (raiseFits s)).getD false)
  due.filter (fun c => decide (s.act.served < c)) ++ due

/-- Cell transport: a HELLO is answered with a pending session of a new number, frames within credit take ASNs, confirms end items, beacons are
answered, a CLOSE or silence makes the cell DARK, sessions expire, credit rises by whole steps, and downlink goes out and times out. -/
def Obligations.CellSessionsCarryFramesAndDownlink : Prop :=
  ∀ s : State, s.downs = [] →
    (∀ k p, actReaches s k = true → capOk .hello k = true → cellEnabled s (capCell k) = true → (cellOf s (capCell k)).helloAt = none →
      (cellPsk s (capCell k)).2 = some p → k.key = helloKey p (capCell k) true →
      ((cellRow s (capCell k)).getD []).getD 4 0 = (helloUid k : Int) → helloMin k ≤ min (capVersion k) 0x12 →
      1280 ≤ helloRxMax k → helloRxMax k ≤ 9000 → 1 ≤ helloSlots k → helloSlots k ≤ 1024 →
      Leads (.actHello k) s (fun u => ∃ y, (cellOf u (capCell k)).pending = some y ∧ y.version = min (capVersion k) 0x12 ∧ y.peer = k.src ∧
        y.number ≠ 0 ∧ (cellOf s (capCell k)).current.map (·.number) ≠ some y.number ∧
        (∃ dev, y.up = sessionKey p (helloNonce k) dev (capCell k) y.number y.version true ∧
          y.down = sessionKey p (helloNonce k) dev (capCell k) y.number y.version false) ∧
        ∃ l, Output.send (.act (capCell k)) "HELLO_ACK" l ∈ u.out)) ∧
    (∀ k, actReaches s k = true → capOk .hello k = true → cellEnabled s (capCell k) = true → (cellOf s (capCell k)).helloAt = none →
      (cellPsk s (capCell k)).2.map (fun p => helloKey p (capCell k) true) ≠ some k.key →
      Leads (.actHello k) s (fun u => (cellOf u (capCell k)).pending = (cellOf s (capCell k)).pending ∧ u.act.authFail = s.act.authFail + 1)) ∧
    (∀ k y, capsuleFresh .frames k y s →
      (∀ f r, frameItems (capItems k) (k.body.drop 8) = [some f] →
        (beAt k.body 0 8 < y.limit → (cellOf s (capCell k)).endpoints.length < 8192 → Leads (.actFrames k [r]) s (fun u =>
          u.act.frames = s.act.frames + 1 ∧ (cellOf u (capCell k)).current.map (·.h) = some (max y.h (beAt k.body 0 8 + 1)) ∧
          (admitting s = true → u.trav.nextAsn = s.trav.nextAsn + 1))) ∧
        (y.limit ≤ beAt k.body 0 8 → Leads (.actFrames k [r]) s (fun u =>
          u.act.overCredit = s.act.overCredit + 1 ∧ u.act.frames = s.act.frames))) ∧
      (∀ l, frameItems (capItems k) (k.body.drop 8) = [none] →
        Leads (.actFrames k l) s (fun u => u.act.format = s.act.format + u32 (capItems k) ∧ u.act.frames = s.act.frames))) ∧
    (∀ k y d id r, capsuleFresh .confirm k y s → confirmEntries k = [(id, r)] →
      (cellOf s (capCell k)).sent.find? (fun x => x.session == capSession k && x.id == id) = some d → d.down.kind ≠ 0 →
      Leads (.actConfirm k) s (fun u => u.hx.ended = s.hx.ended ++ [(d.down, resultCode r)] ∧
        (cellOf u (capCell k)).sent = (cellOf s (capCell k)).sent.filter (fun x => !(x.session == capSession k && x.id == id)))) ∧
    (∀ k y, capsuleFresh .beacon k y s → Leads (.actBeacon k) s (fun u => (cellOf u (capCell k)).heardAt = some u.mono ∧
      ∃ l, Output.send (.act (capCell k)) "BEACON" l ∈ u.out)) ∧
    (∀ k y, capsuleFresh .close k y s → Leads (.actCloseReceived k) s (fun u => (cellOf u (capCell k)).link = 3 ∧
      (cellOf u (capCell k)).current = none ∧ u.act.darkEvents = s.act.darkEvents + 1)) ∧
    (∀ c y, (cellOf s c).pending = some y →
      Leads (.actPendingSessionExpiry c) s (fun u => (cellOf u c).pending = none ∧ y.since + 10000000000 ≤ u.mono)) ∧
    (∀ c y, (raisable s).head? = some c → (cellOf s c).current = some y →
      Leads .creditRaise s (fun u => (cellOf u c).current.map (·.limit) = some (y.h + actFlow s 0) ∧ u.act.served = c ∧
        ∃ l, Output.send (.act c) "CREDIT" l ∈ u.out)) ∧
    (∀ c y d ds, (cellOf s c).current = some y → (cellOf s c).queue = d :: ds → (cellOf s c).link = 2 →
      ((cellOf s c).sent.filter (fun e => e.session == y.number)).length < y.dlSlots → actListening s = true →
      Leads (.actDownlinkSend c) s (fun u => (cellOf u c).queue = ds ∧ u.act.dlSent = s.act.dlSent + 1 ∧
        (cellOf u c).sent = (cellOf s c).sent ++ [{ d with session := y.number, id := y.nextDl, sentAt := s.mono }])) ∧
    (∀ c d l, (cellOf s c).sent = d :: l →
      Leads (.actDlTimeout c) s (fun u => u.act.dlFailed = s.act.dlFailed + 1 ∧ d.sentAt + actTimer s 3 * 1000000000 ≤ u.mono ∧
        (cellOf u c).sent = (cellOf s c).sent.filter (fun e => !(e.session == d.session && e.id == d.id)))) ∧
    (∀ c t, (cellOf s c).heardAt = some t → (cellOf s c).link = 2 → (cellOf s c).grace = false → s.act.grace = none → actListening s = true →
      Leads (.cellDarkTimeout c) s (fun u => (cellOf u c).link = 3 ∧ u.act.darkEvents = s.act.darkEvents + 1 ∧
        t + 3 * beaconPeriod s * 1000000000 + actTimer s 2 * 1000000 ≤ u.mono)) ∧
    (∀ c, (cellOf s c).link = 3 → (cellOf s c).current ≠ none →
      Leads (.actSessionIdleExpiry c) s (fun u => (cellOf u c).current = none ∧ (cellOf s c).darkAt + actTimer s 5 * 1000000000 ≤ u.mono)) ∧
    (∀ t e, s.act.grace = some (t, e) → Leads .takeoverGraceExpiry s (fun u => u.act.grace = none ∧ t ≤ u.mono ∧
      ∀ c, (cellOf u c).grace = false ∧ ((cellOf s c).grace = true → (cellOf s c).link = 2 → (cellOf u c).link = 3))) ∧
    (∀ dt, actListening s = true → Leads (.actCapsuleMalformed dt) s (fun u => u.act = { s.act with format := s.act.format + 1 }))

/-! ### Head-end Exchange and orders -/

/-- HX sessions: a handshake under the head end's PSK opens one, at most eight; OPEN negotiates the version and is answered OPEN_ACK; PING is
answered PONG; timers send PING and REPORT and close silent sessions; a malformed message closes its session. -/
def Obligations.HeadEndSessionsOpenAndEnd : Prop :=
  ∀ (sid : Nat) (s : State), s.downs = [] →
    (∀ o : TlsOffer, s.hx.listening = true → hxState s = true → hxReaches s o = true → (headendRow s (beNat o.identity)).isSome = true →
      (tlsOptionsOk o = true → headendPsk s (beNat o.identity) = some o.psk → s.hx.sessions.length < 8 → Leads (.hxConnect o) s (fun u =>
        (∃ x, u.hx.sessions = s.hx.sessions ++ [x] ∧ x.sid = s.hx.nextSid ∧ x.headend = beNat o.identity ∧ x.version = 0) ∧
        u.hx.tlsFail = s.hx.tlsFail)) ∧
      (tlsOptionsOk o = true → headendPsk s (beNat o.identity) = some o.psk → 8 ≤ s.hx.sessions.length →
        (∀ x ∈ s.hx.sessions, x.sid < s.hx.nextSid) → Leads (.hxConnect o) s (fun u => u.hx.sessions = s.hx.sessions ∧
          hxOut s.hx.nextSid "CLOSE" 14 [(1, cborInt OC_HX_SESSIONS.toNat)] ∈ u.out)) ∧
      (tlsOptionsOk o = false ∨ headendPsk s (beNat o.identity) ≠ some o.psk → Leads (.hxConnect o) s (fun u =>
        u.hx = { s.hx with tlsFail := s.hx.tlsFail + 1 } ∧ Output.send (.hx 0) "TLS_ALERT" [(beNat o.identity : Int)] ∈ u.out))) ∧
    (∀ h r, headendRow s h = some r → (r.getD 2 0).toNat.testBit 3 = true → s.hx.listening = true → hxState s = true →
      s.hx.sessions.any (fun x => x.headend == h) = false → Leads (.hxCallOut h) s (fun u => tabFind u.hx.called h = some u.mono ∧
        (∀ t, tabFind s.hx.called h = some t → t + 30000000000 ≤ u.mono) ∧
        Output.send (.hx 0) "TCP_OPEN" [(h : Int), r.getD 4 0, r.getD 5 0] ∈ u.out)) ∧
    (∀ b m, hxRead b = .ok (14, m) →
      Leads (.hxClose sid b) s (fun u => u.hx = { s.hx with sessions := s.hx.sessions.filter (fun x => x.sid != sid) })) ∧
    (∀ x, sessionOf s sid = some x →
      (x.version = 0 →
        (∀ b m, hxRead b = .ok (1, m) → versionOf m ≠ 0 → Leads (.hxOpen sid b) s (fun u =>
          (∃ y, sessionOf u sid = some y ∧ y.version = versionOf m ∧ y.headend = x.headend) ∧ u.notes = [] ∧
          hxOut sid "OPEN_ACK" 2 [(1, cborInt (versionOf m)), (2, cborBytes (beBytes 16 (unitOf s))), (3, cborInt (devTime s)),
            (4, cborInt s.epoch.current), (5, cborInt (roleCode s)), (6, cborInt (ackThrough s x.headend)), (7, cborInt (oldestEpoch s)),
            (8, cborInt s.billing.time)] ∈ u.out)) ∧
        (∀ b m, hxRead b = .ok (1, m) → versionOf m = 0 → Leads (.hxOpen sid b) s (fun u => sessionOf u sid = none ∧
          hxOut sid "CLOSE" 14 [(1, cborInt OC_VERSION.toNat)] ∈ u.out)) ∧
        Leads (.hxOpenTimeout sid) s (fun u => sessionOf u sid = none ∧ x.openedAt + 10000000000 ≤ u.mono ∧
          hxOut sid "CLOSE" 14 [(1, cborInt OC_HX_FORMAT.toNat)] ∈ u.out)) ∧
      (x.version ≠ 0 →
        (∀ b m, hxRead b = .ok (12, m) → Leads (.hxPing sid b) s (fun u => hxOut sid "PONG" 13 [(1, cborInt ((natKey m 1).getD 0))] ∈ u.out ∧
          sessionOf u sid = some { x with lastRx := s.mono, lastTx := s.mono })) ∧
        (∀ b m, hxRead b = .ok (13, m) → Leads (.hxPong sid b) s (fun u => u.out = [] ∧ sessionOf u sid = some { x with lastRx := s.mono })) ∧
        Leads (.hxReportTimer sid) s (fun u => u.notes = [] ∧ x.lastReport + hxFlow s 3 * 1000000000 ≤ u.mono ∧
          ∃ f, hxOut sid "REPORT" 10 f ∈ u.out ∧ f.take 5 = [(1, cborInt (devTime u)), (2, cborInt (stateCode u.glob.state)), (3, cborInt u.glob.tq),
            (4, cborInt (roleCode u)), (5, cborInt (lifecycleCode u))])) ∧
      Leads (.hxPingTimer sid) s (fun u => (∃ n : Nat, hxOut sid "PING" 12 [(1, cborInt n)] ∈ u.out) ∧ x.lastTx + 30000000000 ≤ u.mono ∧
        sessionOf u sid = some { x with lastTx := u.mono }) ∧
      Leads (.hxIdleTimeout sid) s (fun u => sessionOf u sid = none ∧ x.lastRx + hxFlow s 2 * 1000000000 ≤ u.mono) ∧
      (∀ b c, hxRead b = .error c → Leads (.hxMessageMalformed sid b) s (fun u => sessionOf u sid = none ∧
        hxOut sid "CLOSE" 14 [(1, cborInt c.toNat)] ∈ u.out)))

/-- Sheets go to a session from the epoch it subscribes to, one after another while its window has room, and a SHEET_ACK moves the window and the
head end's ACK_THROUGH; an epoch that is gone closes the session, as does an acknowledgement past what was sent. -/
def Obligations.SheetsAreDeliveredAndAcknowledged : Prop :=
  ∀ (sid : Nat) (s : State) (x : HxSession), s.downs = [] → sessionOf s sid = some x →
    (x.version ≠ 0 →
      (∀ b m e, hxRead b = .ok (3, m) → intKey m 1 = some e → oldestEpoch s ≤ e → Leads (.hxSubscribe sid b) s (fun u =>
        sessionOf u sid = some { x with lastRx := s.mono, next := some e, window := [] })) ∧
      (∀ b m a, hxRead b = .ok (3, m) → intKey m 1 = none → tabFind s.hx.acks x.headend = some a → oldestEpoch s ≤ a + 1 →
        Leads (.hxSubscribe sid b) s (fun u => sessionOf u sid = some { x with lastRx := s.mono, next := some (a + 1), window := [] })) ∧
      (∀ b m e, hxRead b = .ok (3, m) → intKey m 1 = some e → e < oldestEpoch s → Leads (.hxSubscribe sid b) s (fun u => sessionOf u sid = none ∧
        hxOut sid "CLOSE" 14 [(1, cborInt OC_HX_SHEET_GONE.toNat)] ∈ u.out)) ∧
      (∀ b m z e, hxRead b = .ok (6, m) → intKey m 1 = some e → x.sent = some z →
        (e ≤ z → (∀ t, x.through = some t → t ≤ e) → Leads (.hxSheetAck sid b) s (fun u =>
          sessionOf u sid = some { x with lastRx := s.mono, through := some e, window := x.window.filter (fun n => decide (e < n)) } ∧
          tabFind u.hx.acks x.headend = some (max e ((tabFind s.hx.acks x.headend).getD e)))) ∧
        (z < e → (∀ t, x.through = some t → t ≤ e) → Leads (.hxSheetAck sid b) s (fun u => sessionOf u sid = none ∧ u.hx.acks = s.hx.acks ∧
          hxOut sid "CLOSE" 14 [(1, cborInt OC_RANGE.toNat)] ∈ u.out)))) ∧
    (∀ n e y, x.next = some n → standby s = false → x.window.length < hxFlow s 0 →
      lowest ((sendable s).filter (fun k => decide (n ≤ k))) = some e → s.hx.sheets.find? (fun z => z.epoch == e) = some y →
      Leads (.hxSheetSend sid) s (fun u => u.hx.sheetsSent = s.hx.sheetsSent + 1 ∧ u.hx.sheets = s.hx.sheets ∧
        (∃ z, sessionOf u sid = some z ∧ z.next = some (e + 1) ∧ z.window = x.window ++ [e]) ∧
        ∃ f, hxOut sid "SHEET_HEAD" 4 f ∈ u.out ∧ f.take 3 = [(1, cborInt y.epoch), (2, cborBytes (sealBytes s y)),
          (3, cborBytes (signature (sealBytes s y) y.leaf))])) ∧
    (∀ n, x.next = some n → hxFlow s 0 ≤ x.window.length → Leads (.hxSheetSend sid) s (fun u => u = saying [] s))

/-- What a row makes of the BODY of an order of its kind: none where it is malformed, else whether the order is of that row. -/
def ofRow {α : Type} (read : List U8 → Option (Option α)) (b : List U8) : Option Bool := (read b).map Option.isSome

/-- Does the lifecycle permit the change of state that an order asks for (14 R322)? -/
def changePermitted (o : HxOrder) (s : State) : Bool := match readChange (envelopeOf o).body with
  | some (some (new, _)) => [3, 5, 6].all (fun k => k != new) || transitionOk false s.keys.state new
  | _ => true

/-- The order commands: the kind of order a row takes, whether an entry of the journal follows, what the lifecycle permits, the order, and what the
row makes of its BODY. -/
def orderParts : Instr → Option (Nat × (State → Bool) × (State → Bool) × HxOrder × (List U8 → Option Bool))
  | .amend o => some (1, fun _ => true, fun _ => true, o, ofRow readAmend)
  | .calendar o => some (2, fun _ => true, fun _ => true, o, ofRow readCalendar)
  | .campaignStart o => some (3, fun _ => true, fun s => s.keys.state != 2, o, ofRow readCampaignStart)
  | .campaignCancel o => some (3, fun _ => true, fun s => s.keys.state != 2, o, ofRow readCampaignCancel)
  | .manifestBegin o _ _ => some (4, fun _ => false, fun _ => true, o, ofRow (readManifest 0))
  | .manifestData o _ _ => some (4, fun _ => false, fun _ => true, o, ofRow (readManifest 1))
  | .manifestSchedule o => some (4, fun _ => true, fun _ => true, o, ofRow (readManifest 2))
  | .manifestCancel o => some (4, fun _ => true, fun _ => true, o, ofRow (readManifest 3))
  | .manifestStatus o => some (4, fun _ => false, fun _ => true, o, ofRow (readManifest 4))
  | .enrol o => some (5, fun _ => true, fun _ => true, o, ofRow readEnrol)
  | .retire o => some (6, fun _ => true, fun _ => true, o, ofRow readRetire)
  | .keyloadLoad o => some (7, fun _ => true, fun _ => true, o, ofRow readKeyLoad)
  | .keyloadErase o => some (7, fun _ => true, fun _ => true, o, ofRow readKeyErase)
  | .enterMaintenance o => some (7, fun _ => true, fun _ => true, o, ofRow (readKeyPlain 2))
  | .leaveMaintenance o => some (7, fun _ => true, fun _ => true, o, ofRow (readKeyPlain 3))
  | .changeState o => some (7, fun _ => true, changePermitted o, o, ofRow readChange)
  | .extract o => some (8, fun _ => false, fun _ => true, o, ofRow readExtract)
  | .topologyAccept o => some (9, fun _ => true, fun _ => true, o, ofRow readTopology)
  | .twinSwitch o => some (10, fun s => !standby s, fun _ => true, o, ofRow (readTwinCmd 0))
  | .twinResync o => some (10, fun _ => false, fun _ => true, o, ofRow (readTwinCmd 1))
  | .twinDetach o => some (10, fun _ => false, fun _ => true, o, ofRow (readTwinCmd 2))
  | .twinCmdStatus o => some (10, fun _ => false, fun _ => true, o, ofRow (readTwinCmd 3))
  | .snapshot o => some (11, fun _ => true, fun _ => true, o, ofRow readSnapshot)
  | _ => none

/-- The envelope that the checks of R285 see: one whose BODY is malformed is malformed. -/
def judged (row : List U8 → Option Bool) (o : HxOrder) : Envelope :=
  { envelopeOf o with malformed := (envelopeOf o).malformed || (!(envelopeOf o).badKey && (row (envelopeOf o).body).isNone) }

/-- An order is one for a row: no other row takes it. -/
def forRow (kind : Nat) (row : List U8 → Option Bool) (o : HxOrder) : Prop :=
  (envelopeOf o).malformed = true ∨ ((envelopeOf o).kind = kind ∧ ((envelopeOf o).badKey = true ∨ row (envelopeOf o).body ≠ some false))

/-- A refusal of an order: its field book record, where Table 0.6 asks for one, and its answer, with no other change but the exchange's own. -/
def orderRefused (e : Envelope) (c : U16) (s u : State) : Prop :=
  u = recordRefusal 16 c [lo32 e.orderId, hi32 e.orderId] { s with hx := u.hx, out := [answerMsg e.sid e.orderId c false [] 0] } ∧
    u.hx.repeats = s.hx.repeats ∧ u.hx.received = s.hx.received + 1 ∧ u.hx.refused = s.hx.refused + 1

/-- Every order is checked before its effect: an envelope that a check refuses is answered with that check's code and does nothing else; a repeat
of an order is answered as recorded, with the same effect only once; an ORDER_ID used for another order is refused; a stale, early or expired
order is refused. An order of a kind that is not defined is refused too, and a message with more envelopes than the session's version allows closes
its session. A refusal of class 0x5 or 0x8 makes the field book record that Table 0.6 asks for, and nothing else changes but the exchange's own
counters. -/
def Obligations.OrdersAreCheckedBeforeTheirEffect : Prop :=
  (∀ (i : Instr) (kind : Nat) (jr perm : State → Bool) (o : HxOrder) (row : List U8 → Option Bool) (e : Envelope) (s : State) (x : HxSession),
    orderParts i = some (kind, jr, perm, o, row) → forRow kind row o → e = judged row o → s.downs = [] → roomNow s → countOk o s = true →
    sessionOf s e.sid = some x → x.version ≠ 0 →
    (∀ c, orderRefusal kind (perm s) e s = some c → Leads i s (orderRefused e c s)) ∧
    (orderRefusal kind (perm s) e s = none →
      (∀ r, (repeatsOf s e.headend).find? (fun r => r.orderId == e.orderId) = some r →
        (r.digest = e.digest → r.waits = false → Leads i s (fun u =>
          u = { s with hx := u.hx, out := [answerMsg e.sid e.orderId r.outcome true r.detail r.jsn] } ∧ u.hx.repeats = s.hx.repeats ∧
          u.hx.repeated = s.hx.repeated + 1)) ∧
        (r.digest = e.digest → r.waits = true → Leads i s (fun u => u = { s with hx := u.hx, out := [] })) ∧
        (r.digest ≠ e.digest → Leads i s (orderRefused e OC_HX_ID_REUSED s))) ∧
      (∀ c, (repeatsOf s e.headend).find? (fun r => r.orderId == e.orderId) = none → orderLate (jr s) e s = some c →
        Leads i s (orderRefused e c s)))) ∧
  (∀ (i : Instr) (kind : Nat) (jr perm : State → Bool) (o : HxOrder) (row : List U8 → Option Bool) (s : State),
    orderParts i = some (kind, jr, perm, o, row) → s.downs = [] → countOk o s = false →
    Leads i s (fun u => sessionOf u o.sid = none ∧ hxOut o.sid "CLOSE" 14 [(1, cborInt OC_HX_FORMAT.toNat)] ∈ u.out)) ∧
  ∀ (o : HxOrder) (e : Envelope) (s : State) (x : HxSession), e = envelopeOf o → s.downs = [] → countOk o s = true → sessionOf s e.sid = some x →
    x.version ≠ 0 → e.malformed = true ∨ orderKind e.kind = false →
    Leads (.hxOrderUnknownKind o) s (orderRefused e (if e.malformed then OC_HX_FORMAT
      else if e.badKey = false ∧ 0x80 ≤ e.kind ∧ e.kind ≤ 0x85 then OC_SIG else OC_UNKNOWN_TAG) s)

/-- AMEND, CALENDAR, SNAPSHOT, TOPOLOGY_ACCEPT and EXTRACT: an order that passes its checks takes effect, is answered OC_OK, and where it is
journalled takes the next JSN. -/
def Obligations.OrdersChangeCadastreCalendarsMarksAndTopology : Prop :=
  ∀ s : State,
    (∀ o a v, orderComes 1 true (fun _ => true) o s → readAmend (envelopeOf o).body = some (some a) → amendCheck a s = .ok v →
      Leads (.amend o) s (fun u => orderDone o OC_OK u ∧ u.jrn.lastJsn = s.jrn.lastJsn + 1 ∧ u.cad.last = some a ∧ u.cad.lastSeq = amdSequence a ∧
        u.cad.log = s.cad.log ++ [a] ∧ u.cad.running = s.cad.running)) ∧
    (∀ o a c, orderComes 1 true (fun _ => true) o s → readAmend (envelopeOf o).body = some (some a) → amendCheck a s = .error c →
      Leads (.amend o) s (fun u => orderDone o c u ∧ u.cad = s.cad ∧ u.jrn = s.jrn)) ∧
    (∀ o c a img, orderComes 2 true (fun _ => true) o s → readCalendar (envelopeOf o).body = some (some (c, a, img)) →
      calendarCheck c a img s = OC_OK → tabWf s.billing.cals = true →
      Leads (.calendar o) s (fun u => orderDone o OC_OK u ∧ u.jrn.lastJsn = s.jrn.lastJsn + 1 ∧
        calOf u c = { calOf s c with passive := img.map (fun x => { image := x, activation := a, orderJsn := s.jrn.lastJsn + 1 }) })) ∧
    (∀ o at_ scope cal ids, orderComes 11 true (fun _ => true) o s → readSnapshot (envelopeOf o).body = some (some (at_, scope, cal, ids)) →
      scope ≤ 2 → ids.length ≤ 4096 → cal ≤ 31 →
      snapshotCheck { at_ := at_, scope := scope, calendar := cal, identities := ids } s = OC_OK →
      Leads (.snapshot o) s (fun u => orderDone o OC_OK u ∧ u.jrn.lastJsn = s.jrn.lastJsn + 1 ∧
        u.billing.marks = s.billing.marks ++ [{ at_ := at_, scope := scope, calendar := cal, identities := ids }])) ∧
    (∀ o i gen inst node, orderComes 9 true (fun _ => true) o s → readTopology (envelopeOf o).body = some (some (i, gen, inst, node)) →
      topologyCheck i gen inst node s = OC_OK → Leads (.topologyAccept o) s (fun u =>
        (domainClear s i s.trav.nextJoin = true → orderDone o OC_OK u ∧ u.jrn.lastJsn = s.jrn.lastJsn + 1 ∧
          (parcelOf u i).steel.nextNode = node ∧ (parcelOf u i).theo.proposal = 0 ∧ (parcelOf u i).theo.accepted = inst) ∧
        (domainClear s i s.trav.nextJoin = false → u.jrn.lastJsn = s.jrn.lastJsn ∧ ∃ x ∈ u.trav.items, x.parcel = i ∧
          x.body = .order 9 0 (envelopeOf o).orderId (envelopeOf o).headend (envelopeOf o).digest (topologyNums i gen inst node)))) ∧
    (∀ o epoch leaves x y, orderComes 8 false (fun _ => true) o s → readExtract (envelopeOf o).body = some (some (epoch, leaves)) →
      sessionOf s (envelopeOf o).sid = some y → leaves ≠ [] →
      leaves.length ≤ (if y.version = 1 then 1 else 256) → epoch < s.epoch.current → unsigned s epoch = false →
      s.hx.sheets.find? (fun z => z.epoch == epoch) = some x → (∀ k ∈ leaves, k < x.leaves.length) →
      Leads (.extract o) s (fun u => orderDone o OC_OK u ∧ u.hx.extracts = s.hx.extracts + u32 leaves.length ∧ u.jrn = s.jrn ∧
        ∀ k ∈ leaves, ∃ f, hxOut (envelopeOf o).sid "EXTRACT_RESULT" 9 f ∈ u.out ∧
          f.take 5 = [(1, cborInt (envelopeOf o).orderId), (2, cborInt epoch), (3, cborInt k), (4, cborInt x.leaves.length),
            (5, cborBytes ((leafImages x).getD k []))]))

/-- KEYLOAD installs or erases a vault key, or waits in the domain of its parcel; MAINTENANCE is entered and left at the commit; a state change
is scheduled at the end of the epoch. -/
def Obligations.KeyAndLifecycleOrdersTakeEffect : Prop :=
  ∀ (o : HxOrder) (e : Envelope) (s : State), e = envelopeOf o → orderComes 7 true (fun _ => true) o s →
    (∀ b w n k, readKeyLoad e.body = some (some (0, b)) → b.scope = 0 → (b.role = 3 ∨ b.role = 7) → b.octets = some w →
      roleSlot b.role b.index = some n → orderKey false e.headend w s = some k → keyCheck false false e.headend b s = OC_OK →
      Leads (.keyloadLoad o) s (fun u => orderDone o OC_OK u ∧ u.jrn.lastJsn = s.jrn.lastJsn + 1 ∧
        vaultKey u n = some { role := b.role, version := b.version, key := k })) ∧
    (∀ b w k, readKeyLoad e.body = some (some (0, b)) → b.scope = 2 → b.octets = some w → orderKey false e.headend w s = some k →
      keyCheck false false e.headend b s = OC_OK → Leads (.keyloadLoad o) s (fun u => orderDone o OC_OK u ∧ u.jrn.lastJsn = s.jrn.lastJsn + 1 ∧
        tabFind u.act.psk b.index = some (b.version, some k, s.jrn.lastJsn + 1))) ∧
    (∀ b i p, readKeyLoad e.body = some (some (0, b)) → b.scope = 1 → keyParcel b s = some (i, p) → b.octets.isSome = true →
      keyCheck false false e.headend b s = OC_OK → Leads (.keyloadLoad o) s (fun u => u.jrn.lastJsn = s.jrn.lastJsn ∧
        ∃ x ∈ u.trav.items, x.parcel = i ∧ ∃ n k, x.body = .keyload e.orderId e.headend e.digest 0 n k ∧ k.role = b.role ∧ k.version = b.version)) ∧
    (∀ b n, readKeyErase e.body = some (some b) → b.scope = 0 → roleSlot b.role b.index = some n → tabWf s.keys.vault = true →
      keyCheck false true e.headend b s = OC_OK → Leads (.keyloadErase o) s (fun u => orderDone o OC_OK u ∧
        u.jrn.lastJsn = s.jrn.lastJsn + 1 ∧ vaultKey u n = none)) ∧
    (∀ a b c, readKeyLoad e.body = some (some (a, b)) → (if 4 < a then OC_RANGE else keyCheck false false e.headend b s) = c → c ≠ OC_OK →
      Leads (.keyloadLoad o) s (fun u => orderDone o c u ∧ u.keys = s.keys ∧ u.jrn = s.jrn)) ∧
    (readKeyPlain 2 e.body = some (some ()) → maintCheck true s = OC_OK → Leads (.enterMaintenance o) s (fun u => orderDone o OC_OK u ∧
      u.jrn.lastJsn = s.jrn.lastJsn + 1 ∧ u.keys.maintenance = true)) ∧
    (readKeyPlain 3 e.body = some (some ()) → maintCheck false s = OC_OK → Leads (.leaveMaintenance o) s (fun u => orderDone o OC_OK u ∧
      u.jrn.lastJsn = s.jrn.lastJsn + 1 ∧ u.keys.maintenance = false)) ∧
    (∀ new carry, readChange e.body = some (some (new, carry)) → e.target = .unit (unitOf s) → changeCheck false e.headend new carry s = OC_OK →
      Leads (.changeState o) s (fun u => orderDone o OC_OK u ∧ u.keys.state = s.keys.state ∧
        (s.keys.q < s.keys.reservedEnd → u.jrn = s.jrn) ∧ ∃ c, u.keys.change = some c ∧ c.newState = new ∧ c.boundary = epochEnd s s.epoch.current))

/-- Campaigns: START fixes the members, which wait; a free slot starts a transfer; a block that arrives leads to the next, one that fails is sent
again or fails the member; ACTIVATE_AT comes once; CANCEL and DEADLINE close the campaign. -/
def Obligations.CampaignsMoveTheirMembers : Prop :=
  ∀ s : State,
    (∀ o b, orderComes 3 true (fun s => s.keys.state != 2) o s → readCampaignStart (envelopeOf o).body = some (some b) →
      campaignCheck b s = none → b.supersede = false →
      Leads (.campaignStart o) s (fun u => orderDone o OC_OK u ∧ u.jrn.lastJsn = s.jrn.lastJsn + 1 ∧
        (∃ c, campaignOf u b.campaign = some c ∧ c.members = (campaignMembers b s).1 ∧ c.jsn = s.jrn.lastJsn + 1) ∧
        ∀ i ∈ (campaignMembers b s).1, memberOf u b.campaign i = true ∧ (parcelOf u i).campaign.ep = 1)) ∧
    (∀ o n c, orderComes 3 true (fun s => s.keys.state != 2) o s → readCampaignCancel (envelopeOf o).body = some (some n) → 0 < n → n ≤ 65535 →
      campaignOf s n = some c → tabWf s.hx.campaigns = true →
      Leads (.campaignCancel o) s (fun u => orderDone o OC_OK u ∧ campaignOf u n = none)) ∧
    (∀ o n, orderComes 3 true (fun s => s.keys.state != 2) o s → readCampaignCancel (envelopeOf o).body = some (some n) → 0 < n → n ≤ 65535 →
      campaignOf s n = none → Leads (.campaignCancel o) s (fun u => orderDone o OC_HX_CAMPAIGN_UNKNOWN u ∧ u.jrn = s.jrn)) ∧
    (∀ i c, campaignOf s (parcelOf s i).campaign.campaign = some c → (parcelOf s i).campaign.ep = 1 → i ∈ c.members →
      (inState s c 2).length < c.maxParallel → makesEntries s = true → s.glob.ingest = true →
      Leads (.campaignMemberStart i) s (fun u => (parcelOf u i).campaign.ep = 2 ∧ (parcelOf u i).campaign.attempts = 1 ∧
        (domainClear s i s.trav.nextJoin = true → mayCommitMade s = true → u.jrn.lastJsn = s.jrn.lastJsn + 1))) ∧
    (∀ d code l c, s.hx.ended = (d, code) :: l → d.kind = 1 → campaignOf s (parcelOf s d.parcel).campaign.campaign = some c →
      (parcelOf s d.parcel).campaign.ep = 2 → d.number = (parcelOf s d.parcel).campaign.nextBlock → d.parcel ∈ c.members →
      (code = OC_OK → d.number + 1 < blockCount c → Leads .campaignBlockOutcome s (fun u => u.hx.blocks = s.hx.blocks + 1 ∧
        (parcelOf u d.parcel).campaign.nextBlock = d.number + 1 ∧ (parcelOf u d.parcel).campaign.attempts = 1)) ∧
      (code ≠ OC_OK → (parcelOf s d.parcel).campaign.attempts ≤ c.retries → Leads .campaignBlockOutcome s (fun u =>
        (parcelOf u d.parcel).campaign.nextBlock = d.number ∧
        (parcelOf u d.parcel).campaign.attempts = (parcelOf s d.parcel).campaign.attempts + 1)) ∧
      (code ≠ OC_OK → c.retries < (parcelOf s d.parcel).campaign.attempts → Leads .campaignBlockOutcome s (fun u =>
        (parcelOf u d.parcel).campaign.ep = 6 ∧ (parcelOf u d.parcel).campaign.lastCode = code.toNat ∧
        u.hx.campFailed = s.hx.campFailed + 1))) ∧
    (∀ n c, campaignOf s n = some c → c.activateAt ≠ 0 → c.activated = false →
      Leads (.campaignActivateAt n) s (fun u => campaignOf u n = some { c with activated := true })) ∧
    (∀ n c, campaignOf s n = some c → makesEntries s = true → tabWf s.hx.campaigns = true → Leads (.campaignDeadline n) s (fun u =>
      campaignOf u n = none ∧ ∀ i ∈ inState s c 1 ++ inState s c 2 ++ inState s c 3, (parcelOf u i).campaign.ep = 6))

/-! ### Device update, recovery and the lifecycle -/

/-- MANIFEST orders of a single unit: BEGIN makes the staging slot STAGING, DATA at NEXT_OFFSET is staged and ahead of the erase waits, SCHEDULE
and CANCEL set and remove the schedule by an entry, STATUS answers the slot. -/
def Obligations.ManifestOrdersStageAndSchedule : Prop :=
  ∀ (o : HxOrder) (e : Envelope) (s : State), e = envelopeOf o → inPair s = false →
    (∀ id bytes off at_ discard signed pa, orderComes 4 false (fun _ => true) o s →
      readManifest 0 e.body = some (some (0, id, bytes, off, at_, discard)) → id ≠ 0 →
      (manifestCheck (some id) { bytes := bytes, signerOk := signed } s = OC_OK → Leads (.manifestBegin o signed pa) s (fun u =>
        orderDone o OC_OK u ∧ (stagingSlot u).state = 1 ∧ (stagingSlot u).updateId = id ∧ (stagingSlot u).nextOffset = bytes.length ∧
        (stagingSlot u).headerHash = mhHash { bytes := bytes, signerOk := signed } ∧ (stagingSlot u).erased = false ∧
        u.upd.running = s.upd.running ∧ u.jrn = s.jrn)) ∧
      (∀ c, manifestCheck (some id) { bytes := bytes, signerOk := signed } s = c → c ≠ OC_OK →
        Leads (.manifestBegin o signed pa) s (fun u => orderDone o c u ∧ u.upd = s.upd))) ∧
    (∀ id bytes off at_ discard cad pa, orderComes 4 false (fun _ => true) o s →
      readManifest 1 e.body = some (some (1, id, bytes, off, at_, discard)) → (stagingSlot s).state = 1 → (stagingSlot s).updateId = id →
      ((stagingSlot s).erased = false → Leads (.manifestData o cad pa) s (fun u => stagingSlot u = stagingSlot s ∧
        u.upd.waiting = s.upd.waiting ++
          [{ updateId := id, offset := off, bytes := bytes, cadOk := cad, partner := pa, headend := e.headend, orderId := e.orderId }])) ∧
      ((stagingSlot s).erased = true → 0 < bytes.length → bytes.length ≤ 4000000 → off + bytes.length ≤ (stagingSlot s).total →
        (off = (stagingSlot s).nextOffset →
          (∀ p ∈ (stagingSlot s).parts, ¬ (off < p.offset + p.length ∧ p.offset + p.length ≤ off + bytes.length)) →
          Leads (.manifestData o cad pa) s (fun u => orderDone o OC_OK u ∧ (stagingSlot u).nextOffset = off + bytes.length ∧
            (stagingSlot u).payload = (stagingSlot s).payload ++ [(off, bytes)])) ∧
        (∀ p, off = (stagingSlot s).nextOffset → (stagingSlot s).parts = [p] → off < p.offset + p.length → p.offset + p.length ≤ off + bytes.length →
          hashOf (stagedBytes { stagingSlot s with payload := (stagingSlot s).payload ++ [(off, bytes)] } p.offset p.length) ≠ p.hash →
          Leads (.manifestData o cad pa) s (fun u => orderDone o OC_UPD_PART_HASH u ∧ (stagingSlot u).state = 5)) ∧
        ((stagingSlot s).nextOffset < off →
          Leads (.manifestData o cad pa) s (fun u => orderDone o OC_UPD_SEQUENCE u ∧ u.upd = s.upd)))) ∧
    (∀ id bytes off a discard, orderComes 4 true (fun _ => true) o s →
      readManifest 2 e.body = some (some (2, id, bytes, off, a, discard)) → (stagingSlot s).state = 2 → (stagingSlot s).updateId = id →
      s.upd.schedule ≠ some (id, a) → (stagingSlot s).lifecycleMask.testBit (lifecycleCode s) = true → a % epochLen s = 0 →
      s.billing.time + 60000000000 ≤ a →
      Leads (.manifestSchedule o) s (fun u => orderDone o OC_OK u ∧ u.upd.schedule = some (id, a) ∧ (stagingSlot u).activateAt = a ∧
        u.jrn.lastJsn = s.jrn.lastJsn + 1)) ∧
    (∀ id bytes off at_ a discard, orderComes 4 true (fun _ => true) o s →
      readManifest 3 e.body = some (some (3, id, bytes, off, at_, discard)) → s.upd.activating = false → s.upd.schedule = some (id, a) →
      Leads (.manifestCancel o) s (fun u => orderDone o OC_OK u ∧ u.upd.schedule = none ∧ (discard = true → (stagingSlot u).state = 0) ∧
        u.jrn.lastJsn = s.jrn.lastJsn + 1)) ∧
    (∀ id bytes off at_ discard, orderComes 4 false (fun _ => true) o s →
      readManifest 4 e.body = some (some (4, id, bytes, off, at_, discard)) → Leads (.manifestStatus o) s (fun u => orderDone o OC_OK u ∧
        u.upd = s.upd ∧ answerMsg e.sid e.orderId OC_OK false (updDetail s) 0 ∈ u.out)) ∧
    ((stagingSlot s).erased = false → Leads .stagingEraseDone s (fun u => (stagingSlot u).erased = true ∧ u.upd.waiting = []))

/-- An activation puts the staging slot on trial and resets; a part that fails its hash fails the slot; a device that is not ready defers; the
active of a pair waits for its standby; a trial that runs out fails the slot and resets; a lifecycle change blows its fuse and resets. -/
def Obligations.ActivationTrialsAndStateChangesReset : Prop :=
  ∀ s : State,
    (∀ id a bad, s.upd.schedule = some (id, a) →
      (s.twin.role = 0 → s.upd.deferredAt = none → activationReady s = true →
        (bad = false → Leads (.updateActivation bad) s (fun u => u.glob.state = .reset ∧ (fwSlot u (1 - s.upd.running)).state = 3 ∧
          u.upd.schedule = none ∧ u.upd.running = s.upd.running ∧ u.upd.trialAt.isSome = true)) ∧
        (bad = true → Leads (.updateActivation bad) s (fun u => (fwSlot u (1 - s.upd.running)).state = 5 ∧ u.upd.schedule = none ∧
          u.upd.activating = false))) ∧
      (s.twin.role ≠ 1 → s.upd.deferredAt = none → activationReady s = false → Leads (.updateActivation bad) s (fun u =>
        u.upd = { s.upd with deferredAt := some a } ∧ u.glob = s.glob)) ∧
      (s.twin.role = 1 → s.upd.twinWait = none → s.upd.activating = false → Leads (.updateActivation bad) s (fun u =>
        u.upd = { s.upd with twinWait := some a } ∧ u.glob = s.glob))) ∧
    (∀ t n, s.upd.trialAt = some t → [0, 1].find? (fun n => (fwSlot s n).state == 3) = some n → Leads .trialTimerExpiry s (fun u =>
      (fwSlot u n).state = 5 ∧ u.glob.state = .reset ∧ u.upd.fallbacks = s.upd.fallbacks + 1 ∧ u.upd.trialAt = none ∧
      t + 120000000000 ≤ u.mono ∧ u.notes = [(OC_UPD_FALLBACK, [(n : Int)])])) ∧
    (∀ a, s.upd.twinWait = some a → Leads .twinUpdateWaitTimeout s (fun u => u.upd.twinWait = none ∧ u.upd.schedule = none ∧
      ∃ l, u.notes = s.notes ++ [(OC_UPD_PARTNER, l)])) ∧
    (∀ c, s.keys.change = some c →
      Leads (.stateChangeExecute true) s (fun u => u.keys.state = c.newState ∧ u.glob.state = .reset ∧ u.keys.change = none ∧
        u.keys.vaultSaved = []) ∧
      Leads (.stateChangeExecute false) s (fun u => u.keys.state = s.keys.state ∧ u.trav.c4.isSome = true)) ∧
    (∀ new, (s.keys.state = 0 ∧ new = 1 ∧ s.keys.fuseRoot = true) ∨ ((s.keys.state = 1 ∨ s.keys.state = 5) ∧ new = 6) →
      Leads (.jtagLifecycleTransition new true) s (fun u => u.keys.state = new ∧ u.glob.state = .reset ∧
        Output.send .jtag "TRANSITION" [(OC_OK.toNat : Int)] ∈ u.out)) ∧
    (∀ new fuse, s.downs = [] → s.keys.state = 2 ∨ s.keys.state = 3 ∨ s.keys.state = 4 ∨ s.keys.state = 6 →
      Leads (.jtagLifecycleTransition new fuse) s (fun u => Output.send .jtag "TRANSITION" [(OC_LIFECYCLE.toNat : Int)] ∈ u.out ∧ u.keys = s.keys ∧ u.glob = s.glob))

/-- A packet that the device sends in recovery on a path. -/
def recoveryOut (path : Nat) (name : String) (b : List U8) : Output := .send .recovery name ((path : Int) :: byteNums b)

/-- The download that a DATA packet on a path belongs to: the one in progress, else a new one. -/
def downloadOn (path : Nat) (s : State) : Download := s.upd.download.getD { path := path, slot := recoverySlot s }

/-- RECOVERY: announcements every second on both paths, downloads by offset with an answer to every valid packet, a header that fails its checks
discarding the download, a complete download installed and started by a reset, an abort or 30 s of silence ending it. Bytes that are no packet are
dropped. -/
def Obligations.RecoveryDownloadsAreAnsweredAndInstalled : Prop :=
  ∀ s : State, s.glob.state = .recovery →
    (s.upd.announcing = true → Leads .recoveryAnnounceTimer s (fun u => s.upd.announcedAt + 1000000000 ≤ u.mono ∧ u.upd.announcedAt = u.mono ∧
      ∀ path ∈ [0, 1], recoveryOut path "ANNOUNCE" (recoveryPacket 0x01 0 0 OC_OK (announceBytes s)) ∈ u.out)) ∧
    (∀ path b seq offset bytes signed cad, recoveryRead path b = some (0x10, seq, offset, bytes) → s.downs = [] →
      ((downloadOn path s).path ≠ path → Leads (.recoveryData path b signed cad) s (fun u => u.upd = s.upd ∧
        recoveryOut path "ACK" (recoveryPacket 0x11 seq 0 OC_BUSY []) ∈ u.out)) ∧
      ((downloadOn path s).path = path → offset ≠ (downloadOn path s).next → Leads (.recoveryData path b signed cad) s (fun u =>
        u.upd.slots = s.upd.slots ∧ recoveryOut path "ACK" (recoveryPacket 0x11 seq (downloadOn path s).next OC_UPD_SEQUENCE []) ∈ u.out)) ∧
      ((downloadOn path s).path = path → offset = (downloadOn path s).next → (downloadOn path s).begun = false →
        ((downloadOn path s).start ++ bytes).length < 256 → Leads (.recoveryData path b signed cad) s (fun u =>
          (fwSlot u (downloadOn path s).slot).state = 1 ∧
          u.upd.download = some { downloadOn path s with next := offset + bytes.length, start := (downloadOn path s).start ++ bytes } ∧
          recoveryOut path "ACK" (recoveryPacket 0x11 seq (offset + bytes.length) OC_OK []) ∈ u.out)) ∧
      (∀ m c, (downloadOn path s).path = path → offset = (downloadOn path s).next → (downloadOn path s).begun = false →
        m = ({ bytes := (downloadOn path s).start ++ bytes, signerOk := signed } : ManifestHead) → m.bytes.length = headBytes m →
        manifestCheck none m s = c →
        (c ≠ OC_OK → Leads (.recoveryData path b signed cad) s (fun u => (fwSlot u (downloadOn path s).slot).state = 5 ∧
          u.upd.download = some { downloadOn path s with next := 0, start := [] } ∧
          recoveryOut path "ACK" (recoveryPacket 0x11 seq 0 c []) ∈ u.out)) ∧
        (c = OC_OK → headBytes m < mhTotal m → Leads (.recoveryData path b signed cad) s (fun u =>
          (fwSlot u (downloadOn path s).slot).state = 1 ∧ (fwSlot u (downloadOn path s).slot).parts = mhPartList m ∧
          u.upd.download = some { downloadOn path s with next := offset + bytes.length, start := [], begun := true } ∧
          recoveryOut path "ACK" (recoveryPacket 0x11 seq (offset + bytes.length) OC_OK []) ∈ u.out))) ∧
      ((downloadOn path s).path = path → offset = (downloadOn path s).next → (downloadOn path s).begun = true →
        (fwSlot s (downloadOn path s).slot).nextOffset = offset → offset + bytes.length < (fwSlot s (downloadOn path s).slot).total →
        (∀ p ∈ (fwSlot s (downloadOn path s).slot).parts, ¬ (offset < p.offset + p.length ∧ p.offset + p.length ≤ offset + bytes.length)) →
        Leads (.recoveryData path b signed cad) s (fun u =>
          (fwSlot u (downloadOn path s).slot).payload = (fwSlot s (downloadOn path s).slot).payload ++ [(offset, bytes)] ∧
          (fwSlot u (downloadOn path s).slot).state = (fwSlot s (downloadOn path s).slot).state ∧
          u.upd.download = some { downloadOn path s with next := offset + bytes.length } ∧
          recoveryOut path "ACK" (recoveryPacket 0x11 seq (offset + bytes.length) OC_OK []) ∈ u.out))) ∧
    (∀ path b signed cad, recoveryRead path b = none →
      Leads (.recoveryData path b signed cad) s (fun u => u.upd = s.upd) ∧ Leads (.recoveryFinish path b) s (fun u => u.upd = s.upd) ∧
      Leads (.recoveryAbort path b) s (fun u => u.upd = s.upd)) ∧
    (∀ path b seq offset bytes d, recoveryRead path b = some (0x20, seq, offset, bytes) → s.upd.download = some d → d.path = path →
      ((fwSlot s d.slot).state = 2 → Leads (.recoveryFinish path b) s (fun u => u.glob.state = .reset ∧ u.upd.recoveryDone = true ∧
        (fwSlot u d.slot).state = 3 ∧ recoveryOut path "FINISHED" (recoveryPacket 0x21 seq d.next OC_OK []) ∈ u.out)) ∧
      ((fwSlot s d.slot).state ≠ 2 → Leads (.recoveryFinish path b) s (fun u => u.upd.download = some d ∧ u.upd.slots = s.upd.slots ∧
        recoveryOut path "FINISHED" (recoveryPacket 0x21 seq d.next OC_UPD_SEQUENCE []) ∈ u.out))) ∧
    (∀ path b seq offset bytes d, recoveryRead path b = some (0x30, seq, offset, bytes) → s.upd.download = some d → d.path = path →
      Leads (.recoveryAbort path b) s (fun u => u.upd.download = none ∧ u.upd.announcing = false ∧ u.upd.slots = s.upd.slots)) ∧
    (s.upd.announcing = false → Leads .recoverySilenceTimeout s (fun u => u.upd.download = none ∧ u.upd.announcing = true ∧
      s.upd.hostAt + 30000000000 ≤ u.mono))

/-! ### The twin -/

/-- The frame of a command of the Baseline session, and the TYPE of its row; a frame of a reserved type has none. -/
def frameRow : Instr → Option (BlFrame × Option Nat)
  | .blHeartbeat h => some (h, some 0x02)
  | .blShadow h _ => some (h, some 0x10)
  | .blEntry h _ _ => some (h, some 0x11)
  | .blCommit h => some (h, some 0x12)
  | .blDeltaPage h _ => some (h, some 0x13)
  | .blEpochEnd h => some (h, some 0x14)
  | .blEpochResult h => some (h, some 0x15)
  | .blStateCopy h _ => some (h, some 0x20)
  | .blBulk h _ => some (h, some 0x30)
  | .blBulkDone h _ => some (h, some 0x31)
  | .blKeySync h => some (h, some 0x32)
  | .blRecheck h => some (h, some 0x40)
  | .blYield h _ _ _ => some (h, some 0x41)
  | .blFault h => some (h, some 0x42)
  | .blReserveReq h => some (h, some 0x50)
  | .blCmd h => some (h, some 0x60)
  | .blCmdAnswer h => some (h, some 0x61)
  | .blClose h => some (h, some 0x7F)
  | .blReservedFrame h => some (h, none)
  | _ => none

/-- A frame is one of its row: of the row's TYPE, or of a TYPE of no row. -/
def ofFrameRow (h : BlFrame) (type : Option Nat) : Prop := match type with
  | some t => h.type = t
  | none => blTypes.contains h.type = false

/-- A frame is authentic under the session in force and comes on a lane in use. -/
def frameAuthentic (h : BlFrame) (s : State) : Prop := s.twin.link.lanes.getLsbD h.lane = true ∧ blAuthentic h s.twin.link = true

/-- A well-formed, authentic frame of a TYPE, the next in sequence, with `n` bytes of body. -/
def framePasses (type n : Nat) (h : BlFrame) (s : State) : Prop :=
  frameAuthentic h s ∧ h.type = type ∧ h.framed n = true ∧ h.seq = s.twin.link.rxSeq + 1

/-- The same, with the body as long as LENGTH says. -/
def frameComes (type : Nat) (h : BlFrame) (s : State) : Prop := framePasses type h.body.length h s

/-- A frame of a TYPE with this body has gone out on the link. -/
def frameSent (type : Nat) (body : List U8) (u : State) : Prop :=
  ∃ lane head, Output.baseline lane (head ++ body) none ∈ u.out ∧ head.length = 32 ∧ beAt head 3 1 = type ∧ beAt head 4 4 = 48 + body.length

/-- A frame of the Baseline link has an effect only where its tag verifies under the session's key and it is the next in sequence: a bad one is
counted, a repeated one or one beyond a gap is received for its acknowledgement alone, and a malformed one or one of a reserved type closes the
session. -/
def Obligations.OnlyAuthenticFramesInOrderTakeEffect : Prop :=
  ∀ (i : Instr) (h : BlFrame) (type : Option Nat) (s : State), frameRow i = some (h, type) → ofFrameRow h type → s.downs = [] →
    s.twin.link.lanes.getLsbD h.lane = true →
    (blAuthentic h s.twin.link = false → Leads i s (fun u =>
      u.twin = { s.twin with link := { s.twin.link with authFail := s.twin.link.authFail + 1 } } ∧ s.mono + h.dt ≤ u.mono ∧
      u = { s with twin := u.twin, mono := u.mono, bench := u.bench, epoch := u.epoch, billing := u.billing, out := [] })) ∧
    (frameAuthentic h s → h.seq ≠ s.twin.link.rxSeq + 1 → Leads i s (fun u => u.twin.link.rxSeq = s.twin.link.rxSeq ∧
      u.twin.link.framesRx = s.twin.link.framesRx + 1 ∧ u.twin.link.lastRx = u.mono ∧
      u.twin.link.unacked = s.twin.link.unacked.filter (fun x => decide (h.ackSeq < x.seq)) ∧
      u = { s with twin := u.twin, mono := u.mono, bench := u.bench, epoch := u.epoch, billing := u.billing, out := [] })) ∧
    (frameAuthentic h s → h.seq = s.twin.link.rxSeq + 1 → beAt h.head 0 2 ≠ 0x424C ∨ beAt h.head 2 1 ≠ 1 ∨ type = none →
      Leads i s (fun u => u.twin.link.paired = false ∧ frameSent 0x7F (beBytes 2 OC_TWIN_LINK_FORMAT.toNat) u)) ∧
    (frameComes 0x02 h s → i = .blHeartbeat h → h.body = [] → Leads i s (fun u => u.twin.link.rxSeq = h.seq ∧
      u.twin.link.framesRx = s.twin.link.framesRx + 1 ∧
      u = { s with twin := u.twin, mono := u.mono, bench := u.bench, epoch := u.epoch, billing := u.billing, out := [] }))

/-- The link: a HELLO sealed under the twin link key that both units hold pairs them, with keys that each derives alike; CLOSE ends the session,
unacknowledged frames are sent again, silence is filled with heartbeats and ends in a lost link, and a lane leaves and rejoins. -/
def Obligations.BaselineLinkPairsAndRecovers : Prop :=
  ∀ s : State,
    (∀ (f : BlFrame) (h : BlHello) k, s.twin.link.lanes.getLsbD f.lane = true → twinRun s = true → vaultKey s 27 = some k → f.type = 1 →
      f.framed f.body.length = true → helloRead f.body = some h →
      (f.key = blHelloKey k.key → h.lifecycle = lifecycleCode s → roleOpen s = false → (s.twin.role = 1 → h.role ≠ 3) →
        Leads (.blHello f) s (fun u => u.twin.link.paired = true ∧ u.twin.peerUnit = h.unit ∧ u.twin.link.rxSeq = 0 ∧
          u.twin.peer = some (h.uid, h.sp2, h.lastSealed, h.role) ∧ (h.uid ≤ s.keys.uid → u.twin.link.session = 0) ∧
          (s.keys.uid < h.uid → u.twin.link.session ≠ 0) ∧ (s.twin.link.helloSent = true →
            (u.twin.link.keyTx, u.twin.link.keyRx) = (if s.keys.uid < h.uid then sessionKeys s.twin.link.nonce h.nonce k.key
              else ((sessionKeys h.nonce s.twin.link.nonce k.key).2, (sessionKeys h.nonce s.twin.link.nonce k.key).1))))) ∧
      (f.key ≠ blHelloKey k.key → Leads (.blHello f) s (fun u => u.twin.link.paired = s.twin.link.paired ∧
        u.twin.link.authFail = s.twin.link.authFail + 1))) ∧
    (∀ h, frameComes 0x7F h s → h.body.length = 2 → Leads (.blClose h) s (fun u => u.twin.link.paired = false ∧ u.twin.link.unacked = [])) ∧
    (s.twin.link.paired = true → s.twin.link.unacked ≠ [] → Leads .blResendTimeout s (fun u =>
      u.twin.link.resends = s.twin.link.resends + 1 ∧ s.twin.link.lastAck + 50000 ≤ u.mono ∧ u.twin.link.unacked = s.twin.link.unacked ∧
      ∀ x ∈ s.twin.link.unacked, Output.baseline x.lane x.bytes x.copy ∈ u.out)) ∧
    (s.twin.link.lanes ≠ 0 → twinRun s = true →
      (s.twin.link.paired = true → Leads .blHeartbeatTimer s (fun u => s.twin.link.lastTx + 100000 ≤ u.mono ∧
        u.twin.link.txSeq = s.twin.link.txSeq + 1 ∧ frameSent 0x02 [] u)) ∧
      (s.twin.link.paired = false → Leads .blHeartbeatTimer s (fun u => s.twin.link.lastTx + 100000 ≤ u.mono ∧
        u.twin.link.helloSent = true ∧ frameSent 0x01 (helloBytes (ownHello u u.twin.link.nonce)) u))) ∧
    (s.twin.link.paired = true → Leads .blLinkTimeout s (fun u => u.twin.link.paired = false ∧
      s.twin.link.lastRx + twinParam s 2 * 1000000 ≤ u.mono)) ∧
    (∀ lane : Fin 2, s.twin.link.lanes.getLsbD lane.val = true → Leads (.blLaneLockLoss lane) s (fun u =>
      u.twin.link.lanes.getLsbD lane.val = false ∧ s.mono + 1000000 ≤ u.mono)) ∧
    (∀ lane : Fin 2, s.twin.link.lanes.getLsbD lane.val = false → twinRun s = true → Leads (.blLaneRejoin lane) s (fun u =>
      u.twin.link.lanes.getLsbD lane.val = true ∧ s.mono + 100000000 ≤ u.mono))

/-- A standby follows the stream: it keeps shadowed frames and entries, commits under the JSNs given, collects pages, installs copies and keys;
a joiner takes the bulk copy and catches up, or starts again where the copy is damaged. -/
def Obligations.StandbyFollowsTheStream : Prop :=
  ∀ (h : BlFrame) (s : State),
    (s.twin.role = 2 →
      (∀ a b, frameComes 0x10 h s → shadowFramed h.body = true → b = shadowRead h.body a →
        s.trav.staged.length < 8250000 → s.trav.stagedBytes + units64 b.arr.length + 64 ≤ 2147483648 → Leads (.blShadow h a) s (fun u =>
          u.twin.item = b.item ∧ u.trav.nextAsn = b.asn + 1 ∧ u.twin.stream = s.twin.stream ++ [(b.item, .shadow b.asn)] ∧
          (tagFree s = true → s.trav.staged = [] → u.trav.admitted = s.trav.admitted + 1) ∧
          (tagFree s = false → u.trav.staged.length = s.trav.staged.length + 1 ∧ u.trav.tags = s.trav.tags))) ∧
      (∀ item k jsn oc, frameComes 0x12 h s → h.body.length = 24 → commitRead h.body = [(item, jsn, oc)] →
        s.twin.stream.find? (fun e => e.1 == item) = some (item, .entry k) → jsn ≠ 0 →
        Leads (.blCommit h) s (fun u => ∃ e ∈ u.jrn.entries, e.jsn = jsn ∧ e.body = (tabGet s.twin.entries item {}).body))) ∧
    (s.twin.role = 3 → s.twin.caughtUp = false →
      (∀ a b, frameComes 0x10 h s → shadowFramed h.body = true → b = shadowRead h.body a →
        s.trav.staged.length < 8250000 → s.trav.stagedBytes + units64 b.arr.length + 64 ≤ 2147483648 → Leads (.blShadow h a) s (fun u =>
          u.trav.nextAsn = b.asn + 1 ∧ u.trav.staged.length = s.trav.staged.length + 1 ∧ u.trav.tags = s.trav.tags)) ∧
      (frameComes 0x12 h s → h.body.length % 24 = 0 → 24 ≤ h.body.length → h.body.length ≤ 12288 →
        Leads (.blCommit h) s (fun u => u.twin.commits = s.twin.commits ++ commitRead h.body ∧ u.jrn = s.jrn)) ∧
      (∀ r, framePasses 0x30 (8192 * r.length) h s → 1 ≤ r.length → r.length ≤ 15 → (∀ x ∈ r, x.1 < capacityOf s.ecc.dramGib) →
        Leads (.blBulk h r) s (fun u => u.twin.bulk = s.twin.bulk + r.length ∧
          ∀ x, r = [x] → tabFind u.store.parcels x.1 = some x.2.1 ∧ tabFind u.store.image x.1 = some x.2)) ∧
      (∀ r x, framePasses 0x30 (8192 * r.length) h s → 1 ≤ r.length → r.length ≤ 15 → x ∈ r → capacityOf s.ecc.dramGib ≤ x.1 →
        Leads (.blBulk h r) s (fun u => u.twin.link.paired = false ∧ u.twin.bulk = 0 ∧
          frameSent 0x7F (beBytes 2 OC_PARCEL_DRAM_SHRUNK.toNat) u)) ∧
      (∀ b : BulkEnd, frameComes 0x31 h s → h.body.length = 44 →
        (beAt h.body 12 32 = b.hash → beAt h.body 8 4 = s.twin.bulk → (∀ r ∈ b.free, r.2 ≤ capacityOf s.ecc.dramGib) →
          Leads (.blBulkDone h b) s (fun u => u.twin.caughtUp = true ∧ u.twin.commits = [] ∧
            (s.trav.staged = [] → s.twin.commits = [] → u.jrn.lastJsn = beAt h.body 0 8))) ∧
        (beAt h.body 12 32 ≠ b.hash ∨ beAt h.body 8 4 ≠ s.twin.bulk → Leads (.blBulkDone h b) s (fun u => u.twin.bulk = 0 ∧
          u.twin.role = 3 ∧ u.twin.link.paired = false)))) ∧
    (standby s = true →
      (∀ n e am, frameComes 0x11 h s → h.body = beBytes 8 n ++ entryBuilt e → n < 2 ^ 64 → Leads (.blEntry h e am) s (fun u =>
        tabFind u.twin.entries n = some e ∧ u.jrn = s.jrn ∧ u.twin.stream = s.twin.stream ++ [(n, .entry n)])) ∧
      (∀ fail, frameComes 0x13 h s → h.body.length = 65552 → s.twin.reserveAsked = none → Leads (.blDeltaPage h fail) s (fun u =>
        u.twin.deltaPages = s.twin.deltaPages ++ [(beSigned h.body 0 8, pageLast 1024 (h.body.drop 16))])) ∧
      (∀ l, frameComes 0x20 h s → beAt h.body 0 1 = 4 → Leads (.blStateCopy h (.acks l)) s (fun u => u.hx = { s.hx with acks := l })) ∧
      (∀ k v, frameComes 0x32 h s → h.body.length = 38 → keySyncRead h.body = [(k, v)] → slotPair k = true →
        Leads (.blKeySync h) s (fun u => vaultKey u k = some v ∧ (k = 0 → u.keys.pkekGen = kekGenOf v) ∧ (k = 1 → u.keys.pkekPrev = kekGenOf v))))

/-- The digests of an epoch are compared: equal ones leave nothing behind, differing ones start a recheck; each unit's verdict is sent, the unit
at fault rejoins or yields, and equal verdicts stay unresolved. -/
def Obligations.EpochsAreComparedAndRechecked : Prop :=
  ∀ s : State,
    (∀ h x, frameComes 0x14 h s → h.body.length = 160 → x = epochEndRead h.body → s.twin.role = 2 → mixed s = false →
      Leads (.blEpochEnd h) s (fun u => u.twin.compared = x.epoch ∧ u.twin.epochsCompared = s.twin.epochsCompared + 1 ∧
        (digestMask (digestsOf s x.epoch) x.digests = 0 → u.twin.rechecks = s.twin.rechecks) ∧
        (digestMask (digestsOf s x.epoch) x.digests ≠ 0 → u.twin.divergences = s.twin.divergences + 1 ∧
          u.twin.rechecks.length = s.twin.rechecks.length + 1) ∧
        frameSent 0x15 (beInt 8 x.epoch ++ beBytes 1 (digestMask (digestsOf s x.epoch) x.digests) ++ zeros 7) u)) ∧
    (∀ h e mask, frameComes 0x15 h s → h.body.length = 16 → e = beSigned h.body 0 8 → mask = beAt h.body 8 1 → s.twin.role = 1 → mixed s = false →
      s.twin.resynced = true → Leads (.blEpochResult h) s (fun u => u.twin.compared = e ∧ u.twin.epochsCompared = s.twin.epochsCompared + 1 ∧
        (mask = 0 → u.twin.rechecks = s.twin.rechecks) ∧
        (mask ≠ 0 → u.twin.divergences = s.twin.divergences + 1 ∧ u.twin.rechecks.length = s.twin.rechecks.length + 1))) ∧
    (∀ r scrub replayed, s.twin.rechecks = [r] → r.own = none → r.peer = none → s.twin.link.lanes ≠ 0 →
      (∀ differs, differs = (replayed != ((s.twin.digests.find? (fun d => d.1 == r.epoch)).map (·.2)).getD []) →
        Leads (.recheckDone scrub replayed) s (fun u => u.twin.rechecks = [{ r with own := some (scrub || differs) }] ∧
          frameSent 0x40 (beInt 8 r.epoch ++ beBytes 1 (scrub || differs).toNat ++
            beBytes 1 ((if scrub then 1 else 0) + (if differs then 2 else 0)) ++ replayed.flatMap (beBytes 32)) u)) ∧
      Leads .recheckTimeout s (fun u => u.twin.rechecks = [{ r with own := some true }] ∧ r.since + 2 * epochLen s ≤ u.mono)) ∧
    (∀ h r fault, frameComes 0x40 h s → h.body.length = 138 → beSigned h.body 0 8 = r.epoch → fault = (beAt h.body 8 1 == 1) →
      s.twin.rechecks = [r] →
      (r.own = none → Leads (.blRecheck h) s (fun u => u.twin.rechecks = [{ r with peer := some fault }])) ∧
      (r.own = some true → fault = false → s.twin.role = 1 → Leads (.blRecheck h) s (fun u => u.twin.rechecks = [] ∧
        ∃ t, u.twin.takeover = some t ∧ t.yielding = true ∧ t.cause = 3)) ∧
      (r.own = some fault → s.twin.role = 1 → Leads (.blRecheck h) s (fun u => u.twin.rechecks = [] ∧ u.twin.resynced = false ∧
        u.notes = s.notes ++ [(OC_TWIN_UNRESOLVED, [r.epoch])])) ∧
      (r.own = some true → s.twin.role = 2 → Leads (.blRecheck h) s (fun u => u.twin.role = 3 ∧ u.twin.rechecks = [])))

/-- The side-band and the roles: TWIN_ALIVE toggles, a silent peer is lost and an edge brings it back, arbitration ends in the role or in a
back-off, a fault of the active triggers a takeover, YIELD and the takeover instant move the active role, a missing cover detaches. -/
def Obligations.RolesAreArbitratedAndTakenOver : Prop :=
  ∀ s : State,
    (aliveHeld s.glob.state = false →
      (s.twin.yielded = false → s.twin.toggling = true → Leads .twinAliveToggle s (fun u => u.twin.alive = !s.twin.alive ∧
        s.twin.toggledAt + 500000 ≤ u.mono ∧ u.twin.toggledAt = u.mono)) ∧
      (s.twin.yielded = true → Leads .twinAliveToggle s (fun u => u.twin.role = 3 ∧ u.twin.yielded = false ∧ u.twin.toggling = true))) ∧
    (s.twin.peerAlive = true → Leads .peerAliveLoss s (fun u => u.twin.peerAlive = false ∧ s.mono + 5000000 ≤ u.mono)) ∧
    (∀ role dt, Leads (.peerAliveReturn role dt) s (fun u => u.twin.peerAlive = true ∧ u.twin.peerRole = role ∧ s.mono + dt ≤ u.mono)) ∧
    (∀ t, s.twin.arb = .waiting t →
      Leads (.roleArbitrationWait false) s (fun u => u.twin.arb = .none ∧ t + 10000000 ≤ u.mono ∧ (roleOpen s = true → u.twin.role = 1)) ∧
      (s.twin.peerAlive = true → s.twin.takeover = none → sp2 s = 1 → Leads (.roleArbitrationWait true) s (fun u => u.twin.roleOut = false ∧
        u.twin.role = s.twin.role ∧ ∃ d, u.twin.arb = .backoff d ∧ u.mono + 10000000 ≤ d ∧ d ≤ u.mono + 100000000))) ∧
    (∀ t, s.twin.arb = .backoff t → peerActive s = false → Leads .roleArbitrationBackoff s (fun u => u.twin.roleOut = true ∧
      t ≤ u.mono ∧ u.twin.arb = .waiting u.mono)) ∧
    (∀ t, s.twin.holdAt = some t → shadowing s = true → Leads .mirrorHoldTimeout s (fun u => u.twin.detached = true ∧ u.twin.holdAt = none ∧
      t + twinParam s 3 * 1000000 ≤ u.mono)) ∧
    (∀ h, frameComes 0x42 h s → h.body.length = 2 → ocIsFault (BitVec.ofNat 16 (beAt h.body 0 2)) = true → mayTakeOver s = true →
      Leads (.blFault h) s (fun u => u.twin.roleOut = true ∧
      ∃ t, u.twin.takeover = some t ∧ t.cause = 2 ∧ t.yielding = false)) ∧
    (∀ h load fail up, frameComes 0x41 h s → h.body.length = 9 → s.twin.role = 2 → serving s = true →
      Leads (.blYield h load fail up) s (fun u => u.twin.role = 1 ∧ u.twin.roleOut = true ∧ u.twin.takeover = none ∧
        u.twin.cause = beAt h.body 8 1 ∧ u.twin.detached = true ∧ u.hx.listening = true)) ∧
    (∀ t load fail bad up, s.twin.takeover = some t →
      (t.yielding = false → s.twin.roleOut = true → s.twin.arb = .none →
        t.instant < epochEnd (elapseDev t.instant (saying [] s)) (elapseDev t.instant (saying [] s)).epoch.current →
        Leads (.takeoverInstant load fail bad up) s (fun u => u.twin.role = 1 ∧ u.twin.takeover = none ∧ u.twin.cause = t.cause ∧
          u.twin.detached = true ∧ u.hx.listening = true)) ∧
      (t.yielding = true → s.twin.role = 1 → s.upd.activating = false →
        t.instant < epochEnd (elapseDev t.instant (saying [] s)) (elapseDev t.instant (saying [] s)).epoch.current →
        Leads (.takeoverInstant load fail bad up) s (fun u => u.twin.role = 3 ∧ u.twin.roleOut = false ∧ u.twin.takeover = none ∧
          u.twin.yielded = true ∧ u.twin.toggling = false)))

/-- TWIN_CMD at the active: SWITCH plans the takeover by an entry, RESYNC ends the session, DETACH stops mirroring, STATUS answers; a standby
relays an order as it came and answers it as the active does, and the active commits the standby's leaf reservation. -/
def Obligations.TwinOrdersAreHandledByTheActive : Prop :=
  ∀ s : State,
    (∀ o, s.twin.role = 1 → s.twin.link.paired = true →
      (orderComes 10 true (fun _ => true) o s → readTwinCmd 0 (envelopeOf o).body = some (some 0) → s.twin.takeover = none →
        s.twin.resynced = true → s.twin.detached = false → s.twin.detachOrder = false → Leads (.twinSwitch o) s (fun u =>
          orderDone o OC_OK u ∧ u.jrn.lastJsn = s.jrn.lastJsn + 1 ∧ ∃ t, u.twin.takeover = some t ∧ t.yielding = true ∧ t.cause = 4)) ∧
      (orderComes 10 false (fun _ => true) o s →
        (readTwinCmd 1 (envelopeOf o).body = some (some 1) → s.twin.detached = true → Leads (.twinResync o) s (fun u => orderDone o OC_OK u ∧
          u.twin.detached = false ∧ u.twin.link.paired = false ∧ u.jrn = s.jrn)) ∧
        (readTwinCmd 2 (envelopeOf o).body = some (some 2) → s.twin.detachOrder = false → Leads (.twinDetach o) s (fun u =>
          orderDone o OC_OK u ∧ u.twin.detachOrder = true ∧ u.jrn = s.jrn)))) ∧
    (∀ o, orderComes 10 false (fun _ => true) o s →
      (readTwinCmd 3 (envelopeOf o).body = some (some 3) → s.twin.role ≤ 1 → Leads (.twinCmdStatus o) s (fun u => orderDone o OC_OK u ∧
        u.twin = s.twin ∧ answerMsg (envelopeOf o).sid (envelopeOf o).orderId OC_OK false
          (cborMap [cborInt (twinStatus s).toNat, cborBytes (beBytes 16 s.twin.peerUnit), cborInt s.twin.compared]) 0 ∈ u.out)) ∧
      (readTwinCmd 2 (envelopeOf o).body = some (some 2) → s.twin.role = 0 → Leads (.twinDetach o) s (fun u =>
        orderDone o OC_TWIN_NO_PARTNER u ∧ u.twin = s.twin)) ∧
      (readTwinCmd 1 (envelopeOf o).body = some (some 1) → standby s = true → s.twin.link.paired = true → s.twin.link.lanes ≠ 0 →
        Leads (.twinResync o) s (fun u => u.twin.relayed = s.twin.relayed ++ [((envelopeOf o).headend, (envelopeOf o).orderId)] ∧
          frameSent 0x60 o.envelope u))) ∧
    (∀ h, s.twin.role = 1 →
      (∀ m, frameComes 0x60 h s → (relayedOrder h).malformed = false → (relayedOrder h).kind = 10 → cborMapOf (relayedOrder h).body = some m →
        (natKey m 1 = some 3 → Leads (.blCmd h) s (fun u => ∃ d, frameSent 0x61 (beBytes 2 OC_OK.toNat ++ d) u)) ∧
        (natKey m 1 = some 2 → s.twin.detachOrder = false → Leads (.blCmd h) s (fun u => u.twin.detachOrder = true ∧
          frameSent 0x61 (beBytes 2 OC_OK.toNat) u))) ∧
      (frameComes 0x50 h s → h.body.length = 64 → Leads (.blReserveReq h) s (fun u => u.jrn.lastJsn = s.jrn.lastJsn + 1 ∧
        ∃ e ∈ u.jrn.entries, e.jsn = s.jrn.lastJsn + 1 ∧
          e.body = .lmsReserve [(beAt h.body 0 16 : Int), leAt h.body 16 8, leAt h.body 24 8, leAt h.body 32 1]))) ∧
    (∀ h hd id l r, frameComes 0x61 h s → 2 ≤ h.body.length → standby s = true → s.twin.relayed = (hd, id) :: l →
      (repeatsOf s hd).find? (fun r => r.orderId == id && r.waits) = some r → (sessionOf s r.sid).isSome = true →
      Leads (.blCmdAnswer h) s (fun u => u.twin.relayed = l ∧
        answerMsg r.sid id (BitVec.ofNat 16 (beAt h.body 0 2)) false (h.body.drop 2) 0 ∈ u.out))

/-! ### Memory, field books, panel and power -/

/-- The patrol scrubber goes line by line and pass by pass, poisons what it cannot correct and is late after twice its period; open records
close after 1 s, a freeze ends after 1 s, HOURS counts; the panel draws its target image, books it when the waveform ends, gives up on a rail and
waits in the cold. -/
def Obligations.ScrubberFieldBooksAndPanelRun : Prop :=
  ∀ s : State,
    (s.ecc.scrubPaused = false → s.ecc.scrubbing = true →
      (∀ x v, v = lineVerdict (markedDevice s s.ecc.scrubLine x.rank) (readErrors s s.ecc.scrubLine x) →
        (v = .clean → s.ecc.scrubLine + 1 < dramLines s → s.downs = [] → Leads (.patrolScrubRead x) s (fun u =>
          u = saying [] { s with ecc := { s.ecc with scrubLine := s.ecc.scrubLine + 1 } })) ∧
        (v = .clean → dramLines s ≤ s.ecc.scrubLine + 1 → Leads (.patrolScrubRead x) s (fun u => u.ecc.scrubLine = 0 ∧
          u.ecc.passes = s.ecc.passes + 1 ∧ u.ecc.late = false)) ∧
        (∀ ds, v = .corrected ds → Leads (.patrolScrubRead x) s (fun u =>
          tabGet u.ecc.ceLines (lineSub s.ecc.scrubLine) 0 = tabGet s.ecc.ceLines (lineSub s.ecc.scrubLine) 0 + 1 ∧
          u.ecc.poisoned = s.ecc.poisoned.filter (· != s.ecc.scrubLine))) ∧
        (v = .poisoned → Leads (.patrolScrubRead x) s (fun u => u.ecc.poisonReads = s.ecc.poisonReads + 1 ∧
          u.ecc.poisoned = s.ecc.poisoned)) ∧
        (v = .uncorrectable → Leads (.patrolScrubRead x) s (fun u => s.ecc.scrubLine ∈ u.ecc.poisoned ∧
          tabGet u.ecc.ue (lineSub s.ecc.scrubLine) 0 = tabGet s.ecc.ue (lineSub s.ecc.scrubLine) 0 + 1))) ∧
      (∀ x, x.flips = [] → x.other = none →
        lineVerdict (markedDevice s s.ecc.scrubLine x.rank) (readErrors s s.ecc.scrubLine x) =
          (if s.ecc.poisoned.contains s.ecc.scrubLine then .poisoned else .clean)) ∧
      (s.ecc.late = false → Leads .scrubLate s (fun u => u.ecc.late = true ∧ u.ecc.scrubLine = s.ecc.scrubLine ∧
        s.ecc.scrubAt + 2 * cadNum s 0x0920 0 * 3600000000000 ≤ u.mono))) ∧
    (∀ b r t, (tabGet s.fb.blocks b {}).opened = some (r, t) → Leads (.fbRecordClose b) s (fun u =>
      (tabGet u.fb.blocks b {}).opened = none ∧ t + 1000000000 ≤ u.mono ∧ s.fb.nextSeq + 1 ≤ u.fb.nextSeq)) ∧
    (∀ z, s.fb.freeze = some z → Leads .fbFreezeExpiry s (fun u => u.fb.freeze = none ∧ z.since + 1000000000 ≤ u.mono)) ∧
    Leads .hoursTick s (fun u => u.fb.hours = (s.fb.hours + 1) % 4294967296 ∧ s.fb.hoursAt + 225000000000 ≤ u.mono) ∧
    (∀ field, cadNum s 0x0930 0 ≠ 0 → s.panel.run = none → s.power.lastGasp = false → targetImage none s ≠ s.panel.shown →
      s.panel.accKnown = true → s.panel.balancePending = false → -150 ≤ field + 10 * cadInt s 0x0930 0 1 →
      Leads (.panelUpdateStart field) s (fun u => u.panel.shown = s.panel.shown ∧
        (∃ r, u.panel.run = some r ∧ r.kind = .update ∧ r.target = targetImage none s ∧ r.band = bandOf (field + 10 * cadInt s 0x0930 0 1)) ∧
        (∀ t, s.panel.lastStart = some t → s.glob.state ≠ .halted → t + cadNum s 0x0930 2 * 1000000000 ≤ u.mono))) ∧
    (∀ field r, s.panel.run = some r → Leads (.panelWaveformDone field) s (fun u => u.panel.shown = r.target ∧
      u.panel.updates = s.panel.updates + 1 ∧ u.panel.balances = (if r.kind = .balance then s.panel.balances + 1 else s.panel.balances))) ∧
    (∀ rail r, s.panel.run = some r → Leads (.panelRailTimeout rail) s (fun u => u.panel.run = none ∧ u.panel.shown = s.panel.shown ∧
      u.panel.railFaults = s.panel.railFaults + 1 ∧ u.panel.failed = decide (3 ≤ s.panel.railRun + 1))) ∧
    (∀ main field, Leads (.panelTempMeasure main field) s (fun u => u.power.mainTemp = (if s.power.railEn then main else 0) ∧ u.power.fieldTemp = field ∧
      u.panel.temp = field + 10 * cadInt s 0x0930 0 1 ∧ u.panel.band = bandOf (field + 10 * cadInt s 0x0930 0 1))) ∧
    (∀ field, s.panel.cold = true → s.panel.run = none → s.power.lastGasp = false → cadNum s 0x0930 0 ≠ 0 → Leads (.panelColdRetry field) s (fun u =>
      s.panel.retryAt + 60000000000 ≤ u.mono ∧
      (field + 10 * cadInt s 0x0930 0 1 < -150 → u.panel.run = none ∧ u.panel.deferred = s.panel.deferred + 1) ∧
      (-150 ≤ field + 10 * cadInt s 0x0930 0 1 → u.panel.run.isSome = true)))

/-- Power and temperature: a sample of VIN_SENSE below 75 % of the threshold, on a steep fall or at the end of the dwell trips the armed detector into
LAST_GASP, and any other sample is only taken (a return to between the threshold and 50 mV above it does not end the dwell: the model's choice, log 135); the flush ends it with its marker, returning power resets; a low rail is a C4
fault; a hot die is noted once, trips with the rails held off, and resets 60 s later; an Ethernet link moves its panel segment. -/
def Obligations.PowerFailsAndTemperatureTrips : Prop :=
  ∀ s : State,
    (∀ v, s.power.armed = true → s.power.lastGasp = false → v < cadNum s 0x0932 0 →
      (4 * v < 3 * cadNum s 0x0932 0 ∨ (∃ o, s.power.window[9]? = some o ∧ cadNum s 0x0932 1 < 10 * (o - v)) ∨
        s.power.lowSince.getD (s.mono + 10000) + cadNum s 0x0932 2 * 1000 ≤ s.mono + 10000) →
      Leads (.powerFailTrip [v]) s (fun u => u.glob.state = .lastGasp ∧ u.glob.ingest = false ∧
        u.power.lastGasp = true ∧ u.power.trips = s.power.trips + 1 ∧ u.power.vin = v ∧ u.trav.stopped = true ∧
        (standby s = false → s.glob.state ≠ .slowHold → ∀ x ∈ s.hx.sessions, x.version ≠ 0 →
          hxOut x.sid "LAST_GASP" 11 [(1, cborInt (devTime (vinSample v s))), (2, cborInt s.epoch.current), (3, cborInt s.jrn.lastJsn)] ∈ u.out))) ∧
    (∀ v, s.downs = [] → (s.power.armed = false ∨ s.power.lastGasp = true ∨ cadNum s 0x0932 0 ≤ v ∨
        (3 * cadNum s 0x0932 0 ≤ 4 * v ∧ (∀ o, s.power.window[9]? = some o → 10 * (o - v) ≤ cadNum s 0x0932 1) ∧
          s.mono + 10000 < s.power.lowSince.getD (s.mono + 10000) + cadNum s 0x0932 2 * 1000)) →
      Leads (.powerFailTrip [v]) s (fun u => u = saying [] (vinSample v s))) ∧
    (∀ pages field, s.power.lastGasp = true → s.power.lgCut = false → s.power.lgStep = 3 →
      Leads (.lastGaspFlushDone pages field) s (fun u => u.power.lgStep = 7 ∧ u.power.railEn = false ∧ u.bench.running = false ∧
        u.power.marker = some (s.power.tripTime, u.jrn.lastJsn, u.jrn.durable) ∧ s.power.tripAt + 20000000 ≤ u.mono)) ∧
    (∀ vin, s.power.lgStep = 7 → cadNum s 0x0932 0 + 50 < vin → Leads (.vinReturnReset vin) s (fun u => u.glob.state = .reset ∧
      u.power.lastGasp = false ∧ s.power.returnAt.getD s.mono + 100000000 ≤ u.mono)) ∧
    (∀ rail, (s.power.lastGasp = true → s.downs = [] → Leads (.railLow rail) s (fun u =>
        u = saying [] { s with power := { s.power with lgCut := true } })) ∧
      (s.power.lastGasp = false → Leads (.railLow rail) s (fun u => u.trav.stopped = true ∧ u.trav.c4 = some (s.trav.c4.getD OC_RAIL_LOW)))) ∧
    (∀ t, s.power.tempHigh = false → 1100 ≤ t → Leads (.tempHigh t) s (fun u => u.power.tempHigh = true ∧ u.power.mainTemp = t ∧
      u.notes = s.notes ++ [(OC_TEMP_HIGH, [t])])) ∧
    (∀ t, (s.power.tempHigh = true ∨ t < 1100) → s.downs = [] → Leads (.tempHigh t) s (fun u =>
      u = saying [] { s with power := { s.power with mainTemp := t } })) ∧
    (∀ t, t < 1200 → s.downs = [] → Leads (.tempTrip t) s (fun u => u = saying [] { s with power := { s.power with mainTemp := t } })) ∧
    (∀ t, 1200 ≤ t → Leads (.tempTrip t) s (fun u => u.power.railEn = false ∧ u.power.thermalAt = some s.mono ∧ u.power.mainTemp = t ∧
      u.trav.c4 = some (s.trav.c4.getD OC_TEMP_TRIP))) ∧
    (∀ t, s.power.thermalAt = some t → Leads .railEnHoldExpiry s (fun u => u.glob.state = .reset ∧ t + 60000000000 ≤ u.mono ∧
      u.power.thermalAt = none)) ∧
    (∀ (port : Fin 5) up, s.downs = [] → Leads (.ethLinkChange port.val up) s (fun u => u.panel.links.getLsbD port.val = up ∧
      (∀ q, q ≠ port.val → u.panel.links.getLsbD q = s.panel.links.getLsbD q) ∧
      u = saying [] { s with panel := { s.panel with links := u.panel.links } }))
end

