-- ==== Sys2Proof/Laws/Books.lean ====
section
/-! SUPPORT. What making a field book record can change: the books, the queue that EVENT_FEED fills, and the outputs (18 R411 to R417). -/

namespace Sys2Proof.Machine

/-- Only the field books, the word queues and the outputs differ, and the outputs post no write. -/
def BooksOnly (s t : State) : Prop :=
  t = { s with fb := t.fb, queues := t.queues, out := t.out } ∧ (∀ m, commitCmp m t.out = commitCmp m s.out) ∧
    ∀ m, commitStage m t.out = commitStage m s.out

theorem BooksOnly_refl (s : State) : BooksOnly s s := ⟨rfl, fun _ => rfl, fun _ => rfl⟩

theorem BooksOnly_trans {s t u : State} (h : BooksOnly s t) (k : BooksOnly t u) : BooksOnly s u := by
  refine ⟨?_, fun m => (k.2.1 m).trans (h.2.1 m), fun m => (k.2.2 m).trans (h.2.2 m)⟩
  rw [k.1, h.1]

theorem books_after {s t : State} {b : FbSt} {q : Tab WordQueue} (h : BooksOnly { s with fb := b, queues := q } t) : BooksOnly s t := h

theorem books_then {s t : State} (h : BooksOnly s t) (b : FbSt) (q : Tab WordQueue) : BooksOnly s { t with fb := b, queues := q } := by
  refine ⟨?_, h.2.1, h.2.2⟩
  rw [h.1]

theorem commitCmp_append (m : Memory) (a b : List Output) : commitCmp m (a ++ b) = commitCmp (commitCmp m a) b := by
  induction a generalizing m with
  | nil => rfl
  | cons o a ih => cases o <;> exact ih _

theorem commitStage_append (m : Memory) (a b : List Output) : commitStage m (a ++ b) = commitStage (commitStage m a) b := by
  induction a generalizing m with
  | nil => rfl
  | cons o a ih => cases o <;> exact ih _

theorem msix_books (f v : Nat) (s : State) : BooksOnly s (msix f v s) := by
  unfold msix
  split
  · refine ⟨rfl, fun m => ?_, fun m => ?_⟩
    · exact commitCmp_append m s.out [_]
    · exact commitStage_append m s.out [_]
  · exact BooksOnly_refl s

theorem queueIrq_books (q b : Nat) (s : State) : BooksOnly s (queueIrq q b s) := by
  unfold queueIrq
  simp only []
  split
  · exact msix_books ..
  · exact BooksOnly_refl _

theorem fbFeed_books (q : Nat) (r : FbRec) (s : State) : BooksOnly s (fbFeed q r s) := by
  unfold fbFeed
  simp only []
  split
  · split
    · exact books_after (queueIrq_books ..)
    · exact BooksOnly_refl _
  · exact BooksOnly_refl _

theorem fbPlace_books (q : Nat) (r : FbRec) (s : State) : BooksOnly s (fbPlace q r s) := by
  unfold fbPlace
  simp only []
  split
  · have h := fbFeed_books q r { s with fb := cursorKept { s.fb with ring := fbTrim 16777216 (s.fb.ring ++ [(q, r)]) } }
    split
    · exact books_then (books_after h) _ _
    · exact books_after h
  · split
    · exact books_after (fbFeed_books ..)
    · exact BooksOnly_refl _

theorem fbOverrun_books (n lo hi c a b : Nat) (s : State) : BooksOnly s (fbOverrun n lo hi c a b s) :=
  books_after (fbPlace_books ..)

theorem forEach_books {α : Type} (f : α → State → State) (h : ∀ a s, BooksOnly s (f a s)) (l : List α) (s : State) :
    BooksOnly s (forEach l f s) := by
  induction l generalizing s with
  | nil => exact BooksOnly_refl s
  | cons a l ih => exact BooksOnly_trans (h a s) (ih _)

theorem fbThaw_books (s : State) : BooksOnly s (fbThaw s) := by
  unfold fbThaw
  split
  · exact BooksOnly_refl _
  · rename_i z _
    have h := forEach_books (fun (e : Nat × FbRec) t => fbPlace e.1 e.2 t) (fun e t => fbPlace_books e.1 e.2 t) z.held
      { s with fb := { s.fb with freeze := none } }
    have h' := books_after h
    simp only []
    split
    · exact h'
    · exact BooksOnly_trans h' (fbOverrun_books ..)

theorem fbGather_books (k : Bool) (r : FbRec) (s : State) : BooksOnly s (fbGather k r s) := by
  unfold fbGather
  simp only []
  split
  · exact books_after (fbPlace_books ..)
  · split
    · split
      · exact books_after (fbThaw_books _)
      · exact BooksOnly_refl _
    · exact BooksOnly_refl _

theorem fbClose_books (b : Nat) (s : State) : BooksOnly s (fbClose b s) := by
  unfold fbClose
  simp only []
  split
  · exact BooksOnly_refl _
  · exact books_after (fbGather_books ..)

theorem recordFull_books (b : Nat) (c : U16) (p : List U32) (l : List Nat) (k : Bool) (s : State) : BooksOnly s (recordFull b c p l k s) := by
  unfold recordFull
  simp only []
  split
  · split
    · exact books_after (fbClose_books ..)
    · exact BooksOnly_refl _
  · split
    · exact BooksOnly_trans (fbClose_books b s) (books_after (fbGather_books ..))
    · exact books_then (fbClose_books b s) _ _

/-- A record changes the field books, the event queue and the outputs, and nothing else. -/
theorem record_books (b : Nat) (c : U16) (p : List U32) (s : State) : BooksOnly s (record b c p s) := recordFull_books ..

end Sys2Proof.Machine
end

