-- ==== Sys2Proof/Laws/Memory.lean ====
section
/-! SUPPORT. Laws of the addressed RAM and of the sparse tables: a read after a write, and the canonical form. -/

namespace Sys2Proof.Machine

/-- Every listed address of a memory in canonical form is above `a`. -/
def memAbove (a : Nat) : Memory → Prop
  | [] => True
  | (j, _) :: _ => a < j

theorem memory_wf_cons (a : Nat) (b : U8) (m : Memory) :
    Memory.wf ((a, b) :: m) = true ↔ b ≠ memDefault ∧ memAbove a m ∧ Memory.wf m = true := by
  cases m with
  | nil => simp [Memory.wf, memAbove]
  | cons c t => obtain ⟨j, c⟩ := c; simp [Memory.wf, memAbove, and_assoc]

theorem memAbove_trans {a j : Nat} (h : a < j) {m : Memory} (hm : memAbove j m) : memAbove a m := by
  cases m with
  | nil => trivial
  | cons c t => exact Nat.lt_trans h hm

theorem memRead_above {m : Memory} {a : Nat} (h : memAbove a m) : memRead m a = memDefault := by
  cases m with
  | nil => rfl
  | cons c t =>
    have h' : a < c.1 := h
    simp [memRead, h', Nat.ne_of_gt h']

theorem memWrite_above {j a : Nat} (b : U8) (h : j < a) {m : Memory} (hm : memAbove j m) (hw : Memory.wf m = true) :
    memAbove j (memWrite m a b) := by
  cases m with
  | nil => unfold memWrite; split <;> simp [memAbove, h]
  | cons c t =>
    obtain ⟨k, c⟩ := c
    have hk : j < k := hm
    have ht := (memory_wf_cons k c t).1 hw
    simp only [memWrite]
    split
    · split
      · exact memAbove_trans hk ht.2.1
      · exact h
    · split
      · split
        · exact hk
        · exact h
      · exact hk

/-- Storing a byte keeps the canonical form. -/
theorem memWrite_wf (a : Nat) (b : U8) {m : Memory} (hw : Memory.wf m = true) : Memory.wf (memWrite m a b) = true := by
  induction m with
  | nil =>
    unfold memWrite
    split
    · rfl
    · rename_i hb; simp [Memory.wf, hb]
  | cons c t ih =>
    obtain ⟨k, c⟩ := c
    have ht := (memory_wf_cons k c t).1 hw
    simp only [memWrite]
    split
    · rename_i e; subst e
      split
      · exact ht.2.2
      · rename_i hb; exact (memory_wf_cons _ b t).2 ⟨hb, ht.2.1, ht.2.2⟩
    · split
      · rename_i ha
        split
        · exact hw
        · rename_i hb; exact (memory_wf_cons a b _).2 ⟨hb, ha, hw⟩
      · rename_i hne hlt
        exact (memory_wf_cons k c _).2 ⟨ht.1, memWrite_above b (by omega) ht.2.1 ht.2.2, ih ht.2.2⟩

/-- The byte written is the byte read back. -/
theorem memRead_memWrite_same (a : Nat) (b : U8) {m : Memory} (hw : Memory.wf m = true) : memRead (memWrite m a b) a = b := by
  induction m with
  | nil =>
    unfold memWrite
    split
    · rename_i hb; simp [memRead, hb]
    · simp [memRead]
  | cons c t ih =>
    obtain ⟨k, c⟩ := c
    have ht := (memory_wf_cons k c t).1 hw
    simp only [memWrite]
    split
    · rename_i e; subst e
      split
      · rename_i hb; rw [memRead_above ht.2.1, hb]
      · simp [memRead]
    · rename_i hne
      split
      · rename_i ha
        split
        · rename_i hb; simp [memRead, hne, ha, hb]
        · simp [memRead]
      · rename_i hlt
        simp [memRead, hne, hlt, ih ht.2.2]

/-- A write leaves every other byte alone. -/
theorem memRead_memWrite_other {a x : Nat} (b : U8) (hx : x ≠ a) {m : Memory} (hw : Memory.wf m = true) :
    memRead (memWrite m a b) x = memRead m x := by
  induction m with
  | nil =>
    unfold memWrite
    split
    · rfl
    · simp [memRead, Ne.symm hx]
  | cons c t ih =>
    obtain ⟨k, c⟩ := c
    have ht := (memory_wf_cons k c t).1 hw
    simp only [memWrite]
    split
    · rename_i e; subst e
      split
      · simp only [memRead, Ne.symm hx, ite_false]
        split
        · rename_i hlt; exact memRead_above (memAbove_trans hlt ht.2.1)
        · rfl
      · simp [memRead, Ne.symm hx]
    · split
      · rename_i ha
        split
        · rfl
        · simp only [memRead, Ne.symm hx, ite_false]
          by_cases h1 : x < a
          · simp [h1, Nat.lt_trans h1 ha, Nat.ne_of_gt (Nat.lt_trans h1 ha)]
          · simp [h1]
      · simp only [memRead, ih ht.2.2]

/-- Storing bytes one after another keeps the canonical form. -/
theorem memWriteBytes_wf (bs : List U8) : ∀ (a : Nat) {m : Memory}, Memory.wf m = true → Memory.wf (memWriteBytes m a bs) = true := by
  induction bs with
  | nil => intro a m h; exact h
  | cons b bs ih => intro a m h; exact ih (a + 1) (memWrite_wf a b h)

/-- Bytes stored from an address leave every byte below it. -/
theorem memRead_memWriteBytes_below (bs : List U8) : ∀ (a : Nat) {x : Nat} {m : Memory}, x < a → Memory.wf m = true →
    memRead (memWriteBytes m a bs) x = memRead m x := by
  induction bs with
  | nil => intro a x m _ _; rfl
  | cons b bs ih => intro a x m h hw; exact (ih (a + 1) (by omega) (memWrite_wf a b hw)).trans (memRead_memWrite_other b (by omega) hw)

/-- Bytes stored from an address leave every byte behind their last. -/
theorem memRead_memWriteBytes_behind (bs : List U8) : ∀ (a : Nat) {x : Nat} {m : Memory}, a + bs.length ≤ x → Memory.wf m = true →
    memRead (memWriteBytes m a bs) x = memRead m x := by
  induction bs with
  | nil => intro a x m _ _; rfl
  | cons b bs ih =>
    intro a x m h hw
    rw [List.length_cons] at h
    exact (ih (a + 1) (by omega) (memWrite_wf a b hw)).trans (memRead_memWrite_other b (by omega) hw)

/-- The bytes stored from an address are read back from it. -/
theorem memReadBytes_memWriteBytes (bs : List U8) : ∀ (a n : Nat) {m : Memory}, n ≤ bs.length → Memory.wf m = true →
    memReadBytes (memWriteBytes m a bs) a n = bs.take n := by
  induction bs with
  | nil => intro a n m h _; rw [List.length_nil, Nat.le_zero] at h; subst h; rfl
  | cons b bs ih =>
    intro a n m h hw
    cases n with
    | zero => rfl
    | succ n =>
      rw [memReadBytes, List.take_succ_cons, memWriteBytes, memRead_memWriteBytes_below bs (a + 1) (by omega) (memWrite_wf a b hw),
        memRead_memWrite_same a b hw, ih (a + 1) n (by simpa using h) (memWrite_wf a b hw)]

/-- Nothing stands behind the bytes stored in an empty memory. -/
theorem memReadBytes_behind (bs : List U8) (a n : Nat) : ∀ x, a + bs.length ≤ x →
    memReadBytes (memWriteBytes [] a bs) x n = List.replicate n memDefault := by
  induction n with
  | zero => intro x _; rfl
  | succ n ih =>
    intro x h
    rw [memReadBytes, memRead_memWriteBytes_behind bs a h rfl, ih (x + 1) (by omega), List.replicate_succ]
    rfl

/-- The posted writes of a command keep the companion area in canonical form. -/
theorem commitCmp_wf (os : List Output) : ∀ {m : Memory}, Memory.wf m = true → Memory.wf (commitCmp m os) = true := by
  induction os with
  | nil => intro m h; exact h
  | cons o os ih =>
    intro m h
    cases o <;> first | exact ih h | exact ih (memWriteBytes_wf _ _ h) | exact ih rfl

/-- The posted writes of a command keep the staging buffer in canonical form. -/
theorem commitStage_wf (os : List Output) : ∀ {m : Memory}, Memory.wf m = true → Memory.wf (commitStage m os) = true := by
  induction os with
  | nil => intro m h; exact h
  | cons o os ih =>
    intro m h
    cases o <;> first | exact ih h | exact ih (memWriteBytes_wf _ _ h) | exact ih rfl

/-! ### Sparse tables -/

theorem tabFind_tabPut_same {α : Type} (t : Tab α) (k : Nat) (a : α) : tabFind (tabPut t k a) k = some a := by
  induction t with
  | nil => simp [tabPut, tabFind]
  | cons e t ih =>
    obtain ⟨j, b⟩ := e
    simp only [tabPut]
    split
    · simp [tabFind]
    · split
      · simp [tabFind]
      · rename_i h1 h2; simp [tabFind, h1, h2, ih]

/-- The entry put at a key is the entry got from it. -/
@[simp] theorem tabGet_tabPut_same {α : Type} (t : Tab α) (k : Nat) (a d : α) : tabGet (tabPut t k a) k d = a := by
  simp [tabGet, tabFind_tabPut_same]

theorem tabFind_tabPut_other {α : Type} {k j : Nat} (h : j ≠ k) (a : α) (t : Tab α) : tabFind (tabPut t k a) j = tabFind t j := by
  induction t with
  | nil => simp only [tabPut, tabFind, Ne.symm h, ite_false, ite_self]
  | cons e t ih =>
    obtain ⟨i, b⟩ := e
    simp only [tabPut]
    split
    · rename_i e; subst e; simp [tabFind, Ne.symm h]
    · split
      · rename_i h1 h2
        by_cases hjk : j < k
        · have : j < i := by omega
          simp [tabFind, Ne.symm h, hjk, this, Nat.ne_of_gt this]
        · simp [tabFind, Ne.symm h, hjk]
      · simp only [tabFind, ih]

/-- Putting an entry leaves the entry at every other key. -/
theorem tabGet_tabPut_other {α : Type} {k j : Nat} (h : j ≠ k) (a d : α) (t : Tab α) : tabGet (tabPut t k a) j d = tabGet t j d := by
  simp [tabGet, tabFind_tabPut_other h a t]

end Sys2Proof.Machine
end

