-- ==== Sys2Proof/Laws/State.lean ====
section
/-! SUPPORT. What each named update of the state leaves and what it changes, field by field. -/

namespace Sys2Proof.Machine

variable (s : State)

section
variable (o : Output)
@[simp] theorem emit_mono : (emit o s).mono = s.mono := rfl
@[simp] theorem emit_glob : (emit o s).glob = s.glob := rfl
@[simp] theorem emit_epoch : (emit o s).epoch = s.epoch := rfl
@[simp] theorem emit_bench : (emit o s).bench = s.bench := rfl
@[simp] theorem emit_ptp : (emit o s).ptp = s.ptp := rfl
@[simp] theorem emit_clk : (emit o s).clk = s.clk := rfl
@[simp] theorem emit_fb : (emit o s).fb = s.fb := rfl
@[simp] theorem emit_ecc : (emit o s).ecc = s.ecc := rfl
@[simp] theorem emit_mbox : (emit o s).mbox = s.mbox := rfl
@[simp] theorem emit_queues : (emit o s).queues = s.queues := rfl
@[simp] theorem emit_dma : (emit o s).dma = s.dma := rfl
@[simp] theorem emit_power : (emit o s).power = s.power := rfl
@[simp] theorem emit_panel : (emit o s).panel = s.panel := rfl
@[simp] theorem emit_cad : (emit o s).cad = s.cad := rfl
@[simp] theorem emit_twin : (emit o s).twin = s.twin := rfl
@[simp] theorem emit_outcomes : (emit o s).outcomes = s.outcomes := rfl
@[simp] theorem emit_cmp : (emit o s).cmp = s.cmp := rfl
@[simp] theorem emit_stage : (emit o s).stage = s.stage := rfl
@[simp] theorem emit_store : (emit o s).store = s.store := rfl
@[simp] theorem emit_trav : (emit o s).trav = s.trav := rfl
@[simp] theorem emit_jrn : (emit o s).jrn = s.jrn := rfl
@[simp] theorem emit_billing : (emit o s).billing = s.billing := rfl
@[simp] theorem emit_hx : (emit o s).hx = s.hx := rfl
@[simp] theorem emit_steel : (emit o s).steel = s.steel := rfl
@[simp] theorem emit_keys : (emit o s).keys = s.keys := rfl
@[simp] theorem emit_upd : (emit o s).upd = s.upd := rfl
@[simp] theorem emit_downs : (emit o s).downs = s.downs := rfl
@[simp] theorem emit_flash : (emit o s).flash = s.flash := rfl
@[simp] theorem emit_plc : (emit o s).plc = s.plc := rfl
@[simp] theorem emit_radio : (emit o s).radio = s.radio := rfl
@[simp] theorem emit_act : (emit o s).act = s.act := rfl
@[simp] theorem emit_notes : (emit o s).notes = s.notes := rfl
@[simp] theorem emit_out : (emit o s).out = s.out ++ [o] := rfl
@[simp] theorem emit_freeCtr : (emit o s).freeCtr = s.freeCtr := rfl
@[simp] theorem emit_pending : (emit o s).pending = s.pending := rfl
end

section
variable (b : Nat) (c : U16)
@[simp] theorem setOutcome_mono : (setOutcome b c s).mono = s.mono := rfl
@[simp] theorem setOutcome_glob : (setOutcome b c s).glob = s.glob := rfl
@[simp] theorem setOutcome_epoch : (setOutcome b c s).epoch = s.epoch := rfl
@[simp] theorem setOutcome_bench : (setOutcome b c s).bench = s.bench := rfl
@[simp] theorem setOutcome_ptp : (setOutcome b c s).ptp = s.ptp := rfl
@[simp] theorem setOutcome_clk : (setOutcome b c s).clk = s.clk := rfl
@[simp] theorem setOutcome_fb : (setOutcome b c s).fb = s.fb := rfl
@[simp] theorem setOutcome_ecc : (setOutcome b c s).ecc = s.ecc := rfl
@[simp] theorem setOutcome_mbox : (setOutcome b c s).mbox = s.mbox := rfl
@[simp] theorem setOutcome_queues : (setOutcome b c s).queues = s.queues := rfl
@[simp] theorem setOutcome_dma : (setOutcome b c s).dma = s.dma := rfl
@[simp] theorem setOutcome_power : (setOutcome b c s).power = s.power := rfl
@[simp] theorem setOutcome_panel : (setOutcome b c s).panel = s.panel := rfl
@[simp] theorem setOutcome_cad : (setOutcome b c s).cad = s.cad := rfl
@[simp] theorem setOutcome_twin : (setOutcome b c s).twin = s.twin := rfl
@[simp] theorem setOutcome_outcomes : (setOutcome b c s).outcomes = tabPut s.outcomes b c := rfl
@[simp] theorem setOutcome_cmp : (setOutcome b c s).cmp = s.cmp := rfl
@[simp] theorem setOutcome_stage : (setOutcome b c s).stage = s.stage := rfl
@[simp] theorem setOutcome_store : (setOutcome b c s).store = s.store := rfl
@[simp] theorem setOutcome_trav : (setOutcome b c s).trav = s.trav := rfl
@[simp] theorem setOutcome_jrn : (setOutcome b c s).jrn = s.jrn := rfl
@[simp] theorem setOutcome_billing : (setOutcome b c s).billing = s.billing := rfl
@[simp] theorem setOutcome_hx : (setOutcome b c s).hx = s.hx := rfl
@[simp] theorem setOutcome_steel : (setOutcome b c s).steel = s.steel := rfl
@[simp] theorem setOutcome_keys : (setOutcome b c s).keys = s.keys := rfl
@[simp] theorem setOutcome_upd : (setOutcome b c s).upd = s.upd := rfl
@[simp] theorem setOutcome_downs : (setOutcome b c s).downs = s.downs := rfl
@[simp] theorem setOutcome_flash : (setOutcome b c s).flash = s.flash := rfl
@[simp] theorem setOutcome_plc : (setOutcome b c s).plc = s.plc := rfl
@[simp] theorem setOutcome_radio : (setOutcome b c s).radio = s.radio := rfl
@[simp] theorem setOutcome_act : (setOutcome b c s).act = s.act := rfl
@[simp] theorem setOutcome_notes : (setOutcome b c s).notes = s.notes := rfl
@[simp] theorem setOutcome_out : (setOutcome b c s).out = s.out := rfl
@[simp] theorem setOutcome_freeCtr : (setOutcome b c s).freeCtr = s.freeCtr := rfl
@[simp] theorem setOutcome_pending : (setOutcome b c s).pending = s.pending := rfl
end

section
variable (c : U16) (l : List Int)
@[simp] theorem addNote_mono : (addNote c l s).mono = s.mono := rfl
@[simp] theorem addNote_glob : (addNote c l s).glob = s.glob := rfl
@[simp] theorem addNote_epoch : (addNote c l s).epoch = s.epoch := rfl
@[simp] theorem addNote_bench : (addNote c l s).bench = s.bench := rfl
@[simp] theorem addNote_ptp : (addNote c l s).ptp = s.ptp := rfl
@[simp] theorem addNote_clk : (addNote c l s).clk = s.clk := rfl
@[simp] theorem addNote_fb : (addNote c l s).fb = s.fb := rfl
@[simp] theorem addNote_ecc : (addNote c l s).ecc = s.ecc := rfl
@[simp] theorem addNote_mbox : (addNote c l s).mbox = s.mbox := rfl
@[simp] theorem addNote_queues : (addNote c l s).queues = s.queues := rfl
@[simp] theorem addNote_dma : (addNote c l s).dma = s.dma := rfl
@[simp] theorem addNote_power : (addNote c l s).power = s.power := rfl
@[simp] theorem addNote_panel : (addNote c l s).panel = s.panel := rfl
@[simp] theorem addNote_cad : (addNote c l s).cad = s.cad := rfl
@[simp] theorem addNote_twin : (addNote c l s).twin = s.twin := rfl
@[simp] theorem addNote_outcomes : (addNote c l s).outcomes = s.outcomes := rfl
@[simp] theorem addNote_cmp : (addNote c l s).cmp = s.cmp := rfl
@[simp] theorem addNote_stage : (addNote c l s).stage = s.stage := rfl
@[simp] theorem addNote_store : (addNote c l s).store = s.store := rfl
@[simp] theorem addNote_trav : (addNote c l s).trav = s.trav := rfl
@[simp] theorem addNote_jrn : (addNote c l s).jrn = s.jrn := rfl
@[simp] theorem addNote_billing : (addNote c l s).billing = s.billing := rfl
@[simp] theorem addNote_hx : (addNote c l s).hx = s.hx := rfl
@[simp] theorem addNote_steel : (addNote c l s).steel = s.steel := rfl
@[simp] theorem addNote_keys : (addNote c l s).keys = s.keys := rfl
@[simp] theorem addNote_upd : (addNote c l s).upd = s.upd := rfl
@[simp] theorem addNote_downs : (addNote c l s).downs = s.downs := rfl
@[simp] theorem addNote_flash : (addNote c l s).flash = s.flash := rfl
@[simp] theorem addNote_plc : (addNote c l s).plc = s.plc := rfl
@[simp] theorem addNote_radio : (addNote c l s).radio = s.radio := rfl
@[simp] theorem addNote_act : (addNote c l s).act = s.act := rfl
@[simp] theorem addNote_notes : (addNote c l s).notes = s.notes ++ [(c, l)] := rfl
@[simp] theorem addNote_out : (addNote c l s).out = s.out := rfl
@[simp] theorem addNote_freeCtr : (addNote c l s).freeCtr = s.freeCtr := rfl
@[simp] theorem addNote_pending : (addNote c l s).pending = s.pending := rfl
end

section
variable (k : Nat) (p : Parcel)
@[simp] theorem setParcel_mono : (setParcel k p s).mono = s.mono := rfl
@[simp] theorem setParcel_glob : (setParcel k p s).glob = s.glob := rfl
@[simp] theorem setParcel_epoch : (setParcel k p s).epoch = s.epoch := rfl
@[simp] theorem setParcel_bench : (setParcel k p s).bench = s.bench := rfl
@[simp] theorem setParcel_ptp : (setParcel k p s).ptp = s.ptp := rfl
@[simp] theorem setParcel_clk : (setParcel k p s).clk = s.clk := rfl
@[simp] theorem setParcel_fb : (setParcel k p s).fb = s.fb := rfl
@[simp] theorem setParcel_ecc : (setParcel k p s).ecc = s.ecc := rfl
@[simp] theorem setParcel_mbox : (setParcel k p s).mbox = s.mbox := rfl
@[simp] theorem setParcel_queues : (setParcel k p s).queues = s.queues := rfl
@[simp] theorem setParcel_dma : (setParcel k p s).dma = s.dma := rfl
@[simp] theorem setParcel_power : (setParcel k p s).power = s.power := rfl
@[simp] theorem setParcel_panel : (setParcel k p s).panel = s.panel := rfl
@[simp] theorem setParcel_cad : (setParcel k p s).cad = s.cad := rfl
@[simp] theorem setParcel_twin : (setParcel k p s).twin = s.twin := rfl
@[simp] theorem setParcel_outcomes : (setParcel k p s).outcomes = s.outcomes := rfl
@[simp] theorem setParcel_cmp : (setParcel k p s).cmp = s.cmp := rfl
@[simp] theorem setParcel_stage : (setParcel k p s).stage = s.stage := rfl
@[simp] theorem setParcel_trav : (setParcel k p s).trav = s.trav := rfl
@[simp] theorem setParcel_jrn : (setParcel k p s).jrn = s.jrn := rfl
@[simp] theorem setParcel_billing : (setParcel k p s).billing = s.billing := rfl
@[simp] theorem setParcel_hx : (setParcel k p s).hx = s.hx := rfl
@[simp] theorem setParcel_steel : (setParcel k p s).steel = s.steel := rfl
@[simp] theorem setParcel_keys : (setParcel k p s).keys = s.keys := rfl
@[simp] theorem setParcel_upd : (setParcel k p s).upd = s.upd := rfl
@[simp] theorem setParcel_downs : (setParcel k p s).downs = s.downs := rfl
@[simp] theorem setParcel_flash : (setParcel k p s).flash = s.flash := rfl
@[simp] theorem setParcel_plc : (setParcel k p s).plc = s.plc := rfl
@[simp] theorem setParcel_radio : (setParcel k p s).radio = s.radio := rfl
@[simp] theorem setParcel_act : (setParcel k p s).act = s.act := rfl
@[simp] theorem setParcel_notes : (setParcel k p s).notes = s.notes := rfl
@[simp] theorem setParcel_out : (setParcel k p s).out = s.out := rfl
@[simp] theorem setParcel_freeCtr : (setParcel k p s).freeCtr = s.freeCtr := rfl
@[simp] theorem setParcel_pending : (setParcel k p s).pending = s.pending := rfl
end

section
variable (c : Nat) (x : DmaChan)
@[simp] theorem setDma_mono : (setDma c x s).mono = s.mono := rfl
@[simp] theorem setDma_glob : (setDma c x s).glob = s.glob := rfl
@[simp] theorem setDma_epoch : (setDma c x s).epoch = s.epoch := rfl
@[simp] theorem setDma_bench : (setDma c x s).bench = s.bench := rfl
@[simp] theorem setDma_ptp : (setDma c x s).ptp = s.ptp := rfl
@[simp] theorem setDma_clk : (setDma c x s).clk = s.clk := rfl
@[simp] theorem setDma_fb : (setDma c x s).fb = s.fb := rfl
@[simp] theorem setDma_ecc : (setDma c x s).ecc = s.ecc := rfl
@[simp] theorem setDma_mbox : (setDma c x s).mbox = s.mbox := rfl
@[simp] theorem setDma_queues : (setDma c x s).queues = s.queues := rfl
@[simp] theorem setDma_dma : (setDma c x s).dma = tabPut s.dma c x := rfl
@[simp] theorem setDma_power : (setDma c x s).power = s.power := rfl
@[simp] theorem setDma_panel : (setDma c x s).panel = s.panel := rfl
@[simp] theorem setDma_cad : (setDma c x s).cad = s.cad := rfl
@[simp] theorem setDma_twin : (setDma c x s).twin = s.twin := rfl
@[simp] theorem setDma_outcomes : (setDma c x s).outcomes = s.outcomes := rfl
@[simp] theorem setDma_cmp : (setDma c x s).cmp = s.cmp := rfl
@[simp] theorem setDma_stage : (setDma c x s).stage = s.stage := rfl
@[simp] theorem setDma_store : (setDma c x s).store = s.store := rfl
@[simp] theorem setDma_trav : (setDma c x s).trav = s.trav := rfl
@[simp] theorem setDma_jrn : (setDma c x s).jrn = s.jrn := rfl
@[simp] theorem setDma_billing : (setDma c x s).billing = s.billing := rfl
@[simp] theorem setDma_hx : (setDma c x s).hx = s.hx := rfl
@[simp] theorem setDma_steel : (setDma c x s).steel = s.steel := rfl
@[simp] theorem setDma_keys : (setDma c x s).keys = s.keys := rfl
@[simp] theorem setDma_upd : (setDma c x s).upd = s.upd := rfl
@[simp] theorem setDma_downs : (setDma c x s).downs = s.downs := rfl
@[simp] theorem setDma_flash : (setDma c x s).flash = s.flash := rfl
@[simp] theorem setDma_plc : (setDma c x s).plc = s.plc := rfl
@[simp] theorem setDma_radio : (setDma c x s).radio = s.radio := rfl
@[simp] theorem setDma_act : (setDma c x s).act = s.act := rfl
@[simp] theorem setDma_notes : (setDma c x s).notes = s.notes := rfl
@[simp] theorem setDma_out : (setDma c x s).out = s.out := rfl
@[simp] theorem setDma_freeCtr : (setDma c x s).freeCtr = s.freeCtr := rfl
@[simp] theorem setDma_pending : (setDma c x s).pending = s.pending := rfl
end

section
variable (c : Nat) (x : Channel)
@[simp] theorem setCh_mono : (setCh c x s).mono = s.mono := rfl
@[simp] theorem setCh_glob : (setCh c x s).glob = s.glob := rfl
@[simp] theorem setCh_epoch : (setCh c x s).epoch = s.epoch := rfl
@[simp] theorem setCh_bench : (setCh c x s).bench = s.bench := rfl
@[simp] theorem setCh_ptp : (setCh c x s).ptp = s.ptp := rfl
@[simp] theorem setCh_clk : (setCh c x s).clk = s.clk := rfl
@[simp] theorem setCh_fb : (setCh c x s).fb = s.fb := rfl
@[simp] theorem setCh_ecc : (setCh c x s).ecc = s.ecc := rfl
@[simp] theorem setCh_queues : (setCh c x s).queues = s.queues := rfl
@[simp] theorem setCh_dma : (setCh c x s).dma = s.dma := rfl
@[simp] theorem setCh_power : (setCh c x s).power = s.power := rfl
@[simp] theorem setCh_panel : (setCh c x s).panel = s.panel := rfl
@[simp] theorem setCh_cad : (setCh c x s).cad = s.cad := rfl
@[simp] theorem setCh_twin : (setCh c x s).twin = s.twin := rfl
@[simp] theorem setCh_outcomes : (setCh c x s).outcomes = s.outcomes := rfl
@[simp] theorem setCh_cmp : (setCh c x s).cmp = s.cmp := rfl
@[simp] theorem setCh_stage : (setCh c x s).stage = s.stage := rfl
@[simp] theorem setCh_store : (setCh c x s).store = s.store := rfl
@[simp] theorem setCh_trav : (setCh c x s).trav = s.trav := rfl
@[simp] theorem setCh_jrn : (setCh c x s).jrn = s.jrn := rfl
@[simp] theorem setCh_billing : (setCh c x s).billing = s.billing := rfl
@[simp] theorem setCh_hx : (setCh c x s).hx = s.hx := rfl
@[simp] theorem setCh_steel : (setCh c x s).steel = s.steel := rfl
@[simp] theorem setCh_keys : (setCh c x s).keys = s.keys := rfl
@[simp] theorem setCh_upd : (setCh c x s).upd = s.upd := rfl
@[simp] theorem setCh_downs : (setCh c x s).downs = s.downs := rfl
@[simp] theorem setCh_flash : (setCh c x s).flash = s.flash := rfl
@[simp] theorem setCh_plc : (setCh c x s).plc = s.plc := rfl
@[simp] theorem setCh_radio : (setCh c x s).radio = s.radio := rfl
@[simp] theorem setCh_act : (setCh c x s).act = s.act := rfl
@[simp] theorem setCh_notes : (setCh c x s).notes = s.notes := rfl
@[simp] theorem setCh_out : (setCh c x s).out = s.out := rfl
@[simp] theorem setCh_freeCtr : (setCh c x s).freeCtr = s.freeCtr := rfl
@[simp] theorem setCh_pending : (setCh c x s).pending = s.pending := rfl
end

section
variable (n : Nat) (f : PlcPort → PlcPort)
@[simp] theorem modPlc_mono : (modPlc n f s).mono = s.mono := rfl
@[simp] theorem modPlc_glob : (modPlc n f s).glob = s.glob := rfl
@[simp] theorem modPlc_epoch : (modPlc n f s).epoch = s.epoch := rfl
@[simp] theorem modPlc_bench : (modPlc n f s).bench = s.bench := rfl
@[simp] theorem modPlc_ptp : (modPlc n f s).ptp = s.ptp := rfl
@[simp] theorem modPlc_clk : (modPlc n f s).clk = s.clk := rfl
@[simp] theorem modPlc_fb : (modPlc n f s).fb = s.fb := rfl
@[simp] theorem modPlc_ecc : (modPlc n f s).ecc = s.ecc := rfl
@[simp] theorem modPlc_mbox : (modPlc n f s).mbox = s.mbox := rfl
@[simp] theorem modPlc_queues : (modPlc n f s).queues = s.queues := rfl
@[simp] theorem modPlc_dma : (modPlc n f s).dma = s.dma := rfl
@[simp] theorem modPlc_power : (modPlc n f s).power = s.power := rfl
@[simp] theorem modPlc_panel : (modPlc n f s).panel = s.panel := rfl
@[simp] theorem modPlc_cad : (modPlc n f s).cad = s.cad := rfl
@[simp] theorem modPlc_twin : (modPlc n f s).twin = s.twin := rfl
@[simp] theorem modPlc_outcomes : (modPlc n f s).outcomes = s.outcomes := rfl
@[simp] theorem modPlc_cmp : (modPlc n f s).cmp = s.cmp := rfl
@[simp] theorem modPlc_stage : (modPlc n f s).stage = s.stage := rfl
@[simp] theorem modPlc_store : (modPlc n f s).store = s.store := rfl
@[simp] theorem modPlc_trav : (modPlc n f s).trav = s.trav := rfl
@[simp] theorem modPlc_jrn : (modPlc n f s).jrn = s.jrn := rfl
@[simp] theorem modPlc_billing : (modPlc n f s).billing = s.billing := rfl
@[simp] theorem modPlc_hx : (modPlc n f s).hx = s.hx := rfl
@[simp] theorem modPlc_steel : (modPlc n f s).steel = s.steel := rfl
@[simp] theorem modPlc_keys : (modPlc n f s).keys = s.keys := rfl
@[simp] theorem modPlc_upd : (modPlc n f s).upd = s.upd := rfl
@[simp] theorem modPlc_downs : (modPlc n f s).downs = s.downs := rfl
@[simp] theorem modPlc_flash : (modPlc n f s).flash = s.flash := rfl
@[simp] theorem modPlc_radio : (modPlc n f s).radio = s.radio := rfl
@[simp] theorem modPlc_act : (modPlc n f s).act = s.act := rfl
@[simp] theorem modPlc_notes : (modPlc n f s).notes = s.notes := rfl
@[simp] theorem modPlc_out : (modPlc n f s).out = s.out := rfl
@[simp] theorem modPlc_freeCtr : (modPlc n f s).freeCtr = s.freeCtr := rfl
@[simp] theorem modPlc_pending : (modPlc n f s).pending = s.pending := rfl
end

section
variable (n : Nat) (f : RadioPort → RadioPort)
@[simp] theorem modRadio_mono : (modRadio n f s).mono = s.mono := rfl
@[simp] theorem modRadio_glob : (modRadio n f s).glob = s.glob := rfl
@[simp] theorem modRadio_epoch : (modRadio n f s).epoch = s.epoch := rfl
@[simp] theorem modRadio_bench : (modRadio n f s).bench = s.bench := rfl
@[simp] theorem modRadio_ptp : (modRadio n f s).ptp = s.ptp := rfl
@[simp] theorem modRadio_clk : (modRadio n f s).clk = s.clk := rfl
@[simp] theorem modRadio_fb : (modRadio n f s).fb = s.fb := rfl
@[simp] theorem modRadio_ecc : (modRadio n f s).ecc = s.ecc := rfl
@[simp] theorem modRadio_mbox : (modRadio n f s).mbox = s.mbox := rfl
@[simp] theorem modRadio_queues : (modRadio n f s).queues = s.queues := rfl
@[simp] theorem modRadio_dma : (modRadio n f s).dma = s.dma := rfl
@[simp] theorem modRadio_power : (modRadio n f s).power = s.power := rfl
@[simp] theorem modRadio_panel : (modRadio n f s).panel = s.panel := rfl
@[simp] theorem modRadio_cad : (modRadio n f s).cad = s.cad := rfl
@[simp] theorem modRadio_twin : (modRadio n f s).twin = s.twin := rfl
@[simp] theorem modRadio_outcomes : (modRadio n f s).outcomes = s.outcomes := rfl
@[simp] theorem modRadio_cmp : (modRadio n f s).cmp = s.cmp := rfl
@[simp] theorem modRadio_stage : (modRadio n f s).stage = s.stage := rfl
@[simp] theorem modRadio_store : (modRadio n f s).store = s.store := rfl
@[simp] theorem modRadio_trav : (modRadio n f s).trav = s.trav := rfl
@[simp] theorem modRadio_jrn : (modRadio n f s).jrn = s.jrn := rfl
@[simp] theorem modRadio_billing : (modRadio n f s).billing = s.billing := rfl
@[simp] theorem modRadio_hx : (modRadio n f s).hx = s.hx := rfl
@[simp] theorem modRadio_steel : (modRadio n f s).steel = s.steel := rfl
@[simp] theorem modRadio_keys : (modRadio n f s).keys = s.keys := rfl
@[simp] theorem modRadio_upd : (modRadio n f s).upd = s.upd := rfl
@[simp] theorem modRadio_downs : (modRadio n f s).downs = s.downs := rfl
@[simp] theorem modRadio_flash : (modRadio n f s).flash = s.flash := rfl
@[simp] theorem modRadio_plc : (modRadio n f s).plc = s.plc := rfl
@[simp] theorem modRadio_act : (modRadio n f s).act = s.act := rfl
@[simp] theorem modRadio_notes : (modRadio n f s).notes = s.notes := rfl
@[simp] theorem modRadio_out : (modRadio n f s).out = s.out := rfl
@[simp] theorem modRadio_freeCtr : (modRadio n f s).freeCtr = s.freeCtr := rfl
@[simp] theorem modRadio_pending : (modRadio n f s).pending = s.pending := rfl
end

section
variable (f : TravSt → TravSt)
@[simp] theorem modTrav_mono : (modTrav f s).mono = s.mono := rfl
@[simp] theorem modTrav_glob : (modTrav f s).glob = s.glob := rfl
@[simp] theorem modTrav_epoch : (modTrav f s).epoch = s.epoch := rfl
@[simp] theorem modTrav_bench : (modTrav f s).bench = s.bench := rfl
@[simp] theorem modTrav_ptp : (modTrav f s).ptp = s.ptp := rfl
@[simp] theorem modTrav_clk : (modTrav f s).clk = s.clk := rfl
@[simp] theorem modTrav_fb : (modTrav f s).fb = s.fb := rfl
@[simp] theorem modTrav_ecc : (modTrav f s).ecc = s.ecc := rfl
@[simp] theorem modTrav_mbox : (modTrav f s).mbox = s.mbox := rfl
@[simp] theorem modTrav_queues : (modTrav f s).queues = s.queues := rfl
@[simp] theorem modTrav_dma : (modTrav f s).dma = s.dma := rfl
@[simp] theorem modTrav_power : (modTrav f s).power = s.power := rfl
@[simp] theorem modTrav_panel : (modTrav f s).panel = s.panel := rfl
@[simp] theorem modTrav_cad : (modTrav f s).cad = s.cad := rfl
@[simp] theorem modTrav_twin : (modTrav f s).twin = s.twin := rfl
@[simp] theorem modTrav_outcomes : (modTrav f s).outcomes = s.outcomes := rfl
@[simp] theorem modTrav_cmp : (modTrav f s).cmp = s.cmp := rfl
@[simp] theorem modTrav_stage : (modTrav f s).stage = s.stage := rfl
@[simp] theorem modTrav_store : (modTrav f s).store = s.store := rfl
@[simp] theorem modTrav_trav : (modTrav f s).trav = f s.trav := rfl
@[simp] theorem modTrav_jrn : (modTrav f s).jrn = s.jrn := rfl
@[simp] theorem modTrav_billing : (modTrav f s).billing = s.billing := rfl
@[simp] theorem modTrav_hx : (modTrav f s).hx = s.hx := rfl
@[simp] theorem modTrav_steel : (modTrav f s).steel = s.steel := rfl
@[simp] theorem modTrav_keys : (modTrav f s).keys = s.keys := rfl
@[simp] theorem modTrav_upd : (modTrav f s).upd = s.upd := rfl
@[simp] theorem modTrav_downs : (modTrav f s).downs = s.downs := rfl
@[simp] theorem modTrav_flash : (modTrav f s).flash = s.flash := rfl
@[simp] theorem modTrav_plc : (modTrav f s).plc = s.plc := rfl
@[simp] theorem modTrav_radio : (modTrav f s).radio = s.radio := rfl
@[simp] theorem modTrav_act : (modTrav f s).act = s.act := rfl
@[simp] theorem modTrav_notes : (modTrav f s).notes = s.notes := rfl
@[simp] theorem modTrav_out : (modTrav f s).out = s.out := rfl
@[simp] theorem modTrav_freeCtr : (modTrav f s).freeCtr = s.freeCtr := rfl
@[simp] theorem modTrav_pending : (modTrav f s).pending = s.pending := rfl
end

section
variable (f : BillingSt → BillingSt)
@[simp] theorem modBilling_mono : (modBilling f s).mono = s.mono := rfl
@[simp] theorem modBilling_glob : (modBilling f s).glob = s.glob := rfl
@[simp] theorem modBilling_epoch : (modBilling f s).epoch = s.epoch := rfl
@[simp] theorem modBilling_bench : (modBilling f s).bench = s.bench := rfl
@[simp] theorem modBilling_ptp : (modBilling f s).ptp = s.ptp := rfl
@[simp] theorem modBilling_clk : (modBilling f s).clk = s.clk := rfl
@[simp] theorem modBilling_fb : (modBilling f s).fb = s.fb := rfl
@[simp] theorem modBilling_ecc : (modBilling f s).ecc = s.ecc := rfl
@[simp] theorem modBilling_mbox : (modBilling f s).mbox = s.mbox := rfl
@[simp] theorem modBilling_queues : (modBilling f s).queues = s.queues := rfl
@[simp] theorem modBilling_dma : (modBilling f s).dma = s.dma := rfl
@[simp] theorem modBilling_power : (modBilling f s).power = s.power := rfl
@[simp] theorem modBilling_panel : (modBilling f s).panel = s.panel := rfl
@[simp] theorem modBilling_cad : (modBilling f s).cad = s.cad := rfl
@[simp] theorem modBilling_twin : (modBilling f s).twin = s.twin := rfl
@[simp] theorem modBilling_outcomes : (modBilling f s).outcomes = s.outcomes := rfl
@[simp] theorem modBilling_cmp : (modBilling f s).cmp = s.cmp := rfl
@[simp] theorem modBilling_stage : (modBilling f s).stage = s.stage := rfl
@[simp] theorem modBilling_store : (modBilling f s).store = s.store := rfl
@[simp] theorem modBilling_trav : (modBilling f s).trav = s.trav := rfl
@[simp] theorem modBilling_jrn : (modBilling f s).jrn = s.jrn := rfl
@[simp] theorem modBilling_billing : (modBilling f s).billing = f s.billing := rfl
@[simp] theorem modBilling_hx : (modBilling f s).hx = s.hx := rfl
@[simp] theorem modBilling_steel : (modBilling f s).steel = s.steel := rfl
@[simp] theorem modBilling_keys : (modBilling f s).keys = s.keys := rfl
@[simp] theorem modBilling_upd : (modBilling f s).upd = s.upd := rfl
@[simp] theorem modBilling_downs : (modBilling f s).downs = s.downs := rfl
@[simp] theorem modBilling_flash : (modBilling f s).flash = s.flash := rfl
@[simp] theorem modBilling_plc : (modBilling f s).plc = s.plc := rfl
@[simp] theorem modBilling_radio : (modBilling f s).radio = s.radio := rfl
@[simp] theorem modBilling_act : (modBilling f s).act = s.act := rfl
@[simp] theorem modBilling_notes : (modBilling f s).notes = s.notes := rfl
@[simp] theorem modBilling_out : (modBilling f s).out = s.out := rfl
@[simp] theorem modBilling_freeCtr : (modBilling f s).freeCtr = s.freeCtr := rfl
@[simp] theorem modBilling_pending : (modBilling f s).pending = s.pending := rfl
end

section
variable (f : SteelSt → SteelSt)
@[simp] theorem modSteel_mono : (modSteel f s).mono = s.mono := rfl
@[simp] theorem modSteel_glob : (modSteel f s).glob = s.glob := rfl
@[simp] theorem modSteel_epoch : (modSteel f s).epoch = s.epoch := rfl
@[simp] theorem modSteel_bench : (modSteel f s).bench = s.bench := rfl
@[simp] theorem modSteel_ptp : (modSteel f s).ptp = s.ptp := rfl
@[simp] theorem modSteel_clk : (modSteel f s).clk = s.clk := rfl
@[simp] theorem modSteel_fb : (modSteel f s).fb = s.fb := rfl
@[simp] theorem modSteel_ecc : (modSteel f s).ecc = s.ecc := rfl
@[simp] theorem modSteel_mbox : (modSteel f s).mbox = s.mbox := rfl
@[simp] theorem modSteel_queues : (modSteel f s).queues = s.queues := rfl
@[simp] theorem modSteel_dma : (modSteel f s).dma = s.dma := rfl
@[simp] theorem modSteel_power : (modSteel f s).power = s.power := rfl
@[simp] theorem modSteel_panel : (modSteel f s).panel = s.panel := rfl
@[simp] theorem modSteel_cad : (modSteel f s).cad = s.cad := rfl
@[simp] theorem modSteel_twin : (modSteel f s).twin = s.twin := rfl
@[simp] theorem modSteel_outcomes : (modSteel f s).outcomes = s.outcomes := rfl
@[simp] theorem modSteel_cmp : (modSteel f s).cmp = s.cmp := rfl
@[simp] theorem modSteel_stage : (modSteel f s).stage = s.stage := rfl
@[simp] theorem modSteel_store : (modSteel f s).store = s.store := rfl
@[simp] theorem modSteel_trav : (modSteel f s).trav = s.trav := rfl
@[simp] theorem modSteel_jrn : (modSteel f s).jrn = s.jrn := rfl
@[simp] theorem modSteel_billing : (modSteel f s).billing = s.billing := rfl
@[simp] theorem modSteel_hx : (modSteel f s).hx = s.hx := rfl
@[simp] theorem modSteel_steel : (modSteel f s).steel = f s.steel := rfl
@[simp] theorem modSteel_keys : (modSteel f s).keys = s.keys := rfl
@[simp] theorem modSteel_upd : (modSteel f s).upd = s.upd := rfl
@[simp] theorem modSteel_downs : (modSteel f s).downs = s.downs := rfl
@[simp] theorem modSteel_flash : (modSteel f s).flash = s.flash := rfl
@[simp] theorem modSteel_plc : (modSteel f s).plc = s.plc := rfl
@[simp] theorem modSteel_radio : (modSteel f s).radio = s.radio := rfl
@[simp] theorem modSteel_act : (modSteel f s).act = s.act := rfl
@[simp] theorem modSteel_notes : (modSteel f s).notes = s.notes := rfl
@[simp] theorem modSteel_out : (modSteel f s).out = s.out := rfl
@[simp] theorem modSteel_freeCtr : (modSteel f s).freeCtr = s.freeCtr := rfl
@[simp] theorem modSteel_pending : (modSteel f s).pending = s.pending := rfl
end

section
variable (f : FlashSt → FlashSt)
@[simp] theorem modFlash_mono : (modFlash f s).mono = s.mono := rfl
@[simp] theorem modFlash_glob : (modFlash f s).glob = s.glob := rfl
@[simp] theorem modFlash_epoch : (modFlash f s).epoch = s.epoch := rfl
@[simp] theorem modFlash_bench : (modFlash f s).bench = s.bench := rfl
@[simp] theorem modFlash_ptp : (modFlash f s).ptp = s.ptp := rfl
@[simp] theorem modFlash_clk : (modFlash f s).clk = s.clk := rfl
@[simp] theorem modFlash_fb : (modFlash f s).fb = s.fb := rfl
@[simp] theorem modFlash_ecc : (modFlash f s).ecc = s.ecc := rfl
@[simp] theorem modFlash_mbox : (modFlash f s).mbox = s.mbox := rfl
@[simp] theorem modFlash_queues : (modFlash f s).queues = s.queues := rfl
@[simp] theorem modFlash_dma : (modFlash f s).dma = s.dma := rfl
@[simp] theorem modFlash_power : (modFlash f s).power = s.power := rfl
@[simp] theorem modFlash_panel : (modFlash f s).panel = s.panel := rfl
@[simp] theorem modFlash_cad : (modFlash f s).cad = s.cad := rfl
@[simp] theorem modFlash_twin : (modFlash f s).twin = s.twin := rfl
@[simp] theorem modFlash_outcomes : (modFlash f s).outcomes = s.outcomes := rfl
@[simp] theorem modFlash_cmp : (modFlash f s).cmp = s.cmp := rfl
@[simp] theorem modFlash_stage : (modFlash f s).stage = s.stage := rfl
@[simp] theorem modFlash_store : (modFlash f s).store = s.store := rfl
@[simp] theorem modFlash_trav : (modFlash f s).trav = s.trav := rfl
@[simp] theorem modFlash_jrn : (modFlash f s).jrn = s.jrn := rfl
@[simp] theorem modFlash_billing : (modFlash f s).billing = s.billing := rfl
@[simp] theorem modFlash_hx : (modFlash f s).hx = s.hx := rfl
@[simp] theorem modFlash_steel : (modFlash f s).steel = s.steel := rfl
@[simp] theorem modFlash_keys : (modFlash f s).keys = s.keys := rfl
@[simp] theorem modFlash_upd : (modFlash f s).upd = s.upd := rfl
@[simp] theorem modFlash_downs : (modFlash f s).downs = s.downs := rfl
@[simp] theorem modFlash_flash : (modFlash f s).flash = f s.flash := rfl
@[simp] theorem modFlash_plc : (modFlash f s).plc = s.plc := rfl
@[simp] theorem modFlash_radio : (modFlash f s).radio = s.radio := rfl
@[simp] theorem modFlash_act : (modFlash f s).act = s.act := rfl
@[simp] theorem modFlash_notes : (modFlash f s).notes = s.notes := rfl
@[simp] theorem modFlash_out : (modFlash f s).out = s.out := rfl
@[simp] theorem modFlash_freeCtr : (modFlash f s).freeCtr = s.freeCtr := rfl
@[simp] theorem modFlash_pending : (modFlash f s).pending = s.pending := rfl
end

section
variable (f : KeySt → KeySt)
@[simp] theorem modKeys_mono : (modKeys f s).mono = s.mono := rfl
@[simp] theorem modKeys_glob : (modKeys f s).glob = s.glob := rfl
@[simp] theorem modKeys_epoch : (modKeys f s).epoch = s.epoch := rfl
@[simp] theorem modKeys_bench : (modKeys f s).bench = s.bench := rfl
@[simp] theorem modKeys_ptp : (modKeys f s).ptp = s.ptp := rfl
@[simp] theorem modKeys_clk : (modKeys f s).clk = s.clk := rfl
@[simp] theorem modKeys_fb : (modKeys f s).fb = s.fb := rfl
@[simp] theorem modKeys_ecc : (modKeys f s).ecc = s.ecc := rfl
@[simp] theorem modKeys_mbox : (modKeys f s).mbox = s.mbox := rfl
@[simp] theorem modKeys_queues : (modKeys f s).queues = s.queues := rfl
@[simp] theorem modKeys_dma : (modKeys f s).dma = s.dma := rfl
@[simp] theorem modKeys_power : (modKeys f s).power = s.power := rfl
@[simp] theorem modKeys_panel : (modKeys f s).panel = s.panel := rfl
@[simp] theorem modKeys_cad : (modKeys f s).cad = s.cad := rfl
@[simp] theorem modKeys_twin : (modKeys f s).twin = s.twin := rfl
@[simp] theorem modKeys_outcomes : (modKeys f s).outcomes = s.outcomes := rfl
@[simp] theorem modKeys_cmp : (modKeys f s).cmp = s.cmp := rfl
@[simp] theorem modKeys_stage : (modKeys f s).stage = s.stage := rfl
@[simp] theorem modKeys_store : (modKeys f s).store = s.store := rfl
@[simp] theorem modKeys_trav : (modKeys f s).trav = s.trav := rfl
@[simp] theorem modKeys_jrn : (modKeys f s).jrn = s.jrn := rfl
@[simp] theorem modKeys_billing : (modKeys f s).billing = s.billing := rfl
@[simp] theorem modKeys_hx : (modKeys f s).hx = s.hx := rfl
@[simp] theorem modKeys_steel : (modKeys f s).steel = s.steel := rfl
@[simp] theorem modKeys_keys : (modKeys f s).keys = f s.keys := rfl
@[simp] theorem modKeys_upd : (modKeys f s).upd = s.upd := rfl
@[simp] theorem modKeys_downs : (modKeys f s).downs = s.downs := rfl
@[simp] theorem modKeys_flash : (modKeys f s).flash = s.flash := rfl
@[simp] theorem modKeys_plc : (modKeys f s).plc = s.plc := rfl
@[simp] theorem modKeys_radio : (modKeys f s).radio = s.radio := rfl
@[simp] theorem modKeys_act : (modKeys f s).act = s.act := rfl
@[simp] theorem modKeys_notes : (modKeys f s).notes = s.notes := rfl
@[simp] theorem modKeys_out : (modKeys f s).out = s.out := rfl
@[simp] theorem modKeys_freeCtr : (modKeys f s).freeCtr = s.freeCtr := rfl
@[simp] theorem modKeys_pending : (modKeys f s).pending = s.pending := rfl
end

section
variable (f : ActSt → ActSt)
@[simp] theorem modAct_mono : (modAct f s).mono = s.mono := rfl
@[simp] theorem modAct_glob : (modAct f s).glob = s.glob := rfl
@[simp] theorem modAct_epoch : (modAct f s).epoch = s.epoch := rfl
@[simp] theorem modAct_bench : (modAct f s).bench = s.bench := rfl
@[simp] theorem modAct_ptp : (modAct f s).ptp = s.ptp := rfl
@[simp] theorem modAct_clk : (modAct f s).clk = s.clk := rfl
@[simp] theorem modAct_fb : (modAct f s).fb = s.fb := rfl
@[simp] theorem modAct_ecc : (modAct f s).ecc = s.ecc := rfl
@[simp] theorem modAct_mbox : (modAct f s).mbox = s.mbox := rfl
@[simp] theorem modAct_queues : (modAct f s).queues = s.queues := rfl
@[simp] theorem modAct_dma : (modAct f s).dma = s.dma := rfl
@[simp] theorem modAct_power : (modAct f s).power = s.power := rfl
@[simp] theorem modAct_panel : (modAct f s).panel = s.panel := rfl
@[simp] theorem modAct_cad : (modAct f s).cad = s.cad := rfl
@[simp] theorem modAct_twin : (modAct f s).twin = s.twin := rfl
@[simp] theorem modAct_outcomes : (modAct f s).outcomes = s.outcomes := rfl
@[simp] theorem modAct_cmp : (modAct f s).cmp = s.cmp := rfl
@[simp] theorem modAct_stage : (modAct f s).stage = s.stage := rfl
@[simp] theorem modAct_store : (modAct f s).store = s.store := rfl
@[simp] theorem modAct_trav : (modAct f s).trav = s.trav := rfl
@[simp] theorem modAct_jrn : (modAct f s).jrn = s.jrn := rfl
@[simp] theorem modAct_billing : (modAct f s).billing = s.billing := rfl
@[simp] theorem modAct_hx : (modAct f s).hx = s.hx := rfl
@[simp] theorem modAct_steel : (modAct f s).steel = s.steel := rfl
@[simp] theorem modAct_keys : (modAct f s).keys = s.keys := rfl
@[simp] theorem modAct_upd : (modAct f s).upd = s.upd := rfl
@[simp] theorem modAct_downs : (modAct f s).downs = s.downs := rfl
@[simp] theorem modAct_flash : (modAct f s).flash = s.flash := rfl
@[simp] theorem modAct_plc : (modAct f s).plc = s.plc := rfl
@[simp] theorem modAct_radio : (modAct f s).radio = s.radio := rfl
@[simp] theorem modAct_act : (modAct f s).act = f s.act := rfl
@[simp] theorem modAct_notes : (modAct f s).notes = s.notes := rfl
@[simp] theorem modAct_out : (modAct f s).out = s.out := rfl
@[simp] theorem modAct_freeCtr : (modAct f s).freeCtr = s.freeCtr := rfl
@[simp] theorem modAct_pending : (modAct f s).pending = s.pending := rfl
end

section
variable (f : HxSt → HxSt)
@[simp] theorem modHx_mono : (modHx f s).mono = s.mono := rfl
@[simp] theorem modHx_glob : (modHx f s).glob = s.glob := rfl
@[simp] theorem modHx_epoch : (modHx f s).epoch = s.epoch := rfl
@[simp] theorem modHx_bench : (modHx f s).bench = s.bench := rfl
@[simp] theorem modHx_ptp : (modHx f s).ptp = s.ptp := rfl
@[simp] theorem modHx_clk : (modHx f s).clk = s.clk := rfl
@[simp] theorem modHx_fb : (modHx f s).fb = s.fb := rfl
@[simp] theorem modHx_ecc : (modHx f s).ecc = s.ecc := rfl
@[simp] theorem modHx_mbox : (modHx f s).mbox = s.mbox := rfl
@[simp] theorem modHx_queues : (modHx f s).queues = s.queues := rfl
@[simp] theorem modHx_dma : (modHx f s).dma = s.dma := rfl
@[simp] theorem modHx_power : (modHx f s).power = s.power := rfl
@[simp] theorem modHx_panel : (modHx f s).panel = s.panel := rfl
@[simp] theorem modHx_cad : (modHx f s).cad = s.cad := rfl
@[simp] theorem modHx_twin : (modHx f s).twin = s.twin := rfl
@[simp] theorem modHx_outcomes : (modHx f s).outcomes = s.outcomes := rfl
@[simp] theorem modHx_cmp : (modHx f s).cmp = s.cmp := rfl
@[simp] theorem modHx_stage : (modHx f s).stage = s.stage := rfl
@[simp] theorem modHx_store : (modHx f s).store = s.store := rfl
@[simp] theorem modHx_trav : (modHx f s).trav = s.trav := rfl
@[simp] theorem modHx_jrn : (modHx f s).jrn = s.jrn := rfl
@[simp] theorem modHx_billing : (modHx f s).billing = s.billing := rfl
@[simp] theorem modHx_hx : (modHx f s).hx = f s.hx := rfl
@[simp] theorem modHx_steel : (modHx f s).steel = s.steel := rfl
@[simp] theorem modHx_keys : (modHx f s).keys = s.keys := rfl
@[simp] theorem modHx_upd : (modHx f s).upd = s.upd := rfl
@[simp] theorem modHx_downs : (modHx f s).downs = s.downs := rfl
@[simp] theorem modHx_flash : (modHx f s).flash = s.flash := rfl
@[simp] theorem modHx_plc : (modHx f s).plc = s.plc := rfl
@[simp] theorem modHx_radio : (modHx f s).radio = s.radio := rfl
@[simp] theorem modHx_act : (modHx f s).act = s.act := rfl
@[simp] theorem modHx_notes : (modHx f s).notes = s.notes := rfl
@[simp] theorem modHx_out : (modHx f s).out = s.out := rfl
@[simp] theorem modHx_freeCtr : (modHx f s).freeCtr = s.freeCtr := rfl
@[simp] theorem modHx_pending : (modHx f s).pending = s.pending := rfl
end

section
variable (f : CadSt → CadSt)
@[simp] theorem modCad_mono : (modCad f s).mono = s.mono := rfl
@[simp] theorem modCad_glob : (modCad f s).glob = s.glob := rfl
@[simp] theorem modCad_epoch : (modCad f s).epoch = s.epoch := rfl
@[simp] theorem modCad_bench : (modCad f s).bench = s.bench := rfl
@[simp] theorem modCad_ptp : (modCad f s).ptp = s.ptp := rfl
@[simp] theorem modCad_clk : (modCad f s).clk = s.clk := rfl
@[simp] theorem modCad_fb : (modCad f s).fb = s.fb := rfl
@[simp] theorem modCad_ecc : (modCad f s).ecc = s.ecc := rfl
@[simp] theorem modCad_mbox : (modCad f s).mbox = s.mbox := rfl
@[simp] theorem modCad_queues : (modCad f s).queues = s.queues := rfl
@[simp] theorem modCad_dma : (modCad f s).dma = s.dma := rfl
@[simp] theorem modCad_power : (modCad f s).power = s.power := rfl
@[simp] theorem modCad_panel : (modCad f s).panel = s.panel := rfl
@[simp] theorem modCad_cad : (modCad f s).cad = f s.cad := rfl
@[simp] theorem modCad_twin : (modCad f s).twin = s.twin := rfl
@[simp] theorem modCad_outcomes : (modCad f s).outcomes = s.outcomes := rfl
@[simp] theorem modCad_cmp : (modCad f s).cmp = s.cmp := rfl
@[simp] theorem modCad_stage : (modCad f s).stage = s.stage := rfl
@[simp] theorem modCad_store : (modCad f s).store = s.store := rfl
@[simp] theorem modCad_trav : (modCad f s).trav = s.trav := rfl
@[simp] theorem modCad_jrn : (modCad f s).jrn = s.jrn := rfl
@[simp] theorem modCad_billing : (modCad f s).billing = s.billing := rfl
@[simp] theorem modCad_hx : (modCad f s).hx = s.hx := rfl
@[simp] theorem modCad_steel : (modCad f s).steel = s.steel := rfl
@[simp] theorem modCad_keys : (modCad f s).keys = s.keys := rfl
@[simp] theorem modCad_upd : (modCad f s).upd = s.upd := rfl
@[simp] theorem modCad_downs : (modCad f s).downs = s.downs := rfl
@[simp] theorem modCad_flash : (modCad f s).flash = s.flash := rfl
@[simp] theorem modCad_plc : (modCad f s).plc = s.plc := rfl
@[simp] theorem modCad_radio : (modCad f s).radio = s.radio := rfl
@[simp] theorem modCad_act : (modCad f s).act = s.act := rfl
@[simp] theorem modCad_notes : (modCad f s).notes = s.notes := rfl
@[simp] theorem modCad_out : (modCad f s).out = s.out := rfl
@[simp] theorem modCad_freeCtr : (modCad f s).freeCtr = s.freeCtr := rfl
@[simp] theorem modCad_pending : (modCad f s).pending = s.pending := rfl
end

section
variable (f : UpdSt → UpdSt)
@[simp] theorem modUpd_mono : (modUpd f s).mono = s.mono := rfl
@[simp] theorem modUpd_glob : (modUpd f s).glob = s.glob := rfl
@[simp] theorem modUpd_epoch : (modUpd f s).epoch = s.epoch := rfl
@[simp] theorem modUpd_bench : (modUpd f s).bench = s.bench := rfl
@[simp] theorem modUpd_ptp : (modUpd f s).ptp = s.ptp := rfl
@[simp] theorem modUpd_clk : (modUpd f s).clk = s.clk := rfl
@[simp] theorem modUpd_fb : (modUpd f s).fb = s.fb := rfl
@[simp] theorem modUpd_ecc : (modUpd f s).ecc = s.ecc := rfl
@[simp] theorem modUpd_mbox : (modUpd f s).mbox = s.mbox := rfl
@[simp] theorem modUpd_queues : (modUpd f s).queues = s.queues := rfl
@[simp] theorem modUpd_dma : (modUpd f s).dma = s.dma := rfl
@[simp] theorem modUpd_power : (modUpd f s).power = s.power := rfl
@[simp] theorem modUpd_panel : (modUpd f s).panel = s.panel := rfl
@[simp] theorem modUpd_cad : (modUpd f s).cad = s.cad := rfl
@[simp] theorem modUpd_twin : (modUpd f s).twin = s.twin := rfl
@[simp] theorem modUpd_outcomes : (modUpd f s).outcomes = s.outcomes := rfl
@[simp] theorem modUpd_cmp : (modUpd f s).cmp = s.cmp := rfl
@[simp] theorem modUpd_stage : (modUpd f s).stage = s.stage := rfl
@[simp] theorem modUpd_store : (modUpd f s).store = s.store := rfl
@[simp] theorem modUpd_trav : (modUpd f s).trav = s.trav := rfl
@[simp] theorem modUpd_jrn : (modUpd f s).jrn = s.jrn := rfl
@[simp] theorem modUpd_billing : (modUpd f s).billing = s.billing := rfl
@[simp] theorem modUpd_hx : (modUpd f s).hx = s.hx := rfl
@[simp] theorem modUpd_steel : (modUpd f s).steel = s.steel := rfl
@[simp] theorem modUpd_keys : (modUpd f s).keys = s.keys := rfl
@[simp] theorem modUpd_upd : (modUpd f s).upd = f s.upd := rfl
@[simp] theorem modUpd_downs : (modUpd f s).downs = s.downs := rfl
@[simp] theorem modUpd_flash : (modUpd f s).flash = s.flash := rfl
@[simp] theorem modUpd_plc : (modUpd f s).plc = s.plc := rfl
@[simp] theorem modUpd_radio : (modUpd f s).radio = s.radio := rfl
@[simp] theorem modUpd_act : (modUpd f s).act = s.act := rfl
@[simp] theorem modUpd_notes : (modUpd f s).notes = s.notes := rfl
@[simp] theorem modUpd_out : (modUpd f s).out = s.out := rfl
@[simp] theorem modUpd_freeCtr : (modUpd f s).freeCtr = s.freeCtr := rfl
@[simp] theorem modUpd_pending : (modUpd f s).pending = s.pending := rfl
end

section
variable (f : TwinSt → TwinSt)
@[simp] theorem modTwin_mono : (modTwin f s).mono = s.mono := rfl
@[simp] theorem modTwin_glob : (modTwin f s).glob = s.glob := rfl
@[simp] theorem modTwin_epoch : (modTwin f s).epoch = s.epoch := rfl
@[simp] theorem modTwin_bench : (modTwin f s).bench = s.bench := rfl
@[simp] theorem modTwin_ptp : (modTwin f s).ptp = s.ptp := rfl
@[simp] theorem modTwin_clk : (modTwin f s).clk = s.clk := rfl
@[simp] theorem modTwin_fb : (modTwin f s).fb = s.fb := rfl
@[simp] theorem modTwin_ecc : (modTwin f s).ecc = s.ecc := rfl
@[simp] theorem modTwin_mbox : (modTwin f s).mbox = s.mbox := rfl
@[simp] theorem modTwin_queues : (modTwin f s).queues = s.queues := rfl
@[simp] theorem modTwin_dma : (modTwin f s).dma = s.dma := rfl
@[simp] theorem modTwin_power : (modTwin f s).power = s.power := rfl
@[simp] theorem modTwin_panel : (modTwin f s).panel = s.panel := rfl
@[simp] theorem modTwin_cad : (modTwin f s).cad = s.cad := rfl
@[simp] theorem modTwin_twin : (modTwin f s).twin = f s.twin := rfl
@[simp] theorem modTwin_outcomes : (modTwin f s).outcomes = s.outcomes := rfl
@[simp] theorem modTwin_cmp : (modTwin f s).cmp = s.cmp := rfl
@[simp] theorem modTwin_stage : (modTwin f s).stage = s.stage := rfl
@[simp] theorem modTwin_store : (modTwin f s).store = s.store := rfl
@[simp] theorem modTwin_trav : (modTwin f s).trav = s.trav := rfl
@[simp] theorem modTwin_jrn : (modTwin f s).jrn = s.jrn := rfl
@[simp] theorem modTwin_billing : (modTwin f s).billing = s.billing := rfl
@[simp] theorem modTwin_hx : (modTwin f s).hx = s.hx := rfl
@[simp] theorem modTwin_steel : (modTwin f s).steel = s.steel := rfl
@[simp] theorem modTwin_keys : (modTwin f s).keys = s.keys := rfl
@[simp] theorem modTwin_upd : (modTwin f s).upd = s.upd := rfl
@[simp] theorem modTwin_downs : (modTwin f s).downs = s.downs := rfl
@[simp] theorem modTwin_flash : (modTwin f s).flash = s.flash := rfl
@[simp] theorem modTwin_plc : (modTwin f s).plc = s.plc := rfl
@[simp] theorem modTwin_radio : (modTwin f s).radio = s.radio := rfl
@[simp] theorem modTwin_act : (modTwin f s).act = s.act := rfl
@[simp] theorem modTwin_notes : (modTwin f s).notes = s.notes := rfl
@[simp] theorem modTwin_out : (modTwin f s).out = s.out := rfl
@[simp] theorem modTwin_freeCtr : (modTwin f s).freeCtr = s.freeCtr := rfl
@[simp] theorem modTwin_pending : (modTwin f s).pending = s.pending := rfl
end

end Sys2Proof.Machine
end

