-- ==== Sys2Proof/Laws/Run.lean ====
section
/-! SUPPORT. What a command does around its own effect: outputs, posted writes, the queue, and what follows a change of state. -/

namespace Sys2Proof.Machine

@[simp] theorem runCmd_pending (f : State → State) (s : State) : (runCmd f s).pending = s.pending := rfl
@[simp] theorem runCmd_cmp (f : State → State) (s : State) : (runCmd f s).cmp = commitCmp s.cmp (runCmd f s).out := rfl
@[simp] theorem runCmd_stage (f : State → State) (s : State) : (runCmd f s).stage = commitStage s.stage (runCmd f s).out := rfl

/-- The state after the effect is the state after the command, where the effect leaves the addressed RAM and the queue and posts no write. -/
theorem runCmd_plain {f : State → State} {s t : State} (ht : f { s with out := [] } = t) (hc : t.cmp = s.cmp) (hs : t.stage = s.stage)
    (hp : t.pending = s.pending) (h1 : commitCmp s.cmp t.out = s.cmp) (h2 : commitStage s.stage t.out = s.stage) : runCmd f s = t := by
  unfold runCmd
  simp only [ht, h1, h2]
  cases t
  simp_all

/-- Every command has an effect that `runCmd` carries out: none faults and none is refused. -/
theorem exec_runs (i : Instr) (s : State) : ∃ f, exec i s = .next (runCmd f s) := by
  cases i <;> exact ⟨_, rfl⟩

/-- A step is a command's effect with the queue's rest, or a tick. -/
theorem step_runs (s : State) : ∃ f, step s = .next (runCmd f { s with pending := s.pending.tail }) := by
  unfold step
  split
  · rename_i h; exact ⟨elapseTicks 1, by rw [idle, done]; congr 2; cases s; simp_all⟩
  · rename_i i rest h; obtain ⟨f, hf⟩ := exec_runs i { s with pending := rest }
    exact ⟨f, by rw [hf, h]; rfl⟩

/-- Nothing follows a command that leaves the device state, the time quality, the role and the lifecycle, and makes no downlink. -/
theorem settle_quiet {old new : State} (hg : new.glob.state = old.glob.state) (hk : reportKey new = reportKey old) (hd : new.downs = []) :
    settle old new = new := by
  have he : entersService old new = false := by simp [entersService, hg]
  simp [settle, he, hk, routeDowns, hd]

end Sys2Proof.Machine
end

