-- ==== Sys2Proof/Laws/Bus.lean ====
section
/-! SUPPORT. What a register access does, once: where it reaches its register, what a write leaves, and the addresses of registers. -/

namespace Sys2Proof.Machine

/-- A read that reaches its register returns the word of its effect. -/
theorem access_register {r : Requester} {addr : U32} {s : State} (f : State → State × U32) (h : reach r addr 4 s = .register) :
    access r addr f s = emit (.rdata (f s).2) (f s).1 := by
  simp [access, h]

/-- A write that reaches its register completes with its outcome. -/
theorem writeAt_register {r : Requester} {addr : U32} {s : State} (f : State → Wrote) (h : reach r addr 4 s = .register) :
    writeAt r addr f s = completed r (blockOf addr) (f s) := by
  simp [writeAt, h]

/-- A completed write of an outcome outside the security class sets LAST_OUTCOME and makes no record. -/
theorem completed_plain (r : Requester) (b : Nat) (s : State) {c : U16} (h : ocClass c ≠ 5) : completed r b (s, c) = setOutcome b c s := by
  simp [completed, h]

/-- A completed write changes the books, the queues, the outputs and LAST_OUTCOME of its block. -/
theorem completed_outcomes (r : Requester) (b : Nat) (w : Wrote) : (completed r b w).outcomes = tabPut w.1.outcomes b w.2 := by
  unfold completed
  simp only []
  split
  · have h := (record_books b w.2 [stampOf r] (setOutcome b w.2 w.1)).1
    rw [h]; rfl
  · rfl

theorem regAddr_toNat {b off : Nat} (hb : b < 65536) (ho : off < 65536) : (regAddr b off).toNat = 65536 * b + off := by
  simp only [regAddr, u32, BitVec.toNat_ofNat]
  omega

@[simp] theorem blockOf_regAddr {b off : Nat} (hb : b < 65536) (ho : off < 65536) : blockOf (regAddr b off) = b := by
  rw [blockOf, regAddr_toNat hb ho]; omega

@[simp] theorem offsetOf_regAddr {b off : Nat} (hb : b < 65536) (ho : off < 65536) : offsetOf (regAddr b off) = off := by
  rw [offsetOf, regAddr_toNat hb ho]; omega

/-- Whether an access reaches its register depends on the global block, the clocks, the mailboxes and the cadastre only. -/
theorem reach_congr {s t : State} (r : Requester) (addr : U32) (n : Nat) (hg : t.glob = s.glob) (hk : t.clk = s.clk) (hm : t.mbox = s.mbox)
    (hc : t.cad = s.cad) : reach r addr n t = reach r addr n s := by
  simp [reach, canRequest, fn1Present, bar0Answers, blockGated, cadNum, cadInt, cadRows, hg, hk, hm, hc]

/-- A write of the register at offset `off` of block `b`. -/
theorem busWrite_register {r : Requester} {b off : Nat} {v : U32} {s : State} (hb : b < 65536) (ho : off < 65536)
    (h : reach r (regAddr b off) 4 s = .register) : busWrite r (regAddr b off) v s = completed r b (regWrote r id b off v s) := by
  rw [busWrite, writeAt_register _ h, blockOf_regAddr hb ho, offsetOf_regAddr hb ho]

/-- The next state of a command whose effect leaves memory and queue and whose outputs post nothing. -/
theorem done_plain {f : State → State} {s t : State} (ht : f (saying [] s) = t) (hc : t.cmp = s.cmp) (hs : t.stage = s.stage)
    (hp : t.pending = s.pending) (h1 : commitCmp s.cmp t.out = s.cmp) (h2 : commitStage s.stage t.out = s.stage) : done f s = .next t := by
  rw [done, runCmd_plain (t := t) ht hc hs hp h1 h2]

/-- A register write that reaches its register and ends with an outcome outside the security class, given its effect. -/
theorem busWrite_ends {r : Requester} {b off : Nat} {v : U32} {s u : State} {c : U16} (hb : b < 65536) (ho : off < 65536)
    (h : Reaches r b off s) (hc : ocClass c ≠ 5) (he : regWrote r id b off v (saying [] s) = (saying [] u, c)) (h1 : u.cmp = s.cmp)
    (h2 : u.stage = s.stage) (h3 : u.pending = s.pending) : done (busWrite r (regAddr b off) v) s = .next (ended b c u) := by
  have h' : reach r (regAddr b off) 4 (saying [] s) = .register := h
  exact done_plain ((busWrite_register hb ho h').trans (by rw [he, completed_plain _ _ _ hc]; rfl)) h1 h2 h3 rfl rfl

/-- A read that reaches its register, given its effect. -/
theorem access_ends {r : Requester} {b off : Nat} {s u : State} {v : U32} (f : State → State × U32) (h : Reaches r b off s)
    (he : f (saying [] s) = (saying [] u, v)) (h1 : u.cmp = s.cmp) (h2 : u.stage = s.stage) (h3 : u.pending = s.pending) :
    done (access r (regAddr b off) f) s = .next (saying [.rdata v] u) := by
  have h' : reach r (regAddr b off) 4 (saying [] s) = .register := h
  exact done_plain ((access_register f h').trans (by rw [he]; rfl)) h1 h2 h3 rfl rfl

end Sys2Proof.Machine
end

