-- ==== Sys2Proof/WellFormed.lean ====
section
/-! DEFINITION. When the operands of a command name something the device has: the check a sender of commands makes. A meaning is total on
every operand all the same. -/

namespace Sys2Proof

/-- Do posted writes stay within an area of `size` bytes (17 R378)? -/
def writesWithin (size : Nat) (ws : List (Nat × List U8)) : Bool := ws.all (fun w => decide (w.1 + w.2.length ≤ size))

/-- Is a channel one on which a companion function sends (17 Table 17.3)? -/
def inboundChannel (c : Fin 40) : Bool := decide (c.val < 16) || (decide (32 ≤ c.val) && decide (c.val < 36))

/-- Does an access cover at least one byte and at most eight? -/
def accessWidth (bytes : Nat) : Bool := decide (0 < bytes) && decide (bytes ≤ 8)

/-- Are the operands of a command those of something the device has? -/
def Instr.wf : Instr → Bool
  | .unmappedAccess _ _ n => accessWidth n
  | .secureAccessDenied _ _ n => accessWidth n
  | .misalignedAccess _ _ n => accessWidth n
  | .gatedBlockAccess _ _ n => accessWidth n
  | .cmpDoorbellGo _ ws _ _ _ _ => writesWithin 268435456 ws
  | .dmaTailWrite _ _ ws _ => writesWithin 268435456 ws
  | .dmaRun _ _ ws => writesWithin 268435456 ws
  | .mboxKeyload c ws => inboundChannel c && writesWithin 65536 ws
  | .mboxPing c => inboundChannel c
  | .mboxStatus c => inboundChannel c
  | .mboxQuote c => inboundChannel c
  | .mboxEventFeed c => inboundChannel c
  | .mboxUndefinedService c => inboundChannel c
  | .mboxOutboundWithdraw c => !inboundChannel c
  | .streamCapture q _ => decide (8 ≤ q.val)
  | .jtagLifecycleTransition n _ => decide (n < 7)
  | .ethLinkChange p _ => decide (p < 5)
  | _ => true

end Sys2Proof
end

