-- ==== Sys2Proof/Tests/Slice0.lean ====
section
/-! SUPPORT. Tests: ill-formed commands that the check refuses, states and operands that meet the hypotheses of each statement, and
single steps whose results the specification gives. -/

namespace Sys2Proof.Tests

open Sys2Proof Sys2Proof.Machine

set_option Elab.async false

/-! ### States -/

/-- A device in service with every block ungated and the Benchmark counter running. -/
def unit : State :=
  { State.reset with glob := { State.reset.glob with state := .healthy, ingest := true, startStep := 17 }, bench := { State.reset.bench with running := true },
                     clk := { State.reset.clk with enable0 := 0xFFFFFFFF, enable1 := 0xFFFFFFFF } }

/-! ### The queue, memory and registers -/

theorem wit_StepRunsTheFrontCommand : State.pending { unit with pending := [.epochLoRead .firmware] } = .epochLoRead .firmware :: [] := rfl

theorem wit_EmptyQueueStepIsOneTick : unit.pending = [] ∧ unit.bench.running = true ∧ unit.bench.incrNext = none := by decide

theorem wit_EveryStepKeepsMemoryCanonical : Memory.wf unit.cmp = true ∧ Memory.wf unit.stage = true := by decide

theorem wit_EveryStepKeepsMemoryCanonical_step : ∃ t, step unit = .next t := ⟨_, rfl⟩

theorem wit_OnlyPostedWritesChangeTheCompanionArea :
    exec (.epochLoRead .firmware) unit = .next { unit with out := [.rdata 0] } ∧ Output.memClear ∉ [Output.rdata 0] := ⟨rfl, by decide⟩

theorem wit_EpochReadLatchesHighHalf : Reaches .firmware 0x00 0x010 unit ∧ Reaches .warden 0x00 0x010 unit := by unfold Reaches; decide

theorem wit_LatchingReadsReturnTheWordAndLatchTheRest : Reaches .firmware 0x10 0x040 unit ∧ Reaches .firmware 0x10 0x300 unit ∧ Reaches .firmware 0x10 0x540 unit ∧
    Reaches .firmware 0x0A 0x010 unit ∧ Reaches .firmware 0x0B 0x02C unit ∧ Reaches .warden 0x09 0x044 unit ∧ Reaches .warden 0x09 0x04C unit ∧
    Reaches .firmware 0x08 0x028 unit ∧ Reaches .firmware 0x08 0x00C unit ∧ Reaches .firmware 0x03 0x018 unit ∧ Reaches .firmware 0x03 0x020 unit ∧
    Reaches .firmware 0x03 0x010 unit := by unfold Reaches; decide

theorem wit_UnmappedAccessEndsInBusError : reach .firmware 0x00FFF000 4 unit = .unmapped := by decide

theorem wit_DeniedAccessesEndInBusErrors : reach .firmware (regAddr 0x09 0x044) 4 unit = .secure ∧
    reach .firmware (regAddr 0x0C 0x000) 4 State.reset = .gated ∧ reach .firmware (regAddr 0x08 0x001) 4 unit = .misaligned ∧
    reach .firmware (regAddr 0x08 0x000) 2 unit = .misaligned := by decide

theorem wit_ReservedBitsRejectTheWholeWrite : reach .firmware (regAddr 0x0D 0x000) 4 unit = .register ∧
    ownedWrite .firmware 0x0D 0x000 0xFF (saying [] unit) = none ∧ (0xFF : U32) &&& reservedBits 0x0D 0x000 ≠ 0 := by decide +kernel

theorem wit_RegisterWritesTakeEffectAndSetLastOutcome : Reaches .firmware 0x08 0x014 unit ∧ Reaches .firmware 0x0D 0x000 unit ∧
    (0xFFFFFF00 : U32) &&& 0x000000FF = 0 ∧ Reaches .firmware 0x0D 0x800 unit := by unfold Reaches; decide

theorem wit_OnlyFirmwareWritesClockEnables : (0x03FFFF80 : U32) &&& 0xFC00007F = 0 ∧ (0x000000FF : U32) &&& 0xFFFFFF00 = 0 ∧
    Requester.keeper ≠ .firmware ∧ Reaches .keeper 0x01 0x00C unit ∧ Reaches .keeper 0x01 0x010 unit := by unfold Reaches; decide

theorem wit_BenchmarkAndBootRegistersTakeTheirWrites : Reaches .firmware 0x08 0x018 unit ∧ incrOk (incrOf 4 0) = true ∧ incrOk (incrOf 5 0) = false ∧
    Reaches .firmware 0x08 0x024 unit ∧ Reaches .firmware 0x00 0x01C unit ∧ Reaches .firmware 0x0A 0x008 unit := by unfold Reaches; decide

/-! ### Field books, the vault and the companion port -/

/-- Two records in the device field book, and one closed by the keeper. -/
def booked : State := { unit with fb := { unit.fb with ringUp := true, nextSeq := 3, cursor := 1, ring := [(1, { code := OC_FAULT }), (2, { code := OC_FAULT })] } }

/-- The device field book frozen by firmware. -/
def frozen : State := { booked with fb := { booked.fb with freeze := some { owner := stampOf .firmware, since := 0 } } }

theorem wit_FieldBookWindowAndFreeze : Reaches .firmware 0x03 0x010 booked ∧ booked.fb.select = 0xFFFF ∧ ringOldest booked.fb = 1 ∧
    ringOldest { booked.fb with ring := [(2, { code := OC_FAULT })] } = 2 ∧ blockExists 0x10 = true ∧ blockExists 0x0F = false ∧
    Reaches .firmware 0x03 0x00C booked ∧ Reaches .firmware 0x03 0x028 booked ∧
    (fbBook booked).find? (fun e => decide (booked.fb.cursor < e.1)) = some (2, { code := OC_FAULT }) ∧
    (fbBook unit).find? (fun e => decide (unit.fb.cursor < e.1)) = none ∧ booked.fb.freeze = none ∧
    frozen.fb.freeze = some { owner := stampOf .firmware, since := 0 } ∧ stampOf .firmware ≠ stampOf .keeper := by unfold Reaches; decide

theorem wit_FieldBookWindowAndFreeze_next : fbAtEnd { booked with fb := { booked.fb with cursor := 2 } } = false ∧
    (fbBook { booked with fb := { booked.fb with cursor := 2 } }).find? (fun e => decide (2 < e.1)) = none := by decide

theorem wit_VaultCommandsAreTheWardensAlone : Reaches .warden 0x09 0x020 unit ∧ Reaches .warden 0x09 (0x020 + 4 * 7) unit ∧ Reaches .warden 0x09 0x040 unit ∧
    (63 : U8).toNat < 64 ∧ 64 ≤ (64 : U8).toNat := by unfold Reaches; decide

theorem wit_VaultCommandsAreTheWardensAlone_refused :
    Reaches (.fn1 0) 0x09 0x020 { unit with mbox := { unit.mbox with linkUp := true }, glob := { unit.glob with startStep := 17, straps := 0xFFFFFF } } := by
  unfold Reaches; decide

/-- The companion attached, its link up. -/
def attached : State := { unit with mbox := { unit.mbox with linkUp := true }, glob := { unit.glob with startStep := 17 } }

/-- A mailbox channel in a state, owned by function 0 with requester number 0. -/
def chanAt (c : Nat) (x : ChState) (msg : Tab U32) : State := setCh c { state := x, owner := stampOf (.fn0 0), stamp := stampOf (.fn0 0), msg := msg } attached

theorem wit_ChannelIsLockedWrittenAndPosted : ReachesCh (.fn0 0) 0 0x00 attached ∧ maySend (.fn0 0) 0 = true ∧ (chOf attached 0).state = .empty ∧
    (chOf (chanAt 0 .locked []) 0).state ≠ .empty ∧ maySend .firmware 0 = false ∧ ReachesCh .firmware 0 0x00 attached ∧
    ReachesCh (.fn0 0) 0 (0x40 + 4 * 15) (chanAt 0 .locked []) ∧ (chOf (chanAt 0 .locked []) 0).owner = stampOf (.fn0 0) ∧
    (chOf (chanAt 0 .locked []) 0).state = .locked ∧ (chOf (chanAt 0 .locked []) 0).owner ≠ stampOf (.fn0 1) ∧
    (chOf (chanAt 0 .posted []) 0).state = .posted ∧ ReachesCh (.fn0 0) 0 0x0C (chanAt 0 .locked []) := by unfold ReachesCh; decide

theorem wit_ChannelReceiverTakesAndAcknowledges : ReachesCh .firmware 0 0x10 (chanAt 0 .posted []) ∧ mayTake .firmware 0 = true ∧
    mayTake (.fn0 0) 0 = false ∧ ReachesCh (.fn0 0) 0 0x10 attached ∧ ReachesCh .firmware 0 0x18 (chanAt 0 .taken []) ∧ (65535 : U32).toNat < 65536 ∧
    (chOf (chanAt 0 .taken []) 0).state = .taken ∧ (chOf (chanAt 0 .taken []) 0).lockStale = false ∧ (chanAt 0 .taken []).mbox.waiting = [] ∧
    ReachesCh (.fn0 0) 0 0x04 (chanAt 0 .acked []) ∧ (chOf (chanAt 0 .acked []) 0).state = .acked := by unfold ReachesCh; decide

theorem wit_MailboxTimesOutAndFunctionResets : attached.downs = [] ∧ chOutbound 16 = true ∧
    (chOf (setCh 16 { state := .posted } attached) 16).state = .posted ∧ (setCh 16 { state := .posted } attached).mbox.waiting = [] := by decide

theorem wit_MailboxTimesOutAndFunctionResets_drop :
    (State.mbox { attached with mbox := { attached.mbox with waiting := [{ secure := false, msg := [], since := 0 }] } }).waiting =
      { secure := false, msg := [], since := 0 } :: [] := rfl

theorem wit_MailboxServicesAnswer : mailFor 0x0001 0 (chanAt 0 .posted [(0, 1)]) ∧ mailFor 0x0099 0 (chanAt 0 .posted [(0, 0x99)]) ∧
    servicesDefined.contains 0x0099 = false ∧ mailFor 0x0020 0 (chanAt 0 .posted [(0, 0x20), (2, 1)]) ∧
    mailFor 0x0010 32 (chanAt 32 .posted [(0, 0x10), (2, 0xFFF0), (3, 0x10)]) ∧ mailKeysOpen (chanAt 32 .posted [(0, 0x10)]) = true ∧
    mailFor 0x0002 0 (chanAt 0 .posted [(0, 2)]) ∧ freeOut false (chanAt 0 .posted [(0, 2)]) = some 16 ∧
    mailFor 0x0003 0 (chanAt 0 .posted [(0, 3), (10, 0x0FFFE8DC)]) ∧ (0x0FFFE8DC : U32).toNat + 5924 ≤ 268435456 ∧
    attached.keys.q < 2 ^ 40 := by unfold mailFor; decide

theorem wit_MailboxServicesAnswer_maintenance :
    mailRead (memReadBytes [] 0xFFF0 0x10) = .malformed ∧
    mailRead (memReadBytes ([(0xFFF0, cborKeyed [(1, cborInt 2)])].foldl (fun m w => memWriteBytes m w.1 w.2) attached.stage) 0xFFF0 3) = .maintenance true ∧
    0xFFF0 + 0x10 ≤ 65536 ∧ mailLate attached = none ∧ maintCheck true { attached with keys := { attached.keys with state := 3 } } = OC_OK ∧
    mailKeysOpen { attached with keys := { attached.keys with state := 3 }, cad := { attached.cad with running := [(0x0804, [[1]])] } } = true ∧
    (0 : Nat) < (State.keys { attached with keys := { attached.keys with reservedEnd := 4096 } }).reservedEnd := by decide

theorem wit_WordQueuesAndStampQueueAreFirstInFirstOut : Reaches (.fn0 0) 0x06 (0x1000 + 0x40 * 3) attached ∧ mayPush (.fn0 0) 3 = true ∧
    mayPush (.fn0 0) 4 = false ∧ mayPop .firmware 3 = true ∧ mayPop (.fn0 0) 3 = false ∧ queueDepth 3 ≤ 1024 ∧
    Reaches .firmware 0x06 (0x1000 + 0x40 * 3) { attached with queues := [(3, { words := [(7, false)] })] } ∧
    Reaches .firmware 0x40 0x00C attached ∧ attached.ptp.tsq = [] := by unfold Reaches; decide

/-- One entry of the timestamp queue. -/
def tsOne : TsEntry := { port := 1, transmit := false, msgType := 0, gen := 3, seqId := 5, stamp := 9 }

theorem wit_WordQueuesAndStampQueueAreFirstInFirstOut_full :
    queueDepth 3 ≤ (List.replicate 1024 ((0 : U32), false)).length ∧
    (tabGet (State.queues { attached with queues := [(8, { enable := true })] }) 8 {}).enable = true ∧
    (State.ptp { attached with ptp := { attached.ptp with tsq := [tsOne] } }).tsq = tsOne :: [] :=
  ⟨by rw [List.length_replicate]; decide, rfl, rfl⟩

/-- DMA channel 0 with a ring of 16 descriptors, running, one descriptor ready whose first bytes are these. -/
def dmaReady (bytes : List U8) : State :=
  { setDma 0 { run := true, ring := 0, size := 16, head := 0, tail := 1 } attached with cmp := memWriteBytes [] 0 bytes }

theorem wit_DmaRingIsDrivenAndCompletes : Reaches (.fn0 0) 0x07 0x100 attached ∧ (dmaOf attached 0).run = false ∧ (0x0FFFFFC0 : U32).toNat < 268435456 ∧
    (0x0FFFFFC0 : U32).toNat % 64 = 0 ∧ Reaches (.fn0 0) 0x07 0x104 attached ∧ ringSizeOk 4096 = true ∧ (dmaOf (dmaReady []) 0).run = true ∧
    Reaches (.fn0 0) 0x07 0x100 (dmaReady []) ∧ Reaches (.fn0 0) 0x07 0x10C (dmaReady []) ∧ (15 : U32).toNat < (dmaOf (dmaReady []) 0).size.toNat ∧
    Reaches (.fn0 0) 0x07 0x110 (dmaReady []) := by unfold Reaches; decide

theorem wit_DmaRingIsDrivenAndCompletes_fill :
    let d := descriptorAt (dmaReady [2, 0, 0, 0, 1, 0, 0, 0, 9, 0, 0, 0, 0, 0, 0, 0, 0, 1]).cmp 0
    d.op = 2 ∧ d.dstSpace = 0 ∧ 0 < d.length ∧ d.dst + d.length ≤ 268435456 ∧ d.srcSpace ≠ 1 ∧ (dmaOf (dmaReady []) 0).stopped = false ∧
      (dmaOf (dmaReady []) 0).head ≠ (dmaOf (dmaReady []) 0).tail ∧ (descriptorAt (dmaReady []).cmp 0).op = 0 := by decide

/-! ### Time, PTP and clocks -/

/-- Running values of the cadastre. -/
def withCad (v : CadValues) (s : State) : State := { s with cad := { s.cad with running := v } }

theorem wit_AnchorAndStepKeepDeviceTime : unit.downs = [] ∧
    (State.bench { unit with bench := { unit.bench with stepReq := some 5, lastStep := some 0 } }).stepReq = some 5 := by decide

/-- A unit with port 0 in SLAVE and port 1 in MASTER, at TQ0, PTP on both ports, transparent on ports 2 and 3. -/
def clocked : State := withCad [(0x0910, [[1, 0, 3, 0, 10, 0, 10000]]), (0x0911, [[12, 9]])]
  { unit with ptp := { unit.ptp with port := [(0, 1), (1, 2)], locked := true }, glob := { unit.glob with tq := 0 } }

/-- A Sync exchange under way on port 0, its Delay_Req sent. -/
def exchanging : State := { clocked with ptp := { clocked.ptp with
  sync := some { seqId := 7, port := 0, t2 := 1000 }, exchange := some { seqId := 7, port := 0, t1 := some 900, t2 := 1000 }, delayReq := some (7, 1100) } }

theorem wit_PtpMessagesReachServoAndClients : ptpAccepted clocked {} ∧ slavePort clocked = some 0 ∧ clocked.ptp.tsq.length < 64 ∧
    ptpAccepted exchanging { seqId := 7 } ∧ exchanging.ptp.sync = some { seqId := 7, port := 0, t2 := 1000 } ∧ slavePort exchanging = some 0 ∧
    ptpListed clocked { version := 1 } = false := by unfold ptpAccepted; decide

theorem wit_PtpMessagesReachServoAndClients_others : clocked.downs = [] ∧ ptpAccepted clocked { port := 1 } ∧ masterSends clocked 1 = true ∧
    exchanging.downs = [] ∧ ptpAccepted exchanging { seqId := 7 } ∧ exchanging.ptp.delayReq = some ((7 : U16), 1100) ∧
    exchanging.ptp.exchange = some { seqId := 7, port := 0, t1 := some 900, t2 := 1000 } ∧
    (cadNum clocked 0x0911 0).testBit 3 = true ∧ cadNum clocked 0x0911 1 = 9 ∧ clocked.twin.role ≤ 1 := by unfold ptpAccepted; decide

/-- A unit whose SP[8] is PPS_IN and SP[9] PPS_OUT, with PPS_IN used. -/
def pulsed : State := withCad [(0x0020, [[8, 0], [9, 0]]), (0x0913, [[500, 24, 50, 1, 0]])]
  { clocked with glob := { clocked.glob with season := .run }, bench := { clocked.bench with ppsLast := some 0 } }

theorem wit_TimeQualityFallsAndPulsesAreStamped : clocked.ptp.locked = true ∧ clocked.glob.tq = 0 ∧
    (State.glob { clocked with glob := { clocked.glob with tq := 1 } }).tq = 1 ∧ (State.glob { clocked with glob := { clocked.glob with tq := 2 } }).tq = 2 ∧
    pulsed.downs = [] ∧ cadNum pulsed 0x0913 3 = 1 ∧ spHas pulsed 8 = true ∧ spHas pulsed 9 = true ∧ pulsed.bench.ppsLast = some 0 ∧
    pulsed.glob.tq ≤ 1 ∧ pulsed.glob.season = .run := by decide

/-- A unit whose sources are good. -/
def sourced : State := { unit with clk := { unit.clk with
  fio := { good := true }, xa := { good := true }, xb := { good := true }, refclk := { good := true }, pllLock := 15 } }

theorem wit_ClockSourcesAreJudgedAndTripsMoveUsers : unit.downs = [] ∧ (srcOf unit .fio).good = false ∧ (judging unit .fio).2.1.1 ≤ 22949 ∧
    25879 ≤ (judging unit .fio).2.1.2 ∧ (srcOf unit .fio).passes + 1 < (judging unit .fio).2.2.1 ∧ (srcOf unit .xb).good = false ∧
    804688 + 1 > (judging unit .xb).2.1.2 ∧ 757812 - 1 < (judging unit .xb).2.1.1 := by decide

theorem wit_ClockSourcesAreJudgedAndTripsMoveUsers_pass :
    let s := { unit with clk := { unit.clk with xb := { passes := 3 } } }
    (srcOf s .xb).good = false ∧ (judging s .xb).2.1.1 ≤ 757812 ∧ 757812 ≤ (judging s .xb).2.1.2 ∧ (judging s .xb).2.2.1 ≤ (srcOf s .xb).passes + 1 ∧
    (srcOf { unit with clk := { unit.clk with xb := { failed := true } } } .xb).failed = true := by decide

theorem wit_ClockSourcesAreJudgedAndTripsMoveUsers_monitor :
    let missed := { sourced with clk := { sourced.clk with xb := { good := true, misses := 1 } } }
    (srcOf sourced .fio).good = true ∧ (judging sourced .fio).2.1.1 ≤ 22949 ∧ 25879 ≤ (judging sourced .fio).2.1.2 ∧
    22948 < (judging sourced .fio).2.1.1 ∧ (srcOf sourced .fio).misses = 0 ∧ (judging missed .xb).2.1.2 < 804689 ∧
    1 ≤ (srcOf missed .xb).misses ∧ (srcOf missed .xb).good = true ∧ missed.downs = [] := by decide

theorem wit_ClockSourcesAreJudgedAndTripsMoveUsers_trips : sourced.downs = [] ∧ sourced.clk.fio.good = true ∧ unit.clk.fio.good = false ∧
    (State.clk { unit with clk := { unit.clk with refclkAt := some 0 } }).refclkAt = some 0 ∧ sourced.clk.refclk.good = true ∧
    (if sourced.clk.onFio then sourced.clk.fio.good else sourced.clk.xa.good) = true := by decide

theorem wit_XaTripsAndLostLocksAreHandled : unit.glob.state ∉ [DevState.reset, .halted, .slowHold, .lastGasp] ∧ unit.clk.fio.good = false ∧
    sourced.glob.state ∉ [DevState.reset, .halted, .slowHold, .lastGasp] ∧ sourced.clk.fio.good = true ∧
    (State.glob { sourced with glob := { sourced.glob with state := .lastGasp } }).state = .lastGasp ∧
    (∀ x ∈ [DevState.reset, .halted, .slowHold], (State.glob { sourced with glob := { sourced.glob with state := x } }).state = x) ∧ sourced.downs = [] ∧
    sourced.clk.refclk.good = true ∧ (if sourced.clk.onFio then sourced.clk.fio.good else sourced.clk.xa.good) = true := by decide

/-! ### Start-up, states, the epoch boundary and containment -/

/-- A BLANK unit at reset. -/
def blank : State := { State.reset with keys := { State.reset.keys with state := 0 } }

theorem wit_StartupFollowsItsSteps : StartInfo.cold { railFail := some 1 } = true ∧ StartInfo.railFail { railFail := some 1 } ≠ none ∧
    StartInfo.clocksGood { clocksGood := false } = false ∧ (StartInfo.pins { pins := 3 }).toNat % 4 = 3 ∧ (StartInfo.pins { pins := 2 }).toNat % 4 = 2 ∧
    blank.keys.state = 0 ∧ dramOk {} (dramFound {} blank) = true := by decide

/-- A unit that waits after step 8 for the companion's images. -/
def waitingImages : State := { unit with glob := { unit.glob with state := .boot, startStep := 8, straps := 2 } }

/-- A unit at step 13 of a start. -/
def portsStarting : State := { unit with glob := { unit.glob with state := .starting, startStep := 13, ingest := false } }

theorem wit_StartsEndInServiceAndResetsInReset :
    (State.glob { portsStarting with glob := { portsStarting.glob with startWd := true } }).startWd = true ∧ serving portsStarting = false ∧
    (State.glob { unit with glob := { unit.glob with state := .halted, haltedAt := some 0 } }).haltedAt = some 0 ∧ unit.keys.state ≠ 6 ∧
    waitingImages.glob.state = .boot ∧ waitingImages.glob.startStep = 8 ∧ bootSrc waitingImages = 2 ∧
    portsStarting.glob.state = .starting ∧ portsStarting.glob.startStep = 13 ∧ twinParam portsStarting 0 = 0 := by decide

/-- A unit that waits for its first boundary of the run, its last sealed epoch one of another length. -/
def starting17 : State := { unit with glob := { unit.glob with ingest := false, startStep := 16 }, jrn := { unit.jrn with sealed := some (3, 77, 400) } }

theorem wit_StartsEndInServiceAndResetsInReset_ingest : starting17.bench.running = true ∧ serving starting17 = true ∧ starting17.glob.ingest = false ∧
    starting17.upd.deferredAt = none ∧ starting17.jrn.sealed = some (3, 77, 400) ∧ starting17.glob.startStep < 17 ∧ starting17.twin.role ≤ 1 ∧
    77 * 1000000 ≠ epochLen starting17 := by decide

/-- A unit with the boundary work of epoch 3 done up to a step. -/
def boundaryAt (n : Nat) : State := { unit with epoch := { unit.epoch with work := [{ epoch := 3, step := n, boundary := 4000000000 }], current := 4 } }

theorem wit_EpochBoundaryWorkGoesStepByStep : unit.bench.running = true ∧ serving unit = true ∧ unit.glob.ingest = true ∧ 17 ≤ unit.glob.startStep ∧ unit.twin.role ≤ 1 ∧
    unit.upd.deferredAt = none ∧ unit.epoch.work = [] ∧ (boundaryAt 2).epoch.work = [{ epoch := 3, step := 2, boundary := 4000000000 }] ∧
    (boundaryAt 2).twin.role ≤ 1 ∧ (boundaryAt 2).glob.ingest = true ∧ undrained (boundaryAt 2) 3 = false ∧ commitRoom 128 (boundaryAt 2) = true := by decide +kernel

/-- A unit whose epoch 3 is sealed, with leaves reserved. -/
def sealedUnit : State := { boundaryAt 4 with
  jrn := { unit.jrn with lastSeal := 5, lastJsn := 5 }, keys := { unit.keys with q := 0, reservedEnd := 4096 }, hx := { unit.hx with ranges := [(3, 5, 0, 1000)] } }

theorem wit_EpochBoundaryWorkGoesStepByStep_sign : sealedUnit.epoch.work = [{ epoch := 3, step := 4, boundary := 4000000000 }] ∧
    sealedUnit.twin.role ≤ 1 ∧ sealedUnit.keys.q < sealedUnit.keys.reservedEnd := by decide

theorem wit_EpochBoundaryWorkGoesStepByStep_sheet : ∃ x u, buildSheet false 3 (saying [] sealedUnit) = some (x, u) := ⟨_, _, rfl⟩

/-- A unit whose staged value of 0x0010 is draining. -/
def drainingUnit : State := { unit with cad := { unit.cad with draining := [0x0010], staged := [(0x0010, [[2]])] }, glob := { unit.glob with draining := some 3 } }

theorem wit_DrainedBlocksAndDieLinkErrors : drainingUnit.cad.draining.contains 0x0010 = true ∧ blockIdle 0x0010 drainingUnit = true ∧
    tabFind drainingUnit.cad.staged 0x0010 = some [[2]] ∧ drainingUnit.downs = [] ∧ drainingUnit.glob.draining = some 3 ∧ unit.downs = [] ∧
    (State.glob { unit with glob := { unit.glob with dieRetries := 14 } }).dieRetries + 1 < 16 ∧
    16 ≤ (State.glob { unit with glob := { unit.glob with dieRetries := 15 } }).dieRetries + 1 ∧ unit.trav.handlings = [] ∧
    (State.glob { unit with glob := { unit.glob with dieRetrain := some 0 } }).dieRetrain = some 0 := by decide

/-- A unit with these handlings under way. -/
def handlingUnit (l : List Handling) : State := { unit with trav := { unit.trav with handlings := l, nextHandling := 9 } }

theorem wit_ContainmentStartsQueuesEscalatesAndEnds : unit.downs = [] ∧ unit.trav.handlings = [] ∧ (1 : Nat) ≤ 1 ∧ (2 : Nat) ≤ 3 ∧
    (handlingUnit [{ id := 1, cls := 3 }]).trav.handlings = [{ id := 1, cls := 3 }] ∧ (3 : Nat) ≤ (Handling.cls { id := 1, cls := 3 }) ∧
    (handlingUnit [{ id := 1 }, { id := 2 }]).trav.handlings.length = 2 ∧
    handlingOf (handlingUnit [{ id := 1 }]) 1 = some { id := 1 } ∧ (Handling.started { id := 1 }) = true ∧ (Handling.cls { id := 1 }) = 2 ∧
    (Handling.failures { id := 1, failures := 2 }) + 1 < 4 ∧ handlingOf (handlingUnit [{ id := 1, cls := 3 }]) 1 = some { id := 1, cls := 3 } ∧
    (State.trav { unit with trav := { unit.trav with c4 := some OC_FAULT } }).c4 ≠ none ∧ unit.power.thermalAt = none := by decide

/-! ### Readings, parcels, billing, Steelyard and flash -/

/-- The keys 9 and 8 of 16 bytes, wrapped under the PKEK 5. -/
def wrapped9 : List U8 := [117, 201, 9, 141, 248, 57, 163, 234, 168, 172, 133, 45, 111, 218, 146, 149, 129, 18, 61, 11, 139, 227, 75, 136]
def wrapped8 : List U8 := [194, 199, 203, 29, 24, 236, 209, 229, 200, 24, 29, 140, 106, 94, 67, 229, 204, 30, 95, 222, 134, 184, 205, 26]

theorem test_keys_are_wrapped : keyWrap 5 16 9 = wrapped9 ∧ keyUnwrap 5 wrapped9 = some 9 ∧ keyUnwrap 5 wrapped8 = some 8 ∧
    keyUnwrap 6 wrapped8 = none := by decide +kernel

/-- Parcel 5: a DLMS meter of identity 77, its two keys in force under PKEK generation 1. -/
def meter : Parcel := { state := .active, generation := 3, identity := 77, protocol := 1, path := 1, fcHigh := 100,
                        keys := [(0, { role := 1, kekGen := 1, wrapped := wrapped9 }), (1, { role := 2, kekGen := 1, wrapped := wrapped8 })] }

/-- A unit with the meter enrolled, its directory entry in the stash, and these tags in use. -/
def metered (ts : List Tag) : State := { unit with
  store := { unit.store with parcels := [(5, meter)], stash := [{ identity := 77, index := 5, state := 1, generation := 3 }] },
  trav := { unit.trav with tags := ts, nextAsn := 20, nextJoin := 10 }, keys := { unit.keys with pkekGen := 1, vault := [(0, { key := 5 })] } }

/-- A frame of the meter under its keys. -/
def frame77 : Arrival := { identity := some 77, counter := 101, sec := { key := 9, authKey := 8 }, payload := .mbus [] 0 }

/-- A tag of the meter in a state. -/
def tag77 (x : TagState) : Tag := { state := x, asn := 7, arr := frame77, parcel := some 5, generation := 3, counter := 101, keys := meter.keys }

/-- A unit whose frame with ASN 7 is staged. -/
def stagedUnit : State := { metered [] with trav := { (metered []).trav with staged := [{ asn := 7, arr := frame77 }] } }

/-- A unit in which ASN 7 waits for the miss of an identity. -/
def missing (id : U64) : State := { metered [{ asn := 7, arr := { frame77 with identity := some id } }] with
  store := { (metered []).store with misses := [(id, [7])] } }

theorem wit_FramesAreAdmittedLookedUpAndJoined : stagedUnit.trav.staged = [{ asn := 7, arr := frame77 }] ∧ stagedUnit.trav.tags.length < 1024 ∧
    admitting stagedUnit = true ∧ blockHeld stagedUnit 16 = false ∧ tagOf stagedUnit 7 = none ∧ headFind stagedUnit 77 = none ∧ stagedUnit.store.misses = [] ∧
    frame77.identity = some 77 ∧ entriesHeld (commitDue (saying [] stagedUnit)) = false ∧
    (missing 77).store.misses = [(77, [7])] ∧ (missing 77).store.rebuild = [] ∧
    (missing 77).trav.tags = [{ asn := 7, arr := { frame77 with identity := some 77 } }] ∧ (headPlace (drainWrites (missing 77)) 77).isSome = true ∧
    dirFind (missing 77) 77 = some { identity := 77, index := 5, state := 1, generation := 3 } ∧ dirFind (missing 78) 78 = none := by decide +kernel

theorem wit_FramesAreAdmittedLookedUpAndJoined_join : let s := metered [tag77 .lookup]
    tagOf s 7 = some (tag77 .lookup) ∧ (parcelOf s 5).state ≠ .restoring ∧ (∀ x ∈ s.trav.tags, x.asn < 7 → x.state ≠ .lookup) ∧
    blockHeld s 16 = false ∧
    (∀ x ∈ s.trav.tags, x.asn ≠ 7 → x.parcel ≠ some 5) ∧ s.downs = [] ∧ s.trav.items = [] ∧ fcClass (parcelOf s 5) (extendCounter (parcelOf s 5) 101) = .new ∧
    fcClass (parcelOf s 5) (extendCounter (parcelOf s 5) 100) ≠ .new ∧ fcClass (parcelOf s 5) (extendCounter (parcelOf s 5) 36) = .new ∧
    fcClass (parcelOf s 5) (extendCounter (parcelOf s 5) 35) = .stale := by decide

/-- A unit with one page to write to the reserve and an item of work in queue 2. -/
def working : State := { unit with jrn := { unit.jrn with pages := [9] }, trav := { unit.trav with work := [(2, [{}]), (5, [{}])], imageUrgent := false } }

theorem wit_FramesAreAdmittedLookedUpAndJoined_work : working.jrn.pages = [9] ∧ working.jrn.reserve.length < ringPages working ∧ working.twin.role ≤ 1 ∧ entriesHeld working = false ∧ working.trav.items = [] ∧
    workOf working 2 = [{}] ∧ workOf working 5 = [{}] ∧ working.trav.imageUrgent = false ∧ (WorkItem.promoted {}) = false := by decide

/-- A profile of one channel, its first number 0. -/
def profile0 : List Int := [0, 1, 0, 0, 0, 0, 0, 0, 0, 0]

theorem wit_TagsGoThroughTheirStages : let s := metered [tag77 .joined]
    tagOf s 7 = some (tag77 .joined) ∧ (tag77 .joined).parcel = some 5 ∧ s.downs = [] ∧ (tag77 .joined).shadowOf = none ∧
    s.trav.items = [] ∧ blockHeld s 16 = false ∧ (parcelOf s 5).state ≠ .restoring ∧ servedOver s frame77 (parcelOf s 5) = true ∧
    headerTest (parcelOf s 5) frame77.sec = .ok [0, 1] ∧ (parcelOf s 5).keyInvalid = false ∧
    (∀ n ∈ [0, 1], (tabGet (tag77 .joined).keys n {}).role ≠ 0 ∧ slotUsable s (tabGet (tag77 .joined).keys n {}) = true) ∧
    authentic (parcelOf s 5) frame77.sec (([0, 1].map (fun n => tabGet (tag77 .joined).keys n {})).filterMap (slotKey s)) = true ∧
    frame77.sec.compressed = false ∧
    authentic (parcelOf s 5) { frame77.sec with macOk := false } (([0, 1].map (fun n => tabGet (tag77 .joined).keys n {})).filterMap (slotKey s)) = false :=
  ⟨rfl, rfl, rfl, rfl, rfl, rfl, by decide, rfl, rfl, rfl, by decide +kernel, by decide +kernel, rfl, by decide +kernel⟩

theorem wit_TagsGoThroughTheirStages_vee : let t : Tag := { tag77 .secured with normal := true }
    tagOf (metered [t]) 7 = some t ∧ t.normal = true ∧ (tag77 .secured).normal = false ∧
    (∀ x ∈ (metered [t]).trav.tags, x.parcel = some 5 → inDomain x = true → t.joinNo ≤ x.joinNo) := by decide

theorem wit_TagsGoThroughTheirStages_normal : ∃ rs un, normalise (clockConv (metered [tag77 .secured]) meter 0)
    ((profileIn (tag77 .secured).profiles meter.veeProfile).getD default) frame77.payload
    { arrival := 0, tq := 0, epStatus := 0, identity := 77, parcel := 5, generation := 3, veeProfile := 0 } = .ok (rs, un) := ⟨_, _, rfl⟩

theorem wit_TagsGoThroughTheirStages_commit : let s := metered [tag77 .ready]
    domainClear s 5 0 = true ∧ s.twin.role ≤ 1 ∧ (parcelOf s 5).state = .active ∧ fcClass (parcelOf s 5) 101 ≠ .stale ∧ s.trav.items = [] ∧
    commitRoom (192 + 64 * (tag77 .ready).records.length) s = true ∧ (tag77 .ready).shadowOf = none ∧
    covered s 0 = true ∧ (parcelOf s 5).campaign.ep ≠ 3 ∧ (∀ x ∈ s.trav.tags, x.parcel = some 5 → inDomain x = true → 0 ≤ x.joinNo) := by decide

theorem wit_TagsGoThroughTheirStages_engines : let s := metered [tag77 .committed]
    engineTurn s (tag77 .committed) (fun x => !x.regDone) = true ∧ (parcelOf s 5).state ≠ .restoring ∧ engineQueue s 1 = [] ∧
    (∀ x ∈ s.trav.tags, x.state = .committed → x.asn = 7) ∧ blockHeld s 16 = false := by decide

/-- A unit with one entry of the meter in the input queue of an engine. -/
def queuedUnit (k : Nat) : State := setEngine k [engineItem (tag77 .committed) 5] (metered [{ tag77 .committed with regDone := true, steelDone := true, archDone := true, sheetDone := true }])

theorem wit_TagsGoThroughTheirStages_queues : engineQueue (queuedUnit 1) 1 = [engineItem (tag77 .committed) 5] ∧
    engineQueue (queuedUnit 2) 2 = [engineItem (tag77 .committed) 5] ∧ (engineItem (tag77 .committed) 5).asn = 7 ∧
    (∀ k ∈ [1, 2], (parcelOf (queuedUnit k) 5).state ≠ .restoring ∧ blockHeld (queuedUnit k) 16 = false ∧ blockHeld (queuedUnit k) 17 = false ∧
      blockHeld (queuedUnit k) 13 = false ∧ ∀ y ∈ (queuedUnit k).trav.tags, y.state = .committed ∧ y.regDone = true ∧ y.steelDone = true ∧ y.archDone = true ∧ y.sheetDone = true) := by decide

/-- A unit with head end 1 (every order kind, sheets) in session 1, its group 1, a profile 0, a calendar 0, parcels 5 to 9 free, and the meter. -/
def ordered : State := withCad [(0x0201, [profile0]), (0x0702, [[1, 65535, 3, 0, 0, 0, 0, 0]]), (0x0704, [[1]])] { metered [] with
  hx := { unit.hx with sessions := [{ sid := 1, headend := 1, version := 2 }] },
  store := { (metered []).store with free := [(6, 10)], capacity := 10 },
  billing := { unit.billing with cals := [(0, { current := some {} })] } }

/-- An order 1 of a kind with this body, to group 1, as head end 1 sends it in session 1 under a signature of its key 0. -/
def orderWith (kind : Nat) (body : List U8) : HxOrder := { envelope := cborArray [cborBytes (cborKeyed [(1, cborInt kind), (2, cborInt 1),
  (3, cborInt 1), (4, cborInt 1), (5, cborInt 0), (6, cborInt 0), (7, body)]), cborBytes []] }

theorem orderComes_of {kind : Nat} {j : Bool} {f : State → Bool} {o : HxOrder} {s : State} (x : HxSession)
    (h : sessionOf s (envelopeOf o).sid = some x) (v : x.version ≠ 0)
    (c : countOk o s = true ∧ (envelopeOf o).malformed = false ∧ (envelopeOf o).kind = kind ∧ (envelopeOf o).badKey = false ∧ commitRoom 65536 s = true ∧
      orderRefusal kind (f s) (envelopeOf o) s = none ∧
      (repeatsOf s (envelopeOf o).headend).find? (fun r => r.orderId == (envelopeOf o).orderId) = none ∧
      orderLate j (envelopeOf o) s = none) : orderComes kind j f o s :=
  ⟨c.1, c.2.1, c.2.2.1, c.2.2.2.1, .inr (.inr c.2.2.2.2.1), ⟨x, h, v⟩, c.2.2.2.2.2.1, c.2.2.2.2.2.2.1, c.2.2.2.2.2.2.2⟩

/-- An ENROL of identity 1 without keys, and a RETIRE of the meter. -/
def enrolBytes : List U8 := cborKeyed [(1, cborInt 1), (2, cborInt 1), (3, cborInt 0), (4, cborInt 0), (5, cborInt 0), (7, cborInt 0), (8, cborArray [])]
def retireBytes : List U8 := cborKeyed [(1, cborInt 77), (2, cborInt 3)]

/-- The meter in another state, with these entries waiting in its domain. -/
def meterIs (p : Parcel) (l : List DomainItem) : State := { metered [] with
  store := { (metered []).store with parcels := [(5, p)] }, trav := { (metered []).trav with items := l }, epoch := { unit.epoch with current := 9 },
  hx := { unit.hx with ranges := [(3, 5, 0, 1000)] } }

theorem wit_ParcelsAreEnrolledKeyedRetiredAndReleased : orderComes 5 true (fun _ => true) (orderWith 5 enrolBytes) ordered ∧
    orderComes 6 true (fun _ => true) (orderWith 6 retireBytes) ordered :=
  ⟨orderComes_of { sid := 1, headend := 1, version := 2 } (by decide +kernel) (by decide) (by decide +kernel),
    orderComes_of { sid := 1, headend := 1, version := 2 } (by decide +kernel) (by decide) (by decide +kernel)⟩

theorem wit_ParcelsAreEnrolledKeyedRetiredAndReleased_enrol :
    ∃ b, readEnrol (envelopeOf (orderWith 5 enrolBytes)).body = some (some b) ∧ enrolRanges b ordered = true ∧
      enrolCheck (envelopeOf (orderWith 5 enrolBytes)).headend b ordered = none :=
  ⟨{ digest := hashOf enrolBytes / 2 ^ 128 }, by decide +kernel, by decide +kernel, by decide +kernel⟩

theorem wit_ParcelsAreEnrolledKeyedRetiredAndReleased_index : freeHead ordered = some 6 ∧ domainClear ordered 6 ordered.trav.nextJoin = true ∧
    domainClear { ordered with trav := { ordered.trav with items := [{ joinNo := 1, parcel := 6 }] } } 6 ordered.trav.nextJoin = false ∧
    readRetire (envelopeOf (orderWith 6 retireBytes)).body = some (some (77, meter.generation)) ∧
    ordered.store.parcels.find? (fun x => inUse x.2 && x.2.identity == 77) = some (5, meter) ∧ goesAway meter = false := by decide +kernel

/-- Entries that wait in the meter's domain: RETIRE, KEYLOAD of slot 0 and KEY_INVALID of slot 0. -/
def waitingEntries : List DomainItem := [{ joinNo := 1, parcel := 5, body := .retire 1 1 0 77 },
  { joinNo := 1, parcel := 5, body := .keyload 1 1 0 0 0 { role := 1, kekGen := 1, wrapped := wrapped9 } }, { joinNo := 1, parcel := 5, body := .order 0x84 1 0 0 0 [5, 3, 0, 0] }]

theorem wit_ParcelsAreEnrolledKeyedRetiredAndReleased_entries : ∀ x ∈ waitingEntries, let s := meterIs { meter with retireAccepted := true } [x]
    s.trav.items = [x] ∧ domainClear s x.parcel x.joinNo = true ∧ mayCommitMade s = true ∧ x.channel = none := by decide

theorem wit_ParcelsAreEnrolledKeyedRetiredAndReleased_release : let s := meterIs { meter with state := .retiring, retireJsn := 5 } []
    (parcelOf s 5).state = .retiring ∧ workComplete s (epochOfJsn s 5) = true ∧ domainClear s 5 s.trav.nextJoin = true ∧ mayCommitMade s = true := by decide

theorem wit_ParcelsAreEnrolledKeyedRetiredAndReleased_restore : let s := meterIs { meter with state := .restoring } []
    (parcelOf s 5).state = .restoring ∧ (∀ h ∈ s.trav.handlings, h.behind = none) ∧ (State.store { unit with store := { unit.store with rewrap := true } }).rewrap = true ∧
    KeySt.pkekPrev { unit.keys with pkekGen := 3, pkekPrev := 2 } ≠ KeySt.pkekGen { unit.keys with pkekGen := 3, pkekPrev := 2 } ∧ (State.store { unit with store := { unit.store with rebuild := [2] } }).rebuild = [2] := by decide

/-- A unit whose billing time is 10^18 ns, calendar 0 with both versions, a mark due and a sweep at its first slice. -/
def billed : State := { unit with
  billing := { unit.billing with time := 1000000000000000000, cals := [(0, { current := some {}, passive := some { activation := 5 } })],
                                 marks := [{ at_ := 7 }], sweeps := [{ jsn := 3, epoch := 1 }] },
  epoch := { unit.epoch with current := 4 }, store := { unit.store with capacity := 131072 } }

theorem wit_BillingEntriesAndCredits : (calOf billed 0).passive = some { activation := 5 } ∧ mayCommitMade billed = true ∧ 5 ≤ billed.billing.time ∧ commitRoom 192 billed = true ∧
    billed.billing.marks.filter (fun x => x.committed.isNone) = [{ at_ := 7 }] ∧ 7 ≤ billed.billing.time ∧
    billed.billing.sweeps.find? (fun x => x.jsn == 3) = some { jsn := 3, epoch := 1 } ∧ (1 : Int) + 2 + 0 ≤ billed.epoch.current ∧
    0 + 1 < sliceCount billed := by decide

theorem wit_BillingEntriesAndCredits_closure : (closureDue billed 0).isSome = true := by decide +kernel

/-- A profile whose one channel credits active energy import (target 1, NUNIT 1). -/
def creditProfile : List Int := [0, 1, 0, 0, 0, 0, 0, 0, 0, 0] ++ [1, 1, 1, 8, 0, 255, 0, 0, 1, 0, 1]

/-- The meter's committed tag with one record to credit. -/
def creditTag : Tag := { tag77 .committed with profiles := [creditProfile], records := [{ delta := 40, parcel := 5, channel := 0, quality := 0 }], prevs := [0] }

theorem wit_BillingEntriesAndCredits_credit : let s := metered [creditTag]
    tagOf s 7 = some creditTag ∧ creditTag.parcel = some 5 ∧ creditTag.state = .committed ∧ creditTag.regDone = false ∧
    (parcelOf s 5).state ≠ .restoring ∧ blockHeld s 16 = false ∧ creditTag.prevs = [0] ∧ (0 : Int) < 40 ∧
    engineTurn s creditTag (fun x => !x.regDone) = true ∧ (profileIn creditTag.profiles 0).isSome = true ∧
    boundFor s 1 (parcelOf s 5).calendar creditTag.asn = none ∧ s.billing.marks = [] ∧
    (((profileIn creditTag.profiles 0).map (·.channels)).bind (·[0]?)).map (·.target) = some 1 := by decide

/-- The instant of the pass of candidate set 4109 before the end of epoch 100000. -/
def passTime : Nat := passInstant unit 4109 (epochEnd unit 100000 - 1)

/-- A unit whose last sealed epoch is 100000, with the range of the epoch of `passTime` and a pass kept. -/
def sealed100000 : State := { unit with
  jrn := { unit.jrn with sealed := some (100000, 1000, 0), lastSeal := 5 }, hx := { unit.hx with ranges := [(epochAt unit passTime, 9, 0, 1000)] },
  steel := { unit.steel with passes := [{ set := 4, epoch := 0, instant := 1, rows := [{ parcel := 5 }] }] },
  epoch := { unit.epoch with current := 64 } }

theorem wit_SteelyardIntervalsAndPasses : let s := sealed100000
    lastSealed s = some (100000, 5) ∧ s.downs = [] ∧ blockHeld s 17 = false ∧ passDue s 4109 = some (epochAt unit passTime, passTime, 9) ∧
    s.steel.passes = [{ set := 4, epoch := 0, instant := 1, rows := [{ parcel := 5 }] }] ∧ (0 : Int) + 64 ≤ s.epoch.current := by decide +kernel

theorem wit_SteelyardIntervalsAndPasses_due : let s := { sealed100000 with steel := { unit.steel with nextK := some 5 } }
    lastSealed s = some (100000, 5) ∧ blockHeld s 17 = false ∧
    ((s.steel.nextK.getD (firstInterval s 100000)) + 1) * balI s + cadNum s 0x0304 0 * 1000000000 ≤ epochEnd s 100000 := by decide +kernel

theorem wit_SteelyardIntervalsAndPasses_apply : inUse (parcelOf (metered []) 5) = true ∧ (parcelOf (metered []) 5).generation = 3 := by decide

/-- A unit with an open segment, a sealed one being copied, chunks to program and a block being erased. -/
def flashed (pages : List SegPage) : State := { unit with flash := { unit.flash with
  segments := [{ serial := 1, block := 10 }, { serial := 2, block := 11, pages := pages, sealedAt := some 0 }], nextSerial := 3, waiting := [{}],
  erasing := [12] } }

/-- The same with the copy of segment 2 under way. -/
def copying (pages : List SegPage) : State := { flashed pages with flash := { (flashed pages).flash with job := some { victim := 2, target := 13 } } }

theorem wit_FlashIsWrittenReadAndReclaimed : (flashed []).flash.waiting ≠ [] ∧ openSeg (flashed []) = some { serial := 1, block := 10 } ∧
    (flashed []).flash.job = none ∧ (copying [{}, {}]).flash.job = some { victim := 2, target := 13 } ∧
    segOf (copying [{}, {}]) 2 = some { serial := 2, block := 11, pages := [{}, {}], sealedAt := some 0 } ∧
    (Segment.pages { pages := [{}, {}] }).filter (·.valid) = {} :: [{}] ∧ (Segment.pages { pages := [{}] }).filter (·.valid) = {} :: [] ∧
    (∀ x ∈ (copying [{}]).flash.segments, x.serial < (copying [{}]).flash.nextSerial) ∧ (flashed []).flash.erasing.contains 12 = true ∧
    (∀ g ∈ (flashed []).flash.segments, g.block ≠ 12) := by decide

theorem wit_FlashIsWrittenReadAndReclaimed_read : let s := withCad [(0x0403, [List.replicate 200 0])] (flashed [])
    cleanUnder s (List.replicate 16 (some 0)) (readSetOf s 1 11 5) = true ∧ cleanUnder s (List.replicate 16 none) (readSetOf s 1 11 5) = false ∧
    enginesIdle (metered []) = true ∧ imageNextOf (metered []) (metered []).flash.imageNext = some (5, meter) := by decide +kernel

theorem wit_FlashIsWrittenReadAndReclaimed_sweep : tabFind (metered []).store.parcels 5 = some meter ∧ inUse meter = true ∧
    archPending (metered []) 5 = false ∧ 65536 * ((metered []).epoch.current % 256).toNat ≤ 5 ∧
    5 < 65536 * ((metered []).epoch.current % 256).toNat + 65536 := by decide

/-! ### Power-line ports, radio ports and cells -/

/-- A unit whose power-line port 2 is this one and up, with the PSK master and its GMK loaded. -/
def plcUnit (p : PlcPort) : State := { unit with plc := { unit.plc with ports := [(2, { p with up := true })] },
                                                 keys := { unit.keys with vault := [(3, { key := 5 }), (6, { key := 6 })] } }

theorem wit_PlcReceptionAndZeroCrossings : let s := plcUnit { reasm := [{ src := 3 }] }
    s.downs = [] ∧ plcLive s 2 = true ∧ PlcFrame.pan {} = plcCfg s 2 4 ∧ PlcFrame.coherent { coherent := true } = true ∧ PlcFrame.coherent {} = false ∧
    PlcFrame.fcsOk { fcsOk := false } = false ∧ PlcFrame.fcsOk {} = true ∧ s.trav.bpLocal = false ∧ plcSecure s 2 { gmk := 6 } = true ∧ admitting s = true ∧
    (plcOf s 2).reasm = { src := 3 } :: [] ∧ (zcOf s 2).last = none ∧
    (zcOf { s with plc := { s.plc with zc := [(2, { last := some 0 })] } } 2).last = some 0 := by decide

theorem wit_PlcReceptionAndZeroCrossings_period : zcInRange 15384615 = true ∧ zcInRange 22222222 = true ∧ zcInRange 15384614 = false := by decide

/-- A port with endpoint 4 joined, a route to it, a fresh map and these frames to send. -/
def plcSending (q : List PlcTx) : State := plcUnit { joined := [(4, { eui := 9 })], routes := [(4, {})],
                                                     neighbours := [(4, { mapAt := some 0, stale := false })], queue := q }

/-- A downlink to endpoint 4. -/
def toFour : PlcTx := { down := { kind := 1, path := 1, port := 2, shortAddr := 4, length := 40 } }

theorem wit_PlcTransmissionJoiningAndKeys : let s := plcSending [toFour]
    s.downs = [] ∧ plcFree s 2 = true ∧ (plcOf s 2).queue.find? plcReady = some toFour ∧ (tabFind (plcOf s 2).joined toFour.down.shortAddr).isSome = true ∧
    tabFind (plcOf s 2).routes toFour.down.shortAddr = some {} ∧ mapFresh s 2 4 = true ∧ plcLive s 2 = true ∧
    8 ≤ cadNum s 0x0504 0 ∧ (plcOf s 2).routes ≠ [] ∧ tabWf (plcOf s 2).routes = true ∧ (plcOf s 2).inhibit = none ∧
    tabFind (plcOf s 2).routes 5 = none := by decide

/-- A route of cost 2 gives way to one of cost 1. -/
theorem wit_PlcTransmissionJoiningAndKeys_cost : let s := plcUnit { routes := [(4, { cost := 2 })] }
    plcLive s 2 = true ∧ 1 ≤ cadNum s 0x0504 0 ∧ (∀ x, tabFind (plcOf s 2).routes 4 = some x → 1 < x.cost) :=
  ⟨by decide, by decide, fun x h => by
    have : x = { cost := 2 } := by injection h with h; exact h.symm
    rw [this]; decide⟩

/-- A port whose unicast to endpoint 4, of some attempts, waits for its acknowledgement, with a route and a fresh map. -/
def retrying (k : Nat) : State := plcUnit { joined := [(4, { eui := 9 })], routes := [(4, {})], current := some { toFour with attempts := k },
                                            neighbours := [(4, { mapAt := some 0, stale := false })] }

theorem wit_PlcTransmissionJoiningAndKeys_retry : let s := retrying 4
    (plcOf s 2).current = some { toFour with attempts := 4 } ∧ (plcOf s 2).inhibit = none ∧ plcLive s 2 = true ∧ 4 < cadNum s 0x0506 0 ∧
    plcReady { toFour with attempts := 4 } = true ∧ (tabFind (plcOf s 2).joined 4).isSome = true ∧ tabFind (plcOf s 2).routes 4 = some {} ∧
    mapFresh s 2 4 = true ∧ cadNum (retrying 5) 0x0506 0 ≤ 5 := by decide

theorem wit_PlcTransmissionJoiningAndKeys_waits : let s := plcSending [{ toFour with tmSince := some 0 }]
    plcFree s 2 = true ∧ (plcOf s 2).queue = [{ toFour with tmSince := some 0 }] ∧ (tabFind (plcOf s 2).joined 4).isSome = true ∧
    (tabFind (plcOf s 2).routes 4).isSome = true ∧ toFour.routeSince = none ∧ (plcOf (plcUnit { inhibit := some 0 }) 2).inhibit = some 0 ∧
    (plcOf (plcSending [{ toFour with routeSince := some 0 }]) 2).queue.find? (fun x => x.routeSince.isSome) = some { toFour with routeSince := some 0 } ∧
    toFour.tries < cadNum s 0x0504 1 ∧ cadNum s 0x0504 1 ≤ 2 := by decide

theorem wit_PlcTransmissionJoiningAndKeys_joining : let s := plcSending []
    plcLive s 2 = true ∧ vaultKey s 3 = some { key := 5 } ∧ (plcOf s 2).joined.find? (fun e => e.2.eui == 8) = none ∧ (plcOf s 2).joined.length < 2000 ∧
    (plcOf s 2).joined ≠ [] ∧ tabWf (plcOf s 2).joined = true := by decide

theorem wit_PlcTransmissionJoiningAndKeys_psk : plcPsk 5 8 ≠ 7 := by decide +kernel

theorem wit_PlcTransmissionJoiningAndKeys_address : plcAddress (plcSending []) 2 = some 1 := by decide +kernel

/-- A port that is rekeying, with two endpoints, the second of which has confirmed or not. -/
def rekeying (b : Bool) : State := plcUnit { joined := [(4, { eui := 9 }), (5, { eui := 10, newKey := b })], rekey := some (77, 2, 0) }

theorem wit_PlcTransmissionJoiningAndKeys_rekey : (plcOf (rekeying true) 2).rekey = some (77, 2, 0) ∧
    tabFind (plcOf (rekeying true) 2).joined 4 = some { eui := 9 } ∧ tabWf (plcOf (rekeying true) 2).joined = true ∧
    (∀ e ∈ (plcOf (rekeying true) 2).joined, e.1 ≠ 4 → e.2.newKey = true) ∧
    (∃ e ∈ (plcOf (rekeying false) 2).joined, e.1 ≠ 4 ∧ e.2.newKey = false) := by decide

/-- A unit whose radio port 3 is this one and up, in a mode (0 SUN-FSK, 1 EN 13757-4), with a budget. -/
def radioUnit (mode : Int) (p : RadioPort) : State := withCad
  [(0x0510, [[], [], [], [1, mode, 0, 2, 0, 0, 0]]), (0x0511, [[2, 0, 0, 0, 0, 0, 0, 9, 50000, 1, 1, 4, 4]]), (0x0512, [[0, 1000000000, 3600000000]])]
  { unit with radio := { unit.radio with ports := [(3, { p with up := true })] } }

/-- A downlink to entry 0 of port 3, and the frame that carries it. -/
def toZero : Down := { kind := 3, path := 2, port := 3, entry := 0, length := 29, shortAddr := 7 }

/-- An endpoint of address 21 with a pending frame, awake or not. -/
def endpoint (b : Bool) : RadioEp := { address := 21, short := 7, sleepy := b, pending := [(toZero, 0)] }

theorem wit_RadioPortsReceiveAndTransmit : let s := radioUnit 1 { eps := [(0, endpoint true)], ack := some {} }
    s.downs = [] ∧ radioLive s 3 = true ∧ 100 ≤ RadioFrame.pulse { pulse := 100 } ∧ (radioOf s 3).edge = none ∧ RadioFrame.length { length := 255 } ≤ 255 ∧
    RadioFrame.modeOk {} = true ∧ radioCfg s 3 1 = 1 ∧ contentFits (radioCfg s 3 1 == 0) (.mbus 68 0 {}) = true ∧
    contentFits (radioCfg (radioUnit 0 {}) 3 1 == 0) (.datagram 4059 true {}) = true ∧ s.trav.bpLocal = false ∧ admitting s = true ∧ (epByAddress s 3 21).isSome = true ∧
    (radioOf s 3).ack = some {} ∧ (radioOf s 3).retired = false ∧ (radioOf s 3).eps ≠ [] ∧ tabWf (radioOf s 3).eps = true ∧
    (∃ e ∈ (radioOf s 3).eps, e.2.pending ≠ []) := by decide

theorem wit_RadioPortsReceiveAndTransmit_associate : radioLive (radioUnit 0 {}) 3 = true ∧ radioCfg (radioUnit 0 {}) 3 1 = 0 ∧
    (∀ m, m < 8 → epByAddress (radioUnit 0 {}) m 21 = none) ∧
    (radioOf (radioUnit 0 {}) 3).queue.length < 1024 := by decide

theorem wit_RadioPortsReceiveAndTransmit_free : epFree (radioUnit 0 {}) 3 = some 0 ∧ radioAddress (radioUnit 0 {}) 3 = some 1 := by
  refine ⟨?_, ?_⟩
  · rw [epFree, List.range_succ_eq_map, List.find?_cons_of_pos (by decide)]
  · rw [radioAddress, List.range_succ_eq_map, List.map_cons, List.find?_cons_of_pos (by decide)]

theorem tabFind_run (e : RadioEp) : ∀ (n a k : Nat), a ≤ k → k < a + n → tabFind ((List.range' a n).map (fun k => (k, e))) k = some e
  | 0, a, k, h, g => absurd g (by omega)
  | n + 1, a, k, h, g => by
    rw [List.range'_succ, List.map_cons, tabFind]
    split
    · rfl
    · rw [if_neg (by omega), tabFind_run e n (a + 1) k (by omega) (by omega)]

/-- A table with an entry at every number below `n` has no free number there. -/
theorem full_table (n : Nat) (e : RadioEp) :
    (List.range n).find? (fun k => (tabFind ((List.range' 0 n).map (fun k => (k, e))) k).isNone) = none := by
  rw [List.find?_eq_none]
  intro k hk
  rw [tabFind_run e n 0 k (Nat.zero_le k) (by simpa using hk)]
  simp

theorem epFree_radioUnit (l : Tab RadioEp) : epFree (radioUnit 0 { eps := l }) 3 = (List.range 10000).find? (fun k => (tabFind l k).isNone) := rfl

theorem wit_RadioPortsReceiveAndTransmit_full : ∃ l, epFree (radioUnit 0 { eps := l }) 3 = none :=
  ⟨_, (epFree_radioUnit _).trans (full_table 10000 {})⟩

theorem wit_RadioPortsReceiveAndTransmit_downlink : let s := fun b => radioUnit 0 { eps := [(0, { endpoint b with pending := [] })], inbox := [toZero] }
    ∀ b : Bool, (radioOf (s b) 3).inbox = toZero :: [] ∧ downEntry (s b) 3 toZero = some { endpoint b with pending := [] } ∧
      (s b).cad.draining.contains 0x0513 = false ∧ (endpoint b).sleepy = b ∧ [(toZero, 0)].length < 4 ∧
      radioUp (s b) 3 = true ∧ (endpoint b).oneWay = false ∧ toZero.kind ≠ 0 ∧ (radioOf (s b) 3).queue.length < 1024 := by decide

theorem wit_RadioPortsReceiveAndTransmit_transmit : let s := radioUnit 0 { queue := [{ down := toZero, entry := 0 }] }
    radioLive s 3 = true ∧ (radioOf s 3).current = none ∧ s.cad.draining.contains 0x0513 = false ∧
    (radioOf s 3).queue.find? (canStart s 3) = some { down := toZero, entry := 0 } ∧ 0 < cadNum s 0x0506 0 ∧ cadNum s 0x0506 0 ≤ 5 ∧
    (radioOf (radioUnit 0 { current := some { down := toZero } }) 3).current = some { down := toZero } := by decide

/-- A radio port with a frame to send and no budget. -/
def spent : State := withCad [(0x0511, [[0, 0, 0, 0, 0, 0, 0, 9, 50000, 1, 1, 4, 4]])]
  { unit with radio := { unit.radio with ports := [(3, { queue := [{ down := toZero, entry := 0 }] })] } }

theorem wit_RadioPortsReceiveAndTransmit_budget : (radioOf spent 3).queue = { down := toZero, entry := 0 } :: [] ∧
    bandBudget spent (txBand spent 3) < airtime spent 3 (frameLen spent 3 toZero) := by decide

theorem wit_RadioPortsReceiveAndTransmit_poll : let s := radioUnit 0 { eps := [(0, endpoint true)] }
    radioLive s 3 = true ∧ radioCfg s 3 1 = 0 ∧ tabFind (radioOf s 3).eps 0 = some (endpoint true) ∧ (endpoint true).pending = (toZero, 0) :: [] ∧
    (radioOf s 3).queue.any (fun x => x.polled && x.entry == 0) = false ∧
    (radioOf s 3).queue.length < 1024 := by decide

/-- A unit that listens, with cell 6 enabled (unit 44, PSK 33 loaded as version 2) in this state. -/
def cellUnit (x : ActCell) : State := withCad [(0x0602, [[6, 1, 0, 1, 44, 33]])]
  { unit with act := { unit.act with listening := true, cells := [(6, x)], psk := [(6, 2, some 33, 1)] } }

/-- A session of version 0x12 with credit, whose key upward is 17. -/
def session6 : ActSession := { number := 1, limit := 10, dlSlots := 4, up := 17 }

/-- A cell that is UP in that session. -/
def upCell : ActCell := { link := 2, current := some session6, heardAt := some 0 }

/-- A capsule of cell 6 and session 1 under key `key`. -/
def capsuleOf (t : CapType) (items : Nat) (body : List U8) (key : Nat) : Capsule :=
  { head := capHeader t 6 0x12 1 1 items 0 body.length, body := body, key := key }

/-- The HELLO of cell 6: nonce 5, lowest version 0x10, RX_MAX, DL_SLOTS, CELL_UID 44. -/
def hello6 (rxMax slots key : Nat) : Capsule :=
  capsuleOf .hello 0 (beBytes 32 5 ++ [0x10, 0] ++ beBytes 2 rxMax ++ beBytes 2 slots ++ zeros 2 ++ beBytes 8 44) key

theorem wit_CellSessionsCarryFramesAndDownlink : let s := cellUnit {}
    s.downs = [] ∧ (∀ r ∈ [1280, 9000], ∀ d ∈ [1, 1024], actReaches s (hello6 r d 0) = true ∧ capOk .hello (hello6 r d 0) = true ∧
      capCell (hello6 r d 0) = 6 ∧ helloUid (hello6 r d 0) = 44 ∧ helloMin (hello6 r d 0) ≤ min (capVersion (hello6 r d 0)) 0x12 ∧
      helloRxMax (hello6 r d 0) = r ∧ helloSlots (hello6 r d 0) = d) ∧
    cellEnabled s 6 = true ∧ (cellOf s 6).helloAt = none ∧ (cellPsk s 6).2 = some 33 ∧
    ((cellRow s 6).getD []).getD 4 0 = ((44 : Nat) : Int) := by decide +kernel

theorem wit_CellSessionsCarryFramesAndDownlink_forged :
    (cellPsk (cellUnit {}) 6).2.map (fun p => helloKey p 6 true) ≠ some (hello6 1280 1 0).key := by decide +kernel

/-- A FRAMES body: FIRST_FRAME and one item whose FRAME has 64 bytes, of a format. -/
def framesBody (first format : Nat) : List U8 :=
  beBytes 8 first ++ beBytes 2 96 ++ beBytes 1 format ++ zeros 1 ++ beBytes 2 64 ++ zeros 90

theorem wit_CellSessionsCarryFramesAndDownlink_frames : let s := cellUnit upCell
    let k := fun first format => capsuleOf .frames 1 (framesBody first format) 17
    (∀ first ∈ [9, 10], ∀ format ∈ [1, 3], capsuleFresh .frames (k first format) session6 s) ∧ beAt (framesBody 9 1) 0 8 < session6.limit ∧
    session6.limit ≤ beAt (framesBody 10 1) 0 8 ∧ (∃ f, frameItems (capItems (k 9 1)) ((k 9 1).body.drop 8) = [some f]) ∧
    (∃ f, frameItems (capItems (k 10 1)) ((k 10 1).body.drop 8) = [some f]) ∧
    frameItems (capItems (k 9 3)) ((k 9 3).body.drop 8) = [none] ∧ (cellOf s 6).endpoints.length < 8192 ∧ admitting s = true := by
  refine ⟨by unfold capsuleFresh; decide +kernel, by decide +kernel, by decide +kernel, ⟨{ rssi := 0 , hops := 0 }, by decide +kernel⟩,
    ⟨{ rssi := 0, hops := 0 }, by decide +kernel⟩, by decide +kernel, by decide, by decide⟩

theorem wit_CellSessionsCarryFramesAndDownlink_session : let s := cellUnit upCell
    let c := capsuleOf .confirm 1 (beBytes 4 1 ++ zeros 12) 17
    capsuleFresh .confirm c session6 s ∧ confirmEntries c = [(1, 0)] ∧
    (cellOf (cellUnit { upCell with sent := [{ session := 1, id := 1, down := { kind := 1 } }] }) 6).sent.find?
      (fun x => x.session == capSession c && x.id == 1) = some { session := 1, id := 1, down := { kind := 1 } } ∧
    capsuleFresh .beacon (capsuleOf .beacon 0 (zeros 24) 17) session6 s ∧ capsuleFresh .close (capsuleOf .close 0 (zeros 8) 17) session6 s := by
  unfold capsuleFresh; decide +kernel

theorem wit_CellSessionsCarryFramesAndDownlink_events : let s := cellUnit { upCell with queue := [{}] }
    let t := cellUnit { upCell with sent := [{ session := 1, id := 1, down := { kind := 1 } }] }
    (cellOf t 6).sent = { session := 1, id := 1, down := { kind := 1 } } :: [] ∧
    (cellOf (cellUnit { pending := some session6 }) 6).pending = some session6 ∧ (raisable s).head? = some 6 ∧ (cellOf s 6).current = some session6 ∧
    (cellOf s 6).queue = {} :: [] ∧ (cellOf s 6).link = 2 ∧
    ((cellOf s 6).sent.filter (fun e => e.session == session6.number)).length < session6.dlSlots ∧ actListening s = true ∧
    (cellOf s 6).heardAt = some 0 ∧ (cellOf s 6).grace = false ∧ s.act.grace = none ∧
    (cellOf (cellUnit { upCell with link := 3 }) 6).link = 3 ∧ (cellOf (cellUnit { upCell with link := 3 }) 6).current ≠ none ∧
    (State.act { unit with act := { unit.act with grace := some (5, 1) } }).grace = some (5, 1) := by decide

/-! ### Head-end Exchange, orders and campaigns -/

/-- The unit of `ordered` in DEPLOY, listening, its vault loaded, cell 6 configured, epoch 9 in progress and the sheet of epoch 3 held. -/
def exchange (x : HxSession) : State := withCad [(0x0201, [profile0]), (0x0602, [[6, 1, 0, 1, 44, 33]]), (0x0702, [[1, 65535, 11, 0, 0, 0, 0, 0]]), (0x0704, [[1]])] { ordered with
  hx := { ordered.hx with sessions := [x], listening := true, nextSid := 9, sheets := [{ epoch := 3, leaves := [{}] }], acks := [(1, 4)],
                          campaigns := [(2, { number := 2, members := [5], activateAt := 5 })] },
  keys := { ordered.keys with state := 3, q := 0, reservedEnd := 4096,
                              vault := [(0, { key := 5 }), (3, { role := 3, version := 1, key := 5 }), (10, { key := 77 }), (18, { key := 78 })] },
  epoch := { ordered.epoch with current := 9 },
  steel := { ordered.steel with topos := [{ nodes := [(3, {})] }] } }

/-- A session before OPEN, and one that has subscribed. -/
def fresh : HxSession := { sid := 1, headend := 1 }
def subscribed : HxSession := { sid := 1, headend := 1, version := 2, next := some 3, sent := some 4, window := [4] }

/-- A handshake of head end 1 with a PSK. -/
def offer (psk : Nat) : TlsOffer := { identity := beBytes 8 1, psk := psk }

theorem wit_HeadEndSessionsOpenAndEnd : let s := exchange fresh
    s.downs = [] ∧ s.hx.listening = true ∧ hxState s = true ∧ hxReaches s (offer 77) = true ∧ (headendRow s (beNat (offer 77).identity)).isSome = true ∧
    tlsOptionsOk (offer 77) = true ∧ headendPsk s (beNat (offer 77).identity) = some (offer 77).psk ∧ s.hx.sessions.length < 8 ∧
    headendPsk s (beNat (offer 78).identity) ≠ some (offer 78).psk ∧ tlsOptionsOk { offer 77 with certificate := true } = false ∧
    headendRow s 1 = some [1, 65535, 11, 0, 0, 0, 0, 0] ∧ (11 : Nat).testBit 3 = true ∧
    ({ s with hx := { s.hx with sessions := [] } }.hx.sessions.any (fun x => x.headend == 1)) = false ∧ sessionOf s 1 = some fresh ∧ fresh.version = 0 ∧
    sessionOf (exchange subscribed) 1 = some subscribed ∧ subscribed.version ≠ 0 := by decide

/-- An OPEN that offers these versions. -/
def openBytes (l : List Int) : List U8 := hxMessage 1 [(1, cborArray (l.map cborInt)), (2, cborInt 0)]

/-- A message that is read as one of a type whose map has a property. -/
theorem reads {b : List U8} {t : Nat} (P : CborMap → Bool)
    (h : (match hxRead b with | .ok (k, m) => k == t && P m | .error _ => false) = true) : ∃ m, hxRead b = .ok (t, m) ∧ P m = true := by
  revert h
  cases hxRead b with
  | error c => simp
  | ok x => intro h; simp only [Bool.and_eq_true, beq_iff_eq] at h; exact ⟨x.2, by rw [← h.1], h.2⟩

/-- A message that closes its session with a code. -/
theorem readFails {b : List U8} {c : U16} (h : (match hxRead b with | .ok _ => false | .error d => d == c) = true) : hxRead b = .error c := by
  revert h
  cases hxRead b with
  | error d => intro h; simp only [beq_iff_eq] at h; rw [h]
  | ok x => simp

theorem wit_HeadEndSessionsOpenAndEnd_open : (∃ m, hxRead (openBytes [3]) = .ok (1, m) ∧ (versionOf m == 0) = true) ∧
    (∃ m, hxRead (openBytes [1]) = .ok (1, m) ∧ (versionOf m == 1) = true) ∧ ∃ m, hxRead (openBytes [1, 2]) = .ok (1, m) ∧ (versionOf m == 2) = true :=
  ⟨reads _ (by decide +kernel), reads _ (by decide +kernel), reads _ (by decide +kernel)⟩

theorem wit_HeadEndSessionsOpenAndEnd_messages : (∃ m, hxRead (hxMessage 12 [(1, cborInt 5)]) = .ok (12, m) ∧ true = true) ∧
    (∃ m, hxRead (hxMessage 13 [(1, cborInt 5)]) = .ok (13, m) ∧ true = true) ∧ ∃ m, hxRead (hxMessage 14 [(1, cborInt 5)]) = .ok (14, m) ∧ true = true :=
  ⟨reads (fun _ => true) (by decide +kernel), reads (fun _ => true) (by decide +kernel), reads (fun _ => true) (by decide +kernel)⟩

theorem wit_HeadEndSessionsOpenAndEnd_malformed : hxRead [] = .error OC_HX_FORMAT ∧ hxRead (hxMessage 12 [(9, cborInt 5)]) = .error OC_UNKNOWN_TAG ∧
    hxRead (hxMessage 12 []) = .error OC_HX_FORMAT := ⟨readFails (by decide +kernel), readFails (by decide +kernel), readFails (by decide +kernel)⟩

theorem wit_HeadEndSessionsOpenAndEnd_full : let s := { exchange fresh with hx := { (exchange fresh).hx with sessions := List.replicate 8 fresh } }
    8 ≤ s.hx.sessions.length ∧ ∀ x ∈ s.hx.sessions, x.sid < s.hx.nextSid := by decide

theorem wit_SheetsAreDeliveredAndAcknowledged : let s := exchange subscribed
    s.downs = [] ∧ sessionOf s 1 = some subscribed ∧ oldestEpoch s ≤ 3 ∧ tabFind s.hx.acks subscribed.headend = some 4 ∧ oldestEpoch s ≤ 4 + 1 ∧
    2 < oldestEpoch s ∧ subscribed.sent = some 4 ∧ (∀ t, subscribed.through = some t → t ≤ 4) ∧ (4 : Int) < 5 ∧ subscribed.next = some 3 ∧
    standby s = false ∧ subscribed.window.length < hxFlow s 0 ∧ lowest ((sendable s).filter (fun k => decide (3 ≤ k))) = some 3 ∧
    s.hx.sheets.find? (fun z => z.epoch == 3) = some { epoch := 3, leaves := [{}] } ∧ hxFlow s 0 ≤ (List.replicate 8 (0 : Int)).length :=
  ⟨rfl, rfl, by decide, rfl, by decide, by decide, rfl, fun t h => (nomatch h), by decide, rfl, rfl, by decide, by decide, rfl, by decide⟩

theorem wit_SheetsAreDeliveredAndAcknowledged_messages :
    (∀ e, e = 2 ∨ e = 3 → ∃ m, hxRead (hxMessage 3 [(1, cborInt e)]) = .ok (3, m) ∧ (intKey m 1 == some e) = true) ∧
    (∃ m, hxRead (hxMessage 3 []) = .ok (3, m) ∧ (intKey m 1).isNone = true) ∧
    ∀ e, e = 4 ∨ e = 5 → ∃ m, hxRead (hxMessage 6 [(1, cborInt e)]) = .ok (6, m) ∧ (intKey m 1 == some e) = true := by
  refine ⟨?_, reads _ (by decide +kernel), ?_⟩ <;> intro e he <;> rcases he with rfl | rfl <;> exact reads _ (by decide +kernel)

/-- The unit with order 1 of a digest recorded, its answer given or not. -/
def recorded (w : Bool) (d : Nat) : State := { ordered with hx := { ordered.hx with repeats := [(1, [{ orderId := 1, waits := w, digest := d }])] } }

/-- An order RESYNC, and one of a head end under a NOT_AFTER. -/
def resync : HxOrder := orderWith 10 (cborKeyed [(1, cborInt 1)])
def resyncBy (h t : Int) : HxOrder := { envelope := cborArray [cborBytes (cborKeyed [(1, cborInt 10), (2, cborInt 1),
  (3, cborInt h), (4, cborInt 1), (5, cborInt 0), (6, cborInt t), (7, cborKeyed [(1, cborInt 1)])]), cborBytes []] }

theorem wit_OrdersAreCheckedBeforeTheirEffect : let e := envelopeOf resync
    orderParts (.twinResync resync) = some (10, (fun _ => false), (fun _ => true), resync, ofRow (readTwinCmd 1)) ∧ ordered.downs = [] ∧
    (∃ x, sessionOf ordered e.sid = some x ∧ x.version ≠ 0) :=
  ⟨rfl, rfl, { sid := 1, headend := 1, version := 2 }, by decide +kernel⟩

theorem wit_OrdersAreCheckedBeforeTheirEffect_row : let e := judged (ofRow (readTwinCmd 1)) resync
    forRow 10 (ofRow (readTwinCmd 1)) resync ∧ e = envelopeOf resync ∧ countOk resync ordered = true ∧ commitRoom 65536 ordered = true ∧
    orderRefusal 10 true (envelopeOf (resyncBy 2 0)) ordered = some OC_SIG ∧ orderRefusal 10 true e (recorded false e.digest) = none ∧
    (∀ w : Bool, (repeatsOf (recorded w e.digest) e.headend).find? (fun r => r.orderId == e.orderId) =
      some { orderId := 1, waits := w, digest := e.digest }) ∧
    (repeatsOf (recorded false (e.digest + 1)) e.headend).find? (fun r => r.orderId == e.orderId) = some { orderId := 1, digest := e.digest + 1 } ∧
    (repeatsOf ordered e.headend).find? (fun r => r.orderId == e.orderId) = none ∧
    orderLate true (envelopeOf (resyncBy 1 86400000000001)) ordered = some OC_HX_ORDER_EXPIRED := by
  unfold forRow; decide +kernel

theorem wit_OrdersAreCheckedBeforeTheirEffect_others : countOk { resync with count := 65 } ordered = false ∧ countOk { resync with count := 64 } ordered = true ∧
    (envelopeOf {}).malformed = true ∧ (envelopeOf (orderWith 12 (cborKeyed []))).malformed = false ∧
    orderKind (envelopeOf (orderWith 12 (cborKeyed []))).kind = false := by decide +kernel

theorem orderComes_exchange (kind : Nat) (j : Bool) (body : List U8)
    (c : countOk (orderWith kind body) (exchange subscribed) = true ∧ (envelopeOf (orderWith kind body)).malformed = false ∧
      (envelopeOf (orderWith kind body)).kind = kind ∧ (envelopeOf (orderWith kind body)).badKey = false ∧
      commitRoom 65536 (exchange subscribed) = true ∧
      orderRefusal kind true (envelopeOf (orderWith kind body)) (exchange subscribed) = none ∧
      (repeatsOf (exchange subscribed) (envelopeOf (orderWith kind body)).headend).find?
        (fun r => r.orderId == (envelopeOf (orderWith kind body)).orderId) = none ∧
      orderLate j (envelopeOf (orderWith kind body)) (exchange subscribed) = none)
    (h : sessionOf (exchange subscribed) (envelopeOf (orderWith kind body)).sid = some subscribed) :
    orderComes kind j (fun _ => true) (orderWith kind body) (exchange subscribed) := orderComes_of subscribed h (by decide) c

/-- An amendment that changes nothing, the first of the cadastre of serial 0, and one of another sequence. -/
def emptyAmendment (seq : Nat) : Amendment :=
  { bytes := leBytes 4 0x444E4D41 ++ leBytes 2 0x0100 ++ leBytes 2 0 ++ leBytes 8 0 ++ leBytes 4 seq ++ leBytes 4 0 }

/-- The bodies of an AMEND, a CALENDAR that cancels, a SNAPSHOT, an EXTRACT and a TOPOLOGY_ACCEPT. -/
def amendBody (seq : Nat) : List U8 := cborBytes (emptyAmendment seq).bytes
def cancelBody : List U8 := cborKeyed [(1, cborInt 0)]
def snapshotBody : List U8 := cborKeyed [(1, cborInt 2000000000), (2, cborInt 2)]
def extractBody : List U8 := cborKeyed [(1, cborInt 3), (2, cborArray [cborInt 0])]
def acceptBody : List U8 := cborKeyed [(1, cborInt 5), (2, cborInt 3), (3, cborInt 6), (4, cborInt 3)]

theorem wit_OrdersChangeCadastreCalendarsMarksAndTopology :
    (∀ n ∈ [1, 2], orderComes 1 true (fun _ => true) (orderWith 1 (amendBody n)) (exchange subscribed)) ∧
    orderComes 2 true (fun _ => true) (orderWith 2 cancelBody) (exchange subscribed) ∧
    orderComes 11 true (fun _ => true) (orderWith 11 snapshotBody) (exchange subscribed) ∧
    orderComes 8 false (fun _ => true) (orderWith 8 extractBody) (exchange subscribed) :=
  ⟨fun n h => by
      simp only [List.mem_cons, List.not_mem_nil, or_false] at h
      rcases h with rfl | rfl <;> exact orderComes_exchange 1 true _ (by decide +kernel) (by decide +kernel),
    orderComes_exchange 2 true _ (by decide +kernel) (by decide +kernel), orderComes_exchange 11 true _ (by decide +kernel) (by decide +kernel),
    orderComes_exchange 8 false _ (by decide +kernel) (by decide +kernel)⟩

theorem wit_OrdersChangeCadastreCalendarsMarksAndTopology_bodies : let s := exchange subscribed
    (∀ n ∈ [1, 2], readAmend (envelopeOf (orderWith 1 (amendBody n))).body = some (some (emptyAmendment n))) ∧
    readCalendar (envelopeOf (orderWith 2 cancelBody)).body = some (some (0, 0, none)) ∧ tabWf s.billing.cals = true := by decide +kernel

theorem wit_OrdersChangeCadastreCalendarsMarksAndTopology_marks : let s := exchange subscribed
    calendarCheck 0 0 none { s with billing := { s.billing with cals := [(0, { current := some {}, passive := some { activation := 2000000000 } })] } } = OC_OK ∧
    readSnapshot (envelopeOf (orderWith 11 snapshotBody)).body = some (some (2000000000, 2, 0, [])) ∧
    snapshotCheck { at_ := 2000000000, scope := 2, calendar := 0, identities := [] } s = OC_OK ∧
    readExtract (envelopeOf (orderWith 8 extractBody)).body = some (some (3, [0])) ∧ sessionOf s 1 = some subscribed ∧ [0].length ≤ 256 ∧
    (3 : Int) < s.epoch.current ∧ unsigned s 3 = false := by decide +kernel

theorem wit_OrdersChangeCadastreCalendarsMarksAndTopology_sheet :
    (exchange subscribed).hx.sheets.find? (fun z => z.epoch == 3) = some { epoch := 3, leaves := [{}] } ∧ (∀ k ∈ [0], k < [({} : Rec)].length) :=
  ⟨rfl, by decide⟩

theorem wit_OrdersChangeCadastreCalendarsMarksAndTopology_amend : let s := exchange subscribed
    amendCheck (emptyAmendment 1) s = .ok [] ∧ amendCheck (emptyAmendment 2) s = .error OC_AMEND_BASE := ⟨by rfl, by rfl⟩

/-- The unit with a proposal of node 3 for the meter. -/
def proposed : State := { exchange subscribed with store := { (exchange subscribed).store with
  parcels := [(5, { meter with theo := { proposal := 6, candidate := 3 } })] } }

theorem wit_OrdersChangeCadastreCalendarsMarksAndTopology_node :
    orderComes 9 true (fun _ => true) (orderWith 9 acceptBody) proposed ∧
    readTopology (envelopeOf (orderWith 9 acceptBody)).body = some (some (5, 3, 6, 3)) ∧ topologyCheck 5 3 6 3 proposed = OC_OK ∧
    domainClear proposed 5 proposed.trav.nextJoin = true ∧
    domainClear { proposed with trav := { proposed.trav with items := [{ joinNo := 1, parcel := 5 }] } } 5 proposed.trav.nextJoin = false :=
  ⟨orderComes_of subscribed (by decide +kernel) (by decide) (by decide +kernel), by decide +kernel, by decide +kernel, by decide +kernel, by decide +kernel⟩

/-- Keys 9, 9 of 32 bytes and 12, wrapped under the KTK 78. -/
def key9 : List U8 := beBytes 24 5673416787424767168389606970256818947553498654059234279978
def psk9 : List U8 := beBytes 40 236297485770089178916984600520366059595727004909281434636351797420800548201520056854838019173431
def key12 : List U8 := beBytes 24 918401358584775877164692354675468129800465499110487463781

/-- KEYLOAD bodies: the new PSK master of the power-line ports, a cell's PSK, a key of the meter, the erasure of the PSK master, a role that is
not defined, and the two that only have an ACTION. -/
def loadVault : List U8 := cborKeyed [(1, cborInt 0), (2, cborInt 0), (3, cborInt 3), (7, cborInt 2), (8, cborBytes key9)]
def loadCell : List U8 := cborKeyed [(1, cborInt 0), (2, cborInt 2), (4, cborInt 6), (7, cborInt 2), (8, cborBytes psk9)]
def loadParcel : List U8 := cborKeyed [(1, cborInt 0), (2, cborInt 1), (3, cborInt 1), (5, cborInt 77), (6, cborInt 3), (7, cborInt 2), (8, cborBytes key12)]
def eraseVault : List U8 := cborKeyed [(1, cborInt 1), (2, cborInt 0), (3, cborInt 3)]
def loadNowhere : List U8 := cborKeyed [(1, cborInt 0), (2, cborInt 0), (3, cborInt 9)]
def plain (action : Nat) : List U8 := cborKeyed [(1, cborInt action)]

theorem wit_KeyAndLifecycleOrdersTakeEffect : ∀ b ∈ [loadVault, loadCell, loadParcel, eraseVault, loadNowhere, plain 2, plain 3],
    orderComes 7 true (fun _ => true) (orderWith 7 b) (exchange subscribed) := by
  intro b hb
  have h : ∀ b ∈ [loadVault, loadCell, loadParcel, eraseVault, loadNowhere, plain 2, plain 3],
    (countOk (orderWith 7 b) (exchange subscribed) = true ∧ (envelopeOf (orderWith 7 b)).malformed = false ∧
      (envelopeOf (orderWith 7 b)).kind = 7 ∧ (envelopeOf (orderWith 7 b)).badKey = false ∧
      commitRoom 65536 (exchange subscribed) = true ∧
      orderRefusal 7 true (envelopeOf (orderWith 7 b)) (exchange subscribed) = none ∧
      (repeatsOf (exchange subscribed) (envelopeOf (orderWith 7 b)).headend).find?
        (fun r => r.orderId == (envelopeOf (orderWith 7 b)).orderId) = none ∧
      orderLate true (envelopeOf (orderWith 7 b)) (exchange subscribed) = none) ∧
    sessionOf (exchange subscribed) (envelopeOf (orderWith 7 b)).sid = some subscribed := by decide +kernel
  exact orderComes_exchange 7 true b (h b hb).1 (h b hb).2

theorem wit_KeyAndLifecycleOrdersTakeEffect_bodies : let s := exchange subscribed
    readKeyLoad (envelopeOf (orderWith 7 loadVault)).body = some (some (0, { role := 3, version := 2, octets := some key9 })) ∧
    readKeyLoad (envelopeOf (orderWith 7 loadCell)).body = some (some (0, { scope := 2, role := 0, index := 6, version := 2, octets := some psk9 })) ∧
    readKeyLoad (envelopeOf (orderWith 7 loadParcel)).body =
      some (some (0, { scope := 1, identity := 77, generation := 3, version := 2, octets := some key12 })) ∧
    readKeyErase (envelopeOf (orderWith 7 eraseVault)).body = some (some { role := 3, version := 0 }) ∧
    readKeyLoad (envelopeOf (orderWith 7 loadNowhere)).body = some (some (0, { role := 9, version := 0 })) ∧
    readKeyPlain 2 (envelopeOf (orderWith 7 (plain 2))).body = some (some ()) ∧
    readKeyPlain 3 (envelopeOf (orderWith 7 (plain 3))).body = some (some ()) ∧ roleSlot 3 0 = some 3 ∧
    orderKey false 1 key9 s = some 9 ∧ orderKey false 1 psk9 s = some 9 ∧
    keyCheck false false 1 { role := 3, version := 2, octets := some key9 } s = OC_OK ∧
    keyCheck false false 1 { scope := 2, role := 0, index := 6, version := 2, octets := some psk9 } s = OC_OK ∧
    keyParcel { scope := 1, identity := 77 } s = some (5, meter) ∧
    keyCheck false false 1 { scope := 1, identity := 77, generation := 3, version := 2, octets := some key12 } s = OC_OK ∧ tabWf s.keys.vault = true ∧
    keyCheck false true 1 { role := 3, version := 0 } s = OC_OK ∧ keyCheck false false 1 { role := 9, version := 0 } s = OC_KEY_ROLE ∧
    maintCheck true s = OC_OK ∧ maintCheck false { s with keys := { s.keys with maintenance := true } } = OC_OK ∧
    s.keys.q < s.keys.reservedEnd := by decide +kernel

/-- SIGNED of a CHANGE_STATE to RECOVERY for a UNIT, as CBOR. -/
def changeSigned (u : List U8) : List U8 := [0xA7, 1, 7, 2, 1, 3, 1, 4, 0x50] ++ u ++ [5, 0, 6, 0, 7, 0xA2, 1, 4, 9, 5]

/-- The envelope of `changeSigned`, with an empty signature. -/
def changeOrder (u : List U8) : HxOrder := { envelope := [0x82, 0x58, 35] ++ changeSigned u ++ [0x40] }

theorem changeSigned_read (u : List U8) (h : u.length = 16) : cborMapOf (changeSigned u) = some [(1, [7], .uint 7), (2, [1], .uint 1), (3, [1], .uint 1),
    (4, 0x50 :: u, .bytes u), (5, [0], .uint 0), (6, [0], .uint 0), (7, [0xA2, 1, 4, 9, 5], .map [(1, [4], .uint 4), (9, [5], .uint 5)])] := by
  match u, h with
  | [b0, b1, b2, b3, b4, b5, b6, b7, b8, b9, b10, b11, b12, b13, b14, b15], _ => rfl

theorem changeOrder_read (u : List U8) (h : u.length = 16) : cborOf (changeOrder u).envelope = some (.array [.bytes (changeSigned u), .bytes []]) := by
  match u, h with
  | [b0, b1, b2, b3, b4, b5, b6, b7, b8, b9, b10, b11, b12, b13, b14, b15], _ => rfl

theorem changeOrder_envelope (u : List U8) (h : u.length = 16) : envelopeOf (changeOrder u) =
    { sid := 1, kind := 7, orderId := 1, headend := 1, target := .unit (beNat u), digest := hashOf (changeSigned u), body := [0xA2, 1, 4, 9, 5], raw := (changeOrder u).envelope } := by
  unfold envelopeOf
  rw [changeOrder_read u h]
  simp only []
  rw [changeSigned_read u h]
  simp [natKey, keyValue, keyBytes, targetRead, Cbor.nat?, h, keysKnown, bodyKnown, bodyKeys, changeOrder, show sigLengthOk 0 0 = false by decide]

theorem change_comes (o : HxOrder) (n d : Nat) (b w : List U8) (c : countOk o (exchange subscribed) = true)
    (e : envelopeOf o = { sid := 1, kind := 7, orderId := 1, headend := 1, target := .unit n, digest := d, body := b, raw := w })
    (h : targetOk (exchange subscribed) (.unit n) = true) : orderComes 7 true (fun _ => true) o (exchange subscribed) := by
  have r : headendRow (exchange subscribed) 1 = some [1, 65535, 11, 0, 0, 0, 0, 0] := rfl
  unfold orderComes
  rw [e]
  refine ⟨c, rfl, rfl, rfl, ?_, ⟨subscribed, rfl, by decide⟩, ?_, rfl, ?_⟩
  · exact .inr (.inr (by decide))
  · simp only [orderRefusal, r, h]; decide
  · exact (show orderLate true { sid := 1, orderId := 1, headend := 1 } (exchange subscribed) = none by decide)

theorem wit_KeyAndLifecycleOrdersTakeEffect_change : let s := exchange subscribed
    ∃ o, orderComes 7 true (fun _ => true) o s ∧ readChange (envelopeOf o).body = some (some (5, [])) ∧ (envelopeOf o).target = .unit (unitOf s) ∧
      changeCheck false (envelopeOf o).headend 5 [] s = OC_OK := by
  have l : ((hashBytes (identityKey (exchange subscribed) 3)).take 16).length = 16 := by simp [hashBytes, beBytes, leBytes]
  have e := changeOrder_envelope _ l
  have h : targetOk (exchange subscribed) (.unit (unitOf (exchange subscribed))) = true := by simp [targetOk]
  refine ⟨changeOrder ((hashBytes (identityKey (exchange subscribed) 3)).take 16), change_comes _ _ _ _ _ rfl e h, ?_⟩
  rw [e]
  exact ⟨by decide, rfl, by decide⟩

/-- A START of campaign 1 for the meter from 3 s on, and a CANCEL of a campaign. -/
def startBody : List U8 := cborKeyed [(1, cborInt 0), (2, cborInt 1), (4, cborArray [cborInt 77]), (5, cborInt 1), (6, cborBytes [1]), (8, cborInt 64),
  (9, cborInt 3000000000), (10, cborInt 4000000000), (11, cborInt 0), (12, cborArray [cborInt 1, cborBytes [1], cborInt 0]),
  (13, cborArray [cborInt 1, cborBytes [2]])]
def stopBody (n : Int) : List U8 := cborKeyed [(1, cborInt 1), (2, cborInt n)]

/-- The body that `startBody` is read as. -/
def campaignOne : CampaignBody :=
  { method := 1, image := [1], group := some [77], start := 3000000000, deadline := 4000000000, doneCode := [1], failCode := [2] }

theorem wit_CampaignsMoveTheirMembers : let s := exchange subscribed
    orderComes 3 true (fun s => s.keys.state != 2) (orderWith 3 startBody) ordered ∧
    (∀ n, n = 2 ∨ n = 65535 → orderComes 3 true (fun s => s.keys.state != 2) (orderWith 3 (stopBody n)) s) :=
  ⟨orderComes_of { sid := 1, headend := 1, version := 2 } (by decide +kernel) (by decide) (by decide +kernel),
    fun n h => by rcases h with rfl | rfl <;> exact orderComes_of subscribed (by decide +kernel) (by decide) (by decide +kernel)⟩

theorem wit_CampaignsMoveTheirMembers_bodies : let s := exchange subscribed
    readCampaignStart (envelopeOf (orderWith 3 startBody)).body = some (some campaignOne) ∧ campaignCheck campaignOne ordered = none ∧
    campaignOne.supersede = false ∧ readCampaignCancel (envelopeOf (orderWith 3 (stopBody 2))).body = some (some 2) ∧
    readCampaignCancel (envelopeOf (orderWith 3 (stopBody 65535))).body = some (some 65535) ∧
    campaignOf s 2 = some { number := 2, members := [5], activateAt := 5 } ∧ tabWf s.hx.campaigns = true ∧ campaignOf s 65535 = none := by decide +kernel

/-- The unit with campaign 2 running, its one member the meter in a state, with the outcomes of these downlinks to judge. -/
def campaigning (ep attempts : Nat) (l : List (Down × U16)) : State := { exchange subscribed with
  hx := { (exchange subscribed).hx with
          campaigns := [(2, { number := 2, image := List.replicate 200 0, members := [5], activateAt := 5 })], ended := l },
  store := { (exchange subscribed).store with parcels := [(5, { meter with campaign := { campaign := 2, ep := ep, attempts := attempts } })] } }

theorem wit_CampaignsMoveTheirMembers_blocks : let d : Down := { kind := 1, parcel := 5 }
    let s := campaigning 2 1 [(d, OC_OK)]
    let c : Campaign := { number := 2, image := List.replicate 200 0, members := [5], activateAt := 5 }
    campaignOf (campaigning 1 0 []) (parcelOf (campaigning 1 0 []) 5).campaign.campaign = some c ∧ (parcelOf (campaigning 1 0 []) 5).campaign.ep = 1 ∧
    (inState (campaigning 1 0 []) c 2).length < c.maxParallel ∧ s.hx.ended = (d, OC_OK) :: [] ∧ campaignOf s (parcelOf s 5).campaign.campaign = some c ∧
    (parcelOf s 5).campaign.ep = 2 ∧ d.number = (parcelOf s 5).campaign.nextBlock ∧ 5 ∈ c.members ∧ d.number + 1 < blockCount c ∧
    (parcelOf (campaigning 2 5 []) 5).campaign.attempts ≤ c.retries ∧ c.retries < (parcelOf (campaigning 2 6 []) 5).campaign.attempts ∧
    c.activateAt ≠ 0 ∧ c.activated = false ∧ makesEntries s = true ∧ s.glob.ingest = true ∧
    domainClear (campaigning 1 0 []) 5 (campaigning 1 0 []).trav.nextJoin = true ∧ mayCommitMade (campaigning 1 0 []) = true := by decide +kernel

/-! ### Device update and the companion's images -/

/-- SHA-256 of one byte 0. -/
def zeroHash : Nat := 49846369543417741186729467304575255505141344055555831574636310663216789168157

/-- A part table: parts 1 to 7 of one byte each, at their pages, the first of a hash and the others of `zeroHash`. -/
def tableBytes (h : Nat) : List U8 := (List.range 7).flatMap (fun k =>
  (BitVec.ofNat 8 (k + 1) :: zeros 3) ++ leBytes 4 (4096 * (k + 1)) ++ leBytes 4 1 ++ leBytes 4 0 ++ beBytes 32 (if k = 0 then h else zeroHash) ++ zeros 16)

/-- SHA-256 of those part tables. -/
def tableHash : Nat := 111219358817162890096003396111078280197208736523303633801807530175739726825865
def otherHash : Nat := 59946677586461687930791556185374811460780730432494197682449611981953812358223

theorem test_part_hash : hashOf [0] = zeroHash := by decide +kernel

/-- The header of a manifest of those parts, with a signature of one HSS level: 28,673 bytes in all. -/
def headerBytes (h : Nat) : List U8 := asciiBytes "AKXM" ++ leBytes 2 0x0100 ++ leBytes 2 256 ++ leBytes 4 0x8000 ++ [0x10, 0x10, 0x3F, 7] ++ leBytes 4 28673 ++
  leBytes 4 2672 ++ leBytes 4 0 ++ leBytes 4 0 ++ zeros 24 ++ beBytes 32 h ++ zeros 168

/-- A manifest's header, signature and part table. -/
def headWith (th h : Nat) : ManifestHead := { bytes := headerBytes th ++ zeros 2672 ++ tableBytes h, signerOk := true }

/-- A manifest, and one whose first part has a hash that its byte does not have. -/
def headGood : ManifestHead := headWith tableHash zeroHash
def headOther : ManifestHead := headWith otherHash 0

/-- What a manifest's bytes have to be, beside the part table, and what binds them to the unit. -/
def headFits (m : ManifestHead) (s : State) : Prop :=
  (m.bytes.take 4 = asciiBytes "AKXM" ∧ mhAt m 6 2 = 256 ∧ mhReservedOk m = true ∧ m.bytes.length = headBytes m) ∧ mhAt m 5 1 = 1 ∧
  (mhAt m 8 4 = 0x8000 ∧ mhAt m 12 1 ≤ 0x10 ∧ 0x10 ≤ mhAt m 13 1) ∧ mhTotal m ≤ 58654720 ∧ (mhAt m 14 1).testBit (lifecycleCode s) = true ∧
  anySigLength (mhSigLength m) = true ∧ s.keys.floor ≤ mhAt m 24 4 ∧ max (fwSlot s 0).journalFloor (fwSlot s 1).journalFloor ≤ mhAt m 28 2

theorem manifestCheck_ok (m : ManifestHead) (s : State) (h : headFits m s) (g : m.signerOk = true) (p : partsOk m = true) :
    manifestCheck none m s = OC_OK := by
  obtain ⟨⟨a, b, c, d⟩, e, ⟨f, i, j⟩, k, l, n, o, q⟩ := h
  unfold manifestCheck
  rw [if_neg (by simp [a, b, c, d]), if_neg (by simp [e]), if_neg (by omega), if_neg (by omega), if_neg (by simp [l]), if_neg (by simp [g, n]),
    if_neg (by omega), if_neg (by omega), if_neg (by simp [p])]

theorem manifestCheck_order (m : ManifestHead) (s : State) (id : Nat) (h : s.upd.schedule = none) (g : (stagingSlot s).updateId ≠ id) :
    manifestCheck (some id) m s = manifestCheck none m s := by
  unfold manifestCheck
  simp only [h, g, Option.isSome_none, Bool.false_eq_true, false_and, and_false, if_false]

theorem manifestCheck_signer (m : ManifestHead) (s : State) (h : headFits m s) (g : m.signerOk = false) : manifestCheck none m s = OC_SIG := by
  obtain ⟨⟨a, b, c, d⟩, e, ⟨f, i, j⟩, k, l, n, o, q⟩ := h
  unfold manifestCheck
  rw [if_neg (by simp [a, b, c, d]), if_neg (by simp [e]), if_neg (by omega), if_neg (by omega), if_neg (by simp [l]), if_pos (by simp [g])]

/-- The parts of those manifests. -/
def partsOf (h : Nat) : List MPart := (List.range 7).map (fun k => { kind := k + 1, offset := 4096 * (k + 1), hash := if k = 0 then h else zeroHash })

theorem leBytes_length (n v : Nat) : (leBytes n v).length = n := by
  induction n generalizing v with
  | zero => rfl
  | succ n ih => rw [leBytes, List.length_cons, ih]

theorem beBytes_length (n v : Nat) : (beBytes n v).length = n := by rw [beBytes, List.length_reverse, leBytes_length]

theorem zeros_length (n : Nat) : (zeros n).length = n := List.length_replicate

theorem headerBytes_length (h : Nat) : (headerBytes h).length = 256 := by
  simp only [headerBytes, List.length_append, leBytes_length, beBytes_length, zeros_length, List.length_cons, List.length_nil,
    show (asciiBytes "AKXM").length = 4 by decide]

theorem tableBytes_length (h : Nat) : (tableBytes h).length = 448 := by
  simp only [tableBytes, List.length_flatMap, List.length_append, leBytes_length, beBytes_length, zeros_length, List.length_cons]
  rfl

theorem headWith_length (th h : Nat) : (headWith th h).bytes.length = 3376 := by
  simp only [headWith, List.length_append, headerBytes_length, tableBytes_length, zeros_length]

theorem headWith_drop (th h x : Nat) : (headWith th h).bytes.drop (2928 + x) = (tableBytes h).drop x := by
  have l : (headerBytes th ++ zeros 2672).length = 2928 := by simp only [List.length_append, headerBytes_length, zeros_length]
  rw [headWith, ← List.drop_drop, List.drop_left' l]

theorem headWith_at (th h x n : Nat) : mhAt (headWith th h) (2928 + x) n = leAt (tableBytes h) x n := by
  rw [mhAt, leAt, headWith_drop]; rfl

/-- The part that stands at an entry of a table. -/
def partAt (t : List U8) (k : Nat) : MPart :=
  { kind := leAt t (64 * k) 1, offset := leAt t (64 * k + 4) 4, length := leAt t (64 * k + 8) 4,
    version := leAt t (64 * k + 12) 4, hash := beAt t (64 * k + 16) 32 }

theorem headWith_part (th h k : Nat) (g : mhSigLength (headWith th h) = 2672) : mhPart (headWith th h) k = partAt (tableBytes h) k := by
  simp only [mhPart, partAt, g, Nat.add_assoc, show ∀ x, 256 + (2672 + x) = 2928 + x by omega, headWith_at, beAt, headWith_drop]

/-- The numbers of a header that the part table's rules use. -/
theorem headWith_numbers : ∀ x ∈ [(tableHash, zeroHash), (otherHash, 0)], mhSigLength (headWith x.1 x.2) = 2672 ∧ mhParts (headWith x.1 x.2) = 7 ∧
    mhTotal (headWith x.1 x.2) = 28673 ∧ headBytes { bytes := (headWith x.1 x.2).bytes.take 256 } = 3376 ∧
    ((headWith x.1 x.2).bytes.drop 56).take 32 = beBytes 32 x.1 := by decide +kernel

/-- The same of the table: its parts, its reserved bytes and its hash. -/
theorem tableBytes_parts : ∀ x ∈ [(tableHash, zeroHash), (otherHash, 0)], (List.range 7).map (partAt (tableBytes x.2)) = partsOf x.2 ∧
    (List.range 7).all (fun k => leAt (tableBytes x.2) (64 * k + 1) 3 == 0 && ((tableBytes x.2).drop (64 * k + 48)).take 16 == zeros 16) = true ∧
    hashOf (tableBytes x.2) = x.1 := by decide +kernel

theorem heads_bytes (x : Nat × Nat) (h : x ∈ [(tableHash, zeroHash), (otherHash, 0)]) : mhPartList (headWith x.1 x.2) = partsOf x.2 ∧
    headBytes (headWith x.1 x.2) = 3376 ∧ mhTotal (headWith x.1 x.2) = 28673 ∧ headBytes { bytes := (headWith x.1 x.2).bytes.take 256 } = 3376 ∧
    partsOk (headWith x.1 x.2) = true := by
  obtain ⟨g, n, t, b, d⟩ := headWith_numbers x h
  obtain ⟨l, r, s⟩ := tableBytes_parts x h
  have hl : mhPartList (headWith x.1 x.2) = partsOf x.2 := by
    rw [mhPartList, n, show mhPart (headWith x.1 x.2) = partAt (tableBytes x.2) from funext (fun k => headWith_part _ _ k g), l]
  have hb : headBytes (headWith x.1 x.2) = 3376 := by rw [headBytes, g, n]
  have ht : mhTable (headWith x.1 x.2) = tableBytes x.2 := by
    have := headWith_drop x.1 x.2 0
    simp only [Nat.add_zero, List.drop_zero] at this
    rw [mhTable, g, n, this, List.take_of_length_le (Nat.le_of_eq (tableBytes_length _))]
  have hr : mhTableReserved (headWith x.1 x.2) = true := by
    simp only [mhTableReserved, n, g, Nat.add_assoc, show ∀ x, 256 + (2672 + x) = 2928 + x by omega, headWith_at, headWith_drop]; exact r
  refine ⟨hl, hb, t, b, ?_⟩
  unfold partsOk
  rw [hl, hb, t, n, ht, hr, d, hashBytes, s]
  simp only [List.mem_cons, List.not_mem_nil, or_false] at h
  rcases h with rfl | rfl <;> simp only [beq_self_eq_true, Bool.true_and] <;> decide +kernel

theorem good_mem : (tableHash, zeroHash) ∈ [(tableHash, zeroHash), (otherHash, 0)] := List.mem_cons_self ..
theorem other_mem : (otherHash, 0) ∈ [(tableHash, zeroHash), (otherHash, 0)] := List.mem_cons_of_mem _ (List.mem_cons_self ..)

theorem headGood_fits : headFits headGood unit := by unfold headFits; decide +kernel

theorem headOther_fits : headFits headOther unit := by unfold headFits; decide +kernel

/-- `headFits` depends on the state in its lifecycle, its security floor and its journal floors alone. -/
theorem headFits_state {m : ManifestHead} {s t : State} (h : headFits m s) (a : lifecycleCode t = lifecycleCode s) (b : t.keys.floor = s.keys.floor)
    (c : max (fwSlot t 0).journalFloor (fwSlot t 1).journalFloor = max (fwSlot s 0).journalFloor (fwSlot s 1).journalFloor) : headFits m t := by
  unfold headFits
  rw [a, b, c]
  exact h

/-- The unit of `ordered` with a staging slot. -/
def staging (x : Slot) : State := { ordered with upd := { ordered.upd with slots := [(1, x)] } }

/-- A staging slot that takes its payload, and one with a part whose hash the byte 1 does not have. -/
def slotOpen : Slot := { state := 1, updateId := 1, total := 100, nextOffset := 10 }
def slotPart : Slot := { slotOpen with parts := [{ offset := 10, length := 1, hash := 0 }] }

/-- MANIFEST bodies. -/
def beginBody (b : List U8) : List U8 := cborKeyed [(1, cborInt 0), (2, cborInt 7), (3, cborBytes b)]
def dataBody (off : Int) : List U8 := cborKeyed [(1, cborInt 1), (2, cborInt 1), (3, cborBytes [1]), (4, cborInt off)]
def scheduleBody : List U8 := cborKeyed [(1, cborInt 2), (2, cborInt 1), (5, cborInt 120000000000)]
def dropBody : List U8 := cborKeyed [(1, cborInt 3), (2, cborInt 1), (6, cborBool true)]
def statusBody : List U8 := cborKeyed [(1, cborInt 4)]

theorem wit_ManifestOrdersStageAndSchedule_begin : let s := staging slotOpen
    inPair s = false ∧ (∀ b ∈ [headGood.bytes, []], orderComes 4 false (fun _ => true) (orderWith 4 (beginBody b)) s) ∧
    orderComes 4 false (fun _ => true) (orderWith 4 statusBody) s :=
  ⟨rfl, fun b h => by
      simp only [List.mem_cons, List.not_mem_nil, or_false] at h
      rcases h with rfl | rfl <;> exact orderComes_of { sid := 1, headend := 1, version := 2 } (by decide +kernel) (by decide) (by decide +kernel),
    orderComes_of { sid := 1, headend := 1, version := 2 } (by decide +kernel) (by decide) (by decide +kernel)⟩

set_option synthInstance.maxSize 1024 in
theorem wit_ManifestOrdersStageAndSchedule_heads :
    readManifest 0 (envelopeOf (orderWith 4 (beginBody headGood.bytes))).body = some (some (0, 7, headGood.bytes, 0, 0, false)) ∧
    readManifest 0 (envelopeOf (orderWith 4 (beginBody []))).body = some (some (0, 7, [], 0, 0, false)) ∧
    readManifest 4 (envelopeOf (orderWith 4 statusBody)).body = some (some (4, 0, [], 0, 0, false)) ∧
    manifestCheck (some 7) {} (staging slotOpen) = OC_UPD_HEADER := by decide +kernel

theorem wit_ManifestOrdersStageAndSchedule_good : manifestCheck (some 7) headGood (staging slotOpen) = OC_OK :=
  (manifestCheck_order _ _ 7 rfl (by decide)).trans
    (manifestCheck_ok _ _ (headFits_state headGood_fits (by decide) (by decide) (by decide)) rfl (heads_bytes _ good_mem).2.2.2.2)

set_option synthInstance.maxSize 1024 in
theorem wit_ManifestOrdersStageAndSchedule_data : ∀ x ∈ [slotOpen, slotPart, { slotOpen with erased := false }],
    ∀ off, off = 10 ∨ off = 11 → orderComes 4 false (fun _ => true) (orderWith 4 (dataBody off)) (staging x) ∧
      readManifest 1 (envelopeOf (orderWith 4 (dataBody off))).body = some (some (1, 1, [1], off.toNat, 0, false)) := by
  intro x hx off ho
  simp only [List.mem_cons, List.not_mem_nil, or_false] at hx
  rcases ho with rfl | rfl <;> rcases hx with rfl | rfl | rfl <;>
    exact ⟨orderComes_of { sid := 1, headend := 1, version := 2 } (by decide +kernel) (by decide) (by decide +kernel), by decide +kernel⟩

theorem wit_ManifestOrdersStageAndSchedule : (stagingSlot (staging slotOpen)).state = 1 ∧ (stagingSlot (staging slotOpen)).updateId = 1 ∧
    (stagingSlot (staging slotOpen)).erased = true ∧ (stagingSlot (staging { slotOpen with erased := false })).erased = false ∧
    11 + 1 ≤ (stagingSlot (staging slotOpen)).total ∧ (stagingSlot (staging slotOpen)).nextOffset = 10 ∧ (stagingSlot (staging slotOpen)).parts = [] ∧
    (stagingSlot (staging slotPart)).parts = [{ offset := 10, length := 1, hash := 0 }] := by decide

theorem wit_ManifestOrdersStageAndSchedule_hash :
    hashOf (stagedBytes { stagingSlot (staging slotPart) with payload := (stagingSlot (staging slotPart)).payload ++ [(10, [1])] } 10 1) ≠ 0 := by
  decide +kernel

set_option synthInstance.maxSize 1024 in
theorem wit_ManifestOrdersStageAndSchedule_plan : let s := staging { state := 2, updateId := 1 }
    orderComes 4 true (fun _ => true) (orderWith 4 scheduleBody) s ∧
    readManifest 2 (envelopeOf (orderWith 4 scheduleBody)).body = some (some (2, 1, [], 0, 120000000000, false)) ∧
    (stagingSlot s).state = 2 ∧ (stagingSlot s).updateId = 1 ∧ s.upd.schedule ≠ some (1, 120000000000) ∧
    (stagingSlot s).lifecycleMask.testBit (lifecycleCode s) = true ∧ 120000000000 % epochLen s = 0 ∧ s.billing.time + 60000000000 ≤ 120000000000 :=
  ⟨orderComes_of { sid := 1, headend := 1, version := 2 } (by decide +kernel) (by decide) (by decide +kernel), by decide +kernel, rfl, rfl, by decide,
    by decide, by decide, by decide⟩

/-- The same with activation of update 1 scheduled. -/
def planned : State := { staging { state := 2, updateId := 1 } with upd := { (staging { state := 2, updateId := 1 }).upd with schedule := some (1, 120000000000) } }

set_option synthInstance.maxSize 1024 in
theorem wit_ManifestOrdersStageAndSchedule_cancel : orderComes 4 true (fun _ => true) (orderWith 4 dropBody) planned ∧
    readManifest 3 (envelopeOf (orderWith 4 dropBody)).body = some (some (3, 1, [], 0, 0, true)) ∧ planned.upd.activating = false ∧
    planned.upd.schedule = some (1, 120000000000) :=
  ⟨orderComes_of { sid := 1, headend := 1, version := 2 } (by decide +kernel) (by decide) (by decide +kernel), by decide +kernel, rfl, rfl⟩

/-- A unit on trial with slot 1, waiting for its standby, and with a state change accepted. -/
def onTrial : State := { staging { state := 3 } with
  upd := { (staging { state := 3 }).upd with trialAt := some 0, twinWait := some 0 }, keys := { ordered.keys with change := some { newState := 5 } } }

theorem wit_ActivationTrialsAndStateChangesReset : planned.twin.role = 0 ∧ planned.upd.deferredAt = none ∧
    activationReady { planned with glob := { planned.glob with tq := 1 } } = true ∧ activationReady { planned with glob := { planned.glob with tq := 2 } } = false ∧
    (State.twin { planned with twin := { planned.twin with role := 1 } }).role = 1 ∧ planned.upd.twinWait = none ∧ planned.upd.activating = false ∧
    onTrial.upd.trialAt = some 0 ∧ [0, 1].find? (fun n => (fwSlot onTrial n).state == 3) = some 1 ∧ onTrial.upd.twinWait = some 0 ∧
    onTrial.keys.change = some { newState := 5 } ∧ onTrial.downs = [] := by decide

theorem wit_ActivationTrialsAndStateChangesReset_fuses : ∀ st ∈ [0, 1, 2, 3, 4, 5, 6], let s := { unit with keys := { unit.keys with state := st } }
    s.downs = [] ∧ ((s.keys.state = 0 ∧ s.keys.fuseRoot = true) ∨ (s.keys.state = 1 ∨ s.keys.state = 5) ∨
      (s.keys.state = 2 ∨ s.keys.state = 3 ∨ s.keys.state = 4 ∨ s.keys.state = 6)) := by decide

/-- A device in RECOVERY, announcing or hearing a host, with a download or none, and slot 0 as given. -/
def recovering (announce : Bool) (d : Option Download) (x : Slot) : State := { unit with
  glob := { unit.glob with state := .recovery }, mbox := { unit.mbox with linkUp := true },
  upd := { unit.upd with announcing := announce, download := d, slots := [(0, x)] } }

/-- A DATA packet of MGMT with a payload at an offset. -/
def dataPacket (off : Nat) (l : List U8) : List U8 := recoveryPacket 0x10 5 off 0 l

theorem wit_RecoveryDownloadsAreAnsweredAndInstalled : (recovering true none {}).glob.state = .recovery ∧ (recovering true none {}).upd.announcing = true ∧
    (recovering true none {}).downs = [] ∧ (downloadOn 1 (recovering false (some { path := 0 }) {})).path ≠ 1 ∧
    (downloadOn 1 (recovering true none {})).path = 1 ∧ (downloadOn 1 (recovering true none {})).next = 0 ∧
    (downloadOn 1 (recovering true none {})).begun = false ∧ ((downloadOn 1 (recovering true none {})).start ++ [1]).length < 256 ∧
    (recovering false none {}).upd.announcing = false := by decide

set_option synthInstance.maxSize 1024 in
theorem wit_RecoveryDownloadsAreAnsweredAndInstalled_packets : (∀ off ∈ [0, 5], recoveryRead 1 (dataPacket off [1]) = some (0x10, 5, off, [1])) ∧
    recoveryRead 0 ([0x52, 0] ++ dataPacket 0 [1]) = some (0x10, 5, 0, [1]) ∧ recoveryRead 1 ([0x52, 0] ++ dataPacket 0 [1]) = none ∧
    recoveryRead 1 (recoveryPacket 0x20 6 0 0 []) = some (0x20, 6, 0, []) ∧ recoveryRead 1 (recoveryPacket 0x30 7 0 0 []) = some (0x30, 7, 0, []) ∧
    recoveryRead 1 (dataPacket 0 [1] ++ [0]) = none := by decide +kernel

/-- The state after all of a header but its last byte came, and the byte that ends it. -/
def headComing (l : List U8) : State := recovering false (some { path := 1, next := l.length - 1, start := l.take (l.length - 1) }) { state := 1 }

theorem headComing_fits (m : ManifestHead) (l : List U8) (h : headFits m unit) : headFits m (headComing l) := headFits_state h rfl rfl rfl

theorem headComing_download (l : List U8) : downloadOn 1 (headComing l) = { path := 1, next := l.length - 1, start := l.take (l.length - 1) } := rfl

theorem headGood_last : headGood.bytes.take 3375 ++ [0] = headGood.bytes := by
  have d : headGood.bytes.drop 3375 = [0] := by decide +kernel
  rw [← d, List.take_append_drop]

set_option synthInstance.maxSize 1024 in
theorem wit_RecoveryDownloadsAreAnsweredAndInstalled_head : let s := headComing headGood.bytes
    let d := downloadOn 1 s
    d.path = 1 ∧ d.next = 3375 ∧ d.begun = false ∧ recoveryRead 1 (dataPacket 3375 [0]) = some (0x10, 5, 3375, [0]) ∧
    ({ bytes := d.start ++ [0], signerOk := true } : ManifestHead) = headGood ∧ headGood.bytes.length = headBytes headGood ∧
    headBytes headGood < mhTotal headGood ∧ manifestCheck none headGood s = OC_OK ∧
    manifestCheck none { headGood with signerOk := false } s = OC_SIG := by
  obtain ⟨_, b, c, _⟩ := heads_bytes _ good_mem
  have b : headBytes headGood = 3376 := b
  have c : mhTotal headGood = 28673 := c
  have l : headGood.bytes.length = 3376 := headWith_length _ _
  have f := headComing_fits headGood headGood.bytes headGood_fits
  simp only [headComing_download, l]
  refine ⟨trivial, trivial, trivial, by decide +kernel, ?_, b.symm, by rw [b, c]; decide,
    manifestCheck_ok _ _ f rfl (heads_bytes _ good_mem).2.2.2.2, manifestCheck_signer _ _ f rfl⟩
  rw [headGood_last]
  rfl

set_option synthInstance.maxSize 1024 in
theorem wit_RecoveryDownloadsAreAnsweredAndInstalled_payload :
    let s := recovering false (some { path := 1, next := 10, begun := true }) { state := 1, nextOffset := 10, total := 12 }
    (downloadOn 1 s).path = 1 ∧ (downloadOn 1 s).next = 10 ∧ (downloadOn 1 s).begun = true ∧ (fwSlot s (downloadOn 1 s).slot).nextOffset = 10 ∧
    10 + [(1 : U8)].length < (fwSlot s (downloadOn 1 s).slot).total ∧ (fwSlot s (downloadOn 1 s).slot).parts = [] ∧
    recoveryRead 1 (dataPacket 10 [1]) = some (0x10, 5, 10, [1]) := by decide +kernel

theorem wit_RecoveryDownloadsAreAnsweredAndInstalled_end : let s := fun st => recovering false (some { path := 1 }) { state := st }
    (∀ st, (s st).upd.download = some { path := 1 } ∧ (fwSlot (s st) 0).state = st) ∧ (Download.path { path := 1 }) = 1 :=
  ⟨fun _ => ⟨rfl, rfl⟩, rfl⟩

/-- The device in RECOVERY with a companion attached and its manifest's length given; the companion area holds these bytes. -/
def companioned (g : Memory) : State := { recovering true none {} with
  clk := { unit.clk with pllLock := 0xFF }, cmp := g,
  upd := { (recovering true none {}).upd with manifestLen := 40000 } }

theorem wit_CompanionImagesAreCheckedAndInstalled : let s := companioned []
    Reaches (.fn0 0) 0x0A 0x048 s ∧ s.upd.cadastreLen = 0 ∧
    s.glob.state = .recovery ∧ s.clk.pllLock.getLsbD 1 = true ∧ s.upd.download = none ∧
    (companionCheck (companionHead true (imagesPosted [] s)) true (fwSlot s (recoverySlot s)) (hostPacket (imagesPosted [] s))).1 = OC_UPD_HEADER := by
  unfold Reaches; decide +kernel

/-- A device waiting for its images at boot source 0b10. -/
def waitingBoot : State := { companioned [] with
  glob := { unit.glob with state := .boot, startStep := 8, straps := 2 }, upd := { unit.upd with manifestLen := 10 } }

theorem wit_CompanionImagesAreCheckedAndInstalled_boot : let s := waitingBoot
    s.upd.cadastreLen = 0 ∧ s.glob.state = .boot ∧ s.glob.startStep = 8 ∧ bootSrc s = 2 ∧
    (companionCheck (companionHead true (imagesPosted [] s)) true {} (imagesPosted [] s)).1 = OC_UPD_HEADER := by decide +kernel

theorem wit_CompanionImagesAreCheckedAndInstalled_port : Reaches (.fn0 0) 0x0A 0x048 waitingBoot := by unfold Reaches; decide

/-- The companion area with a manifest's header, signature and part table at its start, and 0 elsewhere. -/
def postedHead (m : ManifestHead) : Memory := memWriteBytes [] 0 m.bytes

/-- The state that CMP_DOORBELL.GO meets there. -/
def headPosted (m : ManifestHead) : State := hostPacket (imagesPosted [] (companioned (postedHead m)))

theorem postedHead_read (m : ManifestHead) (l : m.bytes.length = 3376) (h : headBytes { bytes := m.bytes.take 256 } = 3376) (o : m.signerOk = true) :
    companionHead true (imagesPosted [] (companioned (postedHead m))) = m := by
  have a : postedBytes (imagesPosted [] (companioned (postedHead m))) 0 256 = m.bytes.take 256 :=
    memReadBytes_memWriteBytes m.bytes 0 256 (by omega) rfl
  have b : postedBytes (imagesPosted [] (companioned (postedHead m))) 0 3376 = m.bytes.take 3376 :=
    memReadBytes_memWriteBytes m.bytes 0 3376 (by omega) rfl
  unfold companionHead
  rw [a, h, show min (imagesPosted [] (companioned (postedHead m))).upd.manifestLen.toNat 3376 = 3376 from rfl, b, List.take_of_length_le (by omega), ← o]

theorem postedHead_payload (m : ManifestHead) (l : m.bytes.length = 3376) (n : Nat) : postedBytes (headPosted m) 3376 n = List.replicate n 0 :=
  memReadBytes_behind m.bytes 0 n 3376 (by omega)

theorem stagedBytes_zeros (x : Slot) (n a : Nat) (l : List U8) (hx : x.payload = [(0, l), (3376, List.replicate n 0)]) (hl : l.length = 3376)
    (h : 3376 ≤ a) (h2 : a + 1 ≤ 3376 + n) : stagedBytes x a 1 = [0] := by
  have e : max a 3376 = a := by omega
  have e3 : min 1 (n - (a - 3376)) = 1 := by omega
  have e2 : ¬ (3376 + n ≤ a ∨ a + 1 ≤ 3376) := by omega
  have e1 : 0 + l.length ≤ a ∨ a + 1 ≤ 0 := by omega
  simp only [stagedBytes, hx, List.flatMap_cons, List.flatMap_nil, List.append_nil, List.length_replicate, if_neg e2, if_pos e1, List.nil_append,
    List.drop_replicate, List.take_replicate, e]
  rw [show a + 1 - a = 1 by omega, e3]; rfl

theorem partDone_zeros (p : MPart) (x : Slot) (s : State) (n : Nat) (l : List U8) (hx : x.payload = [(0, l), (3376, List.replicate n 0)])
    (hn : l.length = 3376) (h : 3376 ≤ p.offset) (h2 : p.offset + 1 ≤ 3376 + n) (hl : p.length = 1) (hk : p.kind ≠ 8) :
    partDone p true x s = if zeroHash ≠ p.hash then (OC_UPD_PART_HASH, none, { x with state := 5 }) else (OC_OK, none, x) := by
  unfold partDone
  rw [hl, stagedBytes_zeros x n p.offset l hx hn h h2]
  simp only [test_part_hash, hk, false_and, if_false]

theorem partsDone_ok (l : List MPart) (x : Slot) (s : State) (h : ∀ p ∈ l, partDone p true x s = (OC_OK, none, x)) :
    l.foldl (fun (a : U16 × Option U16 × Slot) p => if a.1 ≠ OC_OK then a else partDone p true a.2.2 s) (OC_OK, none, x) = (OC_OK, none, x) := by
  induction l with
  | nil => rfl
  | cons p l ih => rw [List.foldl_cons, if_neg (by simp), h p (by simp)]; exact ih (fun q hq => h q (by simp [hq]))

theorem partsDone_first (p : MPart) (l : List MPart) (x : Slot) (a : U16 × Option U16 × Slot) (s : State) (e : partDone p true x s = a) (h : a.1 ≠ OC_OK) :
    (p :: l).foldl (fun (a : U16 × Option U16 × Slot) p => if a.1 ≠ OC_OK then a else partDone p true a.2.2 s) (OC_OK, none, x) = a := by
  rw [List.foldl_cons, if_neg (by simp), e]
  clear e
  induction l with
  | nil => rfl
  | cons p l ih => rw [List.foldl_cons, if_pos h]; exact ih

/-- What `slotProgram` makes of the payload 0 of a slot begun with a manifest of seven parts of one byte each. -/
theorem slotProgram_zeros (m : ManifestHead) (x : Slot) (s : State) (n : Nat) (hl : m.bytes.length = 3376) (hx : x.payload = [(0, m.bytes)])
    (ho : x.nextOffset = 3376) (hp : ∀ p ∈ x.parts, p.length = 1 ∧ p.kind ≠ 8 ∧ 3376 ≤ p.offset ∧ p.offset + 1 ≤ 3376 + n) :
    ((∀ p ∈ x.parts, p.hash = zeroHash) → (slotProgram (List.replicate n 0) true x s).1 = OC_OK) ∧
    (∀ p l, x.parts = p :: l → p.hash ≠ zeroHash → ∃ c y, slotProgram (List.replicate n 0) true x s = (OC_UPD_PART_HASH, c, y) ∧ y.state = 5) := by
  have d (p : MPart) (h : p ∈ x.parts) := partDone_zeros p
    { x with payload := x.payload ++ [(x.nextOffset, List.replicate n 0)], nextOffset := x.nextOffset + (List.replicate n (0 : U8)).length } s n m.bytes
    (by simp [hx, ho]) hl (hp p h).2.2.1 (hp p h).2.2.2 (hp p h).1 (hp p h).2.1
  refine ⟨fun h => ?_, fun p l e h => ?_⟩
  · unfold slotProgram
    simp only
    rw [partsDone_ok _ _ _ (fun p g => (d p (List.mem_filter.mp g).1).trans (if_neg (by simp [h p (List.mem_filter.mp g).1])))]
    rfl
  · have g : p ∈ x.parts := by simp [e]
    have k : x.nextOffset < p.offset + p.length ∧ p.offset + p.length ≤ x.nextOffset + (List.replicate n (0 : U8)).length := by
      have := hp p g; simp only [List.length_replicate]; omega
    have r := (d p g).trans (if_pos (Ne.symm h))
    unfold slotProgram
    simp only
    have f : x.parts.filter (fun q => decide (x.nextOffset < q.offset + q.length ∧
        q.offset + q.length ≤ x.nextOffset + (List.replicate n (0 : U8)).length)) = p :: l.filter (fun q => decide (x.nextOffset < q.offset + q.length ∧
        q.offset + q.length ≤ x.nextOffset + (List.replicate n (0 : U8)).length)) := by rw [e, List.filter_cons_of_pos (by simpa using k)]
    rw [f, partsDone_first p _ _ _ s r (show OC_UPD_PART_HASH ≠ OC_OK by decide),
      if_pos (show OC_UPD_PART_HASH ≠ OC_OK by decide)]
    exact ⟨_, _, rfl, rfl⟩

/-- The slot that a manifest of 3,376 bytes begins, and the payload that follows it. -/
theorem companionCheck_parts (m : ManifestHead) (l : m.bytes.length = 3376) (hb : headBytes m = 3376) (ht : mhTotal m = 28673)
    (c : manifestCheck none m (headPosted m) = OC_OK) (old : Slot) :
    companionCheck m true old (headPosted m) = ((slotProgram (List.replicate 25297 0) true { slotBegun 0 m old with erased := true } (headPosted m)).1,
      (slotProgram (List.replicate 25297 0) true { slotBegun 0 m old with erased := true } (headPosted m)).2.2) := by
  unfold companionCheck
  rw [if_neg (by rw [hb, ht, show (headPosted m).upd.manifestLen = 40000 from rfl]; decide)]
  simp only
  rw [c, if_neg (by simp)]
  unfold companionSlot
  rw [hb, ht, postedHead_payload m l]

/-- The parts that `slotProgram_zeros` asks for. -/
def smallParts (l : List MPart) : Prop := ∀ p ∈ l, p.length = 1 ∧ p.kind ≠ 8 ∧ 3376 ≤ p.offset ∧ p.offset + 1 ≤ 3376 + 25297

theorem companion_ok (m : ManifestHead) (l : m.bytes.length = 3376) (hb : headBytes m = 3376) (ht : mhTotal m = 28673)
    (c : manifestCheck none m (headPosted m) = OC_OK) (old : Slot) (hp : smallParts (mhPartList m)) (hh : ∀ p ∈ mhPartList m, p.hash = zeroHash) :
    ∃ y, companionCheck m true old (headPosted m) = (OC_OK, y) := by
  rw [companionCheck_parts m l hb ht c, (slotProgram_zeros m { slotBegun 0 m old with erased := true } (headPosted m) 25297 l rfl hb hp).1 hh]
  exact ⟨_, rfl⟩

theorem companion_failed (m : ManifestHead) (l : m.bytes.length = 3376) (hb : headBytes m = 3376) (ht : mhTotal m = 28673)
    (c : manifestCheck none m (headPosted m) = OC_OK) (old : Slot) (hp : smallParts (mhPartList m)) (p : MPart) (ps : List MPart)
    (e : mhPartList m = p :: ps) (hh : p.hash ≠ zeroHash) : ∃ y, companionCheck m true old (headPosted m) = (OC_UPD_PART_HASH, y) ∧ y.state = 5 := by
  obtain ⟨d, y, r, f⟩ := (slotProgram_zeros m { slotBegun 0 m old with erased := true } (headPosted m) 25297 l rfl hb hp).2 p ps e hh
  rw [companionCheck_parts m l hb ht c, r]
  exact ⟨y, rfl, f⟩

theorem headPosted_fits (m : ManifestHead) (h : headFits m unit) : headFits m (headPosted m) := headFits_state h rfl rfl rfl

theorem wit_CompanionImagesAreCheckedAndInstalled_whole : let s := companioned (postedHead headGood)
    companionHead true (imagesPosted [] s) = headGood ∧ ∃ y, companionCheck headGood true (fwSlot s (recoverySlot s)) (headPosted headGood) = (OC_OK, y) := by
  obtain ⟨pl, hb, ht, ht2, hk⟩ := heads_bytes _ good_mem
  have pl : mhPartList headGood = partsOf zeroHash := pl
  exact ⟨postedHead_read _ (headWith_length _ _) ht2 rfl, companion_ok headGood (headWith_length _ _) hb ht
    (manifestCheck_ok _ _ (headPosted_fits _ headGood_fits) rfl hk) _ (by rw [pl]; unfold smallParts; decide) (by rw [pl]; decide)⟩

theorem wit_CompanionImagesAreCheckedAndInstalled_part : let s := companioned (postedHead headOther)
    companionHead true (imagesPosted [] s) = headOther ∧
    ∃ y, companionCheck headOther true (fwSlot s (recoverySlot s)) (headPosted headOther) = (OC_UPD_PART_HASH, y) ∧ y.state = 5 := by
  obtain ⟨pl, hb, ht, ht2, hk⟩ := heads_bytes _ other_mem
  have pl : mhPartList headOther = partsOf 0 := pl
  exact ⟨postedHead_read _ (headWith_length _ _) ht2 rfl, companion_failed headOther (headWith_length _ _) hb ht
    (manifestCheck_ok _ _ (headPosted_fits _ headOther_fits) rfl hk) _ (by rw [pl]; unfold smallParts; decide) _ _ pl (by decide)⟩

/-! ### The twin -/

/-- A listed unit of a pair in a role, paired on lane 0 in session 1 under key 5, serving. -/
def twin (role : Nat) (f : TwinSt → TwinSt) : State := withCad [(0x0201, [profile0]), (0x0702, [[1, 65535, 3, 0, 0, 0, 0, 0]]), (0x0704, [[1]]), (0x0810, [[1, 1, 10, 5, 0, 77, 78]])] { ordered with
  keys := { ordered.keys with uid := 77, vault := [(27, { role := 10, key := 5 })] },
  twin := f { ordered.twin with role := role, toggling := true, peerAlive := true, link := { ordered.twin.link with paired := true, session := 1, lanes := 1, keyRx := 5 } } }

/-- The same with nothing more. -/
def joined (role : Nat) : State := twin role id

/-- A frame of a type with a LINK_SEQ and a body of `n` bytes, under key 5 in session 1. -/
def frameOf (type seq n : Nat) (body : List U8) : BlFrame := { head := blHead type n seq 0 1, body := body, key := 5 }

/-- The next frame of a type with this body. -/
def next (type : Nat) (body : List U8) : BlFrame := frameOf type 1 body.length body

theorem framePasses_twin (type seq n role : Nat) (body : List U8) (f : TwinSt → TwinSt) (h : ∀ t, (f t).link = t.link) (hs : seq = 1)
    (c : (frameOf type 1 n []).session = 1 ∧ (frameOf type 1 n []).type = type ∧ (frameOf type 1 n []).framed n = true ∧ (frameOf type 1 n []).seq = 1) :
    framePasses type n (frameOf type seq n body) (twin role f) := by
  subst hs
  refine ⟨⟨?_, ?_⟩, c.2.1, c.2.2.1, ?_⟩
  · rw [show (twin role f).twin.link = (joined role).twin.link from h _]; show (1 : BitVec 2).getLsbD 0 = true; decide
  · rw [show (twin role f).twin.link = (joined role).twin.link from h _]
    have e : (frameOf type 1 n body).session = 1 := c.1
    simp only [blAuthentic, e]; rfl
  · rw [show (twin role f).twin.link = (joined role).twin.link from h _]; exact c.2.2.2

theorem frameComes_twin (type n role : Nat) (body : List U8) (f : TwinSt → TwinSt) (h : ∀ t, (f t).link = t.link) (hn : body.length = n)
    (c : (frameOf type 1 n []).session = 1 ∧ (frameOf type 1 n []).type = type ∧ (frameOf type 1 n []).framed n = true ∧ (frameOf type 1 n []).seq = 1) :
    frameComes type (next type body) (twin role f) := by
  subst hn; exact framePasses_twin type 1 body.length role body f h rfl c

theorem wit_OnlyAuthenticFramesInOrderTakeEffect : frameRow (.blHeartbeat (next 2 [])) = some (next 2 [], some 2) ∧ ofFrameRow (next 2 []) (some 2) ∧
    (joined 1).downs = [] ∧ (joined 1).twin.link.lanes.getLsbD (next 2 []).lane = true ∧ blAuthentic { next 2 [] with key := 6 } (joined 1).twin.link = false ∧
    blAuthentic { next 2 [] with head := blHead 2 0 1 0 2 } (joined 1).twin.link = false ∧
    frameAuthentic (frameOf 2 2 0 []) (joined 1) ∧ (frameOf 2 2 0 []).seq ≠ (joined 1).twin.link.rxSeq + 1 ∧
    (frameOf 2 0 0 []).seq ≠ (joined 1).twin.link.rxSeq + 1 ∧ frameAuthentic (next 3 []) (joined 1) ∧
    frameRow (.blReservedFrame (next 3 [])) = some (next 3 [], none) ∧ ofFrameRow (next 3 []) none := by
  unfold ofFrameRow frameAuthentic; decide +kernel

/-- The next frame with other first bytes: a bad MAGIC, a bad VERSION. -/
def badMagic : BlFrame := { next 2 [] with head := beBytes 2 0x424D ++ (next 2 []).head.drop 2 }
def badVersion : BlFrame := { next 2 [] with head := beBytes 2 0x424C ++ [2] ++ (next 2 []).head.drop 3 }

theorem wit_OnlyAuthenticFramesInOrderTakeEffect_malformed : ∀ h ∈ [badMagic, badVersion], frameAuthentic h (joined 1) ∧ h.type = 2 ∧
    h.seq = (joined 1).twin.link.rxSeq + 1 ∧ (beAt h.head 0 2 ≠ 0x424C ∨ beAt h.head 2 1 ≠ 1) := by unfold frameAuthentic; decide +kernel

theorem wit_OnlyAuthenticFramesInOrderTakeEffect_next : frameComes 2 (next 2 []) (joined 1) := frameComes_twin 2 0 1 _ id (fun _ => rfl) rfl (by decide +kernel)

/-- A unit of a pair with a frame not yet acknowledged. -/
def sending : State := twin 1 (fun t => { t with link := { t.link with unacked := [{ seq := 1 }] } })

/-- A HELLO of another unit, sealed under a key. -/
def peerHello (uid : Nat) : BlHello := { uid := uid, unit := 5, role := 2, lifecycle := lifecycleCode (joined 1), nonce := 9 }
def sealedHello (uid key : Nat) : BlFrame := { head := blHead 1 88 7 0 0, body := helloBytes (peerHello uid), key := blHelloKey key }

/-- A unit of a pair that has sent its HELLO, on a lane, not yet paired. -/
def unpaired : State := twin 1 (fun t => { t with link := { t.link with paired := false, helloSent := true, nonce := 8 } })

theorem wit_BaselineLinkPairsAndRecovers : twinRun unpaired = true ∧ vaultKey unpaired 27 = some { role := 10, key := 5 } ∧ unpaired.twin.link.lanes.getLsbD 0 = true ∧
    (∀ uid ∈ [(77 : Nat), 78], (sealedHello uid 5).type = 1 ∧ (sealedHello uid 5).framed (sealedHello uid 5).body.length = true ∧
      helloRead (sealedHello uid 5).body = some (peerHello uid) ∧ (peerHello uid).lifecycle = lifecycleCode unpaired ∧ (peerHello uid).role ≠ 3) ∧
    roleOpen unpaired = false ∧ unpaired.twin.link.helloSent = true ∧ unpaired.twin.link.paired = false ∧ unpaired.keys.uid = 77 := by decide +kernel

theorem wit_BaselineLinkPairsAndRecovers_sealed : (sealedHello 78 5).key = blHelloKey (VaultKey.key { role := 10, key := 5 }) ∧
    (sealedHello 78 6).key ≠ blHelloKey (VaultKey.key { role := 10, key := 5 }) := by decide +kernel

theorem wit_BaselineLinkPairsAndRecovers_link : sending.twin.link.paired = true ∧ sending.twin.link.unacked ≠ [] ∧ (joined 1).twin.link.lanes ≠ 0 ∧
    (joined 1).twin.link.lanes.getLsbD 0 = true ∧ (joined 1).twin.link.lanes.getLsbD 1 = false ∧ twinRun (joined 1) = true := by decide

theorem wit_BaselineLinkPairsAndRecovers_close : frameComes 0x7F (next 0x7F [0, 1]) (joined 1) := frameComes_twin 0x7F 2 1 _ id (fun _ => rfl) rfl (by decide +kernel)

/-- A SHADOW of item 4 and ASN 7 with one byte of frame. -/
def shadowBody : List U8 := beBytes 8 4 ++ beBytes 8 7 ++ zeros 40 ++ beBytes 2 1 ++ zeros 6 ++ [1]

/-- A COMMIT of item 4 under a JSN. -/
def commitBody (jsn : Nat) : List U8 := beBytes 8 4 ++ beBytes 8 jsn ++ zeros 8

/-- A standby that holds an entry of item 4. -/
def following : State := twin 2 (fun t => { t with stream := [(4, .entry 4)], entries := [(4, { body := .lmsReserve [1, 0, 4096, 3] })] })

theorem wit_StandbyFollowsTheStream : frameComes 0x10 (next 0x10 shadowBody) (joined 2) ∧ frameComes 0x10 (next 0x10 shadowBody) (joined 3) ∧
    frameComes 0x12 (next 0x12 (commitBody 9)) following ∧ frameComes 0x12 (next 0x12 (commitBody 9)) (joined 3) :=
  ⟨frameComes_twin 0x10 65 2 _ id (fun _ => rfl) rfl (by decide +kernel), frameComes_twin 0x10 65 3 _ id (fun _ => rfl) rfl (by decide +kernel),
    frameComes_twin 0x12 24 2 _ _ (fun _ => rfl) rfl (by decide +kernel), frameComes_twin 0x12 24 3 _ id (fun _ => rfl) rfl (by decide +kernel)⟩

theorem wit_StandbyFollowsTheStream_bodies : shadowFramed shadowBody = true ∧ (joined 2).trav.staged.length < 8250000 ∧
    (joined 2).trav.stagedBytes + units64 1 + 64 ≤ 2147483648 ∧ (joined 2).twin.role = 2 ∧ following.twin.role = 2 ∧
    commitRead (commitBody 9) = [(4, 9, 0)] ∧ following.twin.stream.find? (fun e => e.1 == 4) = some (4, .entry 4) ∧ (9 : Nat) ≠ 0 ∧
    (joined 3).twin.role = 3 ∧ (joined 3).twin.caughtUp = false ∧ (joined 3).trav.staged = [] ∧ (joined 3).twin.commits = [] := by decide +kernel

/-- A joiner with 32 GiB, that has taken one record of the bulk copy. -/
def bulked : State := { twin 3 (fun t => { t with bulk := 1 }) with ecc := { (joined 3).ecc with dramGib := 32 } }

theorem wit_StandbyFollowsTheStream_bulk : (∀ n ∈ [(1 : Nat), 15], framePasses 0x30 (8192 * n) (frameOf 0x30 1 (8192 * n) []) bulked) ∧
    0 < capacityOf bulked.ecc.dramGib ∧ capacityOf bulked.ecc.dramGib ≤ capacityOf 32 ∧ bulked.twin.caughtUp = false ∧ bulked.twin.role = 3 := by
  unfold framePasses frameAuthentic; decide +kernel

/-- A BULK_DONE up to JSN 9 of these records and this hash. -/
def doneBody (n hash : Nat) : List U8 := beBytes 8 9 ++ beBytes 4 n ++ beBytes 32 hash

theorem wit_StandbyFollowsTheStream_done : (∀ n ∈ [(1 : Nat), 2], ∀ h ∈ [(3 : Nat), 4], frameComes 0x31 (next 0x31 (doneBody n h)) bulked ∧
      (doneBody n h).length = 44 ∧ (beAt (doneBody n h) 12 32 = (BulkEnd.hash { hash := 3 }) ↔ h = 3) ∧ (beAt (doneBody n h) 8 4 = bulked.twin.bulk ↔ n = 1)) ∧
    (∀ r ∈ (BulkEnd.free { hash := 3, free := [(5, 10)] }), r.2 ≤ capacityOf bulked.ecc.dramGib) ∧ bulked.trav.staged = [] ∧ bulked.twin.commits = [] := by
  unfold frameComes framePasses frameAuthentic; decide +kernel

/-- An LMS reservation as an entry, and the ENTRY of item 4 with it. -/
def reserveEntry : JEntry := { body := .lmsReserve [1, 0, 4096, 3] }
def entryBody : List U8 := beBytes 8 4 ++ entryBuilt reserveEntry

theorem wit_StandbyFollowsTheStream_keeps : standby (joined 2) = true ∧ (4 : Nat) < 2 ^ 64 ∧ frameComes 0x11 (next 0x11 entryBody) (joined 2) ∧
    frameComes 0x20 (next 0x20 [4, 0, 0, 0, 0, 0, 0, 0]) (joined 2) ∧ beAt [4, 0, 0, 0, 0, 0, 0, 0] 0 1 = 4 ∧ (joined 2).twin.reserveAsked = none := by
  unfold frameComes framePasses frameAuthentic; decide +kernel

theorem wit_StandbyFollowsTheStream_page : frameComes 0x13 (next 0x13 (zeros 65552)) (joined 2) ∧ (zeros 65552).length = 65552 := by
  have h : (zeros 65552).length = 65552 := List.length_replicate ..
  exact ⟨frameComes_twin 0x13 65552 2 _ id (fun _ => rfl) h (by decide +kernel), h⟩

/-- A KEY_SYNC of one slot. -/
def keyBytes (slot : Nat) : List U8 := beBytes 1 slot ++ beBytes 1 3 ++ beBytes 4 6 ++ beBytes 32 5

theorem wit_StandbyFollowsTheStream_keys : ∀ slot ∈ [(0 : Nat), 1, 27], frameComes 0x32 (next 0x32 (keyBytes slot)) (joined 2) ∧ (keyBytes slot).length = 38 ∧
    keySyncRead (keyBytes slot) = [(slot, { role := 3, version := 6, key := 5 })] ∧ slotPair slot = true := by
  unfold frameComes framePasses frameAuthentic; decide +kernel

/-- A unit of a pair with a recheck of epoch 3 under way, its own verdict given or not. -/
def rechecking (role : Nat) (own : Option Bool) : State := twin role (fun t => { t with resynced := true, rechecks := [{ epoch := 3, own := own }] })

/-- An EPOCH_RESULT of epoch 3 with a mask, and the peer's RECHECK of epoch 3 with its verdict. -/
def resultBody (mask : Nat) : List U8 := beBytes 8 3 ++ beBytes 1 mask ++ zeros 7
def verdictBody (fault : Bool) : List U8 := beBytes 8 3 ++ beBytes 1 fault.toNat ++ zeros 129

theorem wit_EpochsAreComparedAndRechecked : frameComes 0x14 (next 0x14 (zeros 160)) (joined 2) ∧ (joined 2).twin.role = 2 ∧ mixed (joined 2) = false ∧
    (zeros 160).length = 160 ∧ digestMask (digestsOf (joined 2) (epochEndRead (zeros 160)).epoch) (epochEndRead (zeros 128 ++ beBytes 32 1)).digests ≠ 0 ∧
    (∀ mask ∈ [(0 : Nat), 1], frameComes 0x15 (next 0x15 (resultBody mask)) (rechecking 1 none) ∧ beAt (resultBody mask) 8 1 = mask ∧
      beSigned (resultBody mask) 0 8 = 3 ∧ (resultBody mask).length = 16) ∧
    mixed (rechecking 1 none) = false ∧ (rechecking 1 none).twin.role = 1 ∧
    (rechecking 1 none).twin.resynced = true ∧ (rechecking 1 none).twin.rechecks = [{ epoch := 3 }] ∧ (rechecking 1 none).twin.link.lanes ≠ 0 ∧
    (rechecking 2 (some true)).twin.rechecks = [{ epoch := 3, own := some true }] := by
  unfold frameComes framePasses frameAuthentic; decide +kernel

theorem wit_EpochsAreComparedAndRechecked_frames : ∀ fault : Bool, ∀ s ∈ [rechecking 1 none, rechecking 1 (some true), rechecking 1 (some false), rechecking 2 (some true)],
    frameComes 0x40 (next 0x40 (verdictBody fault)) s ∧ (verdictBody fault).length = 138 ∧ beSigned (verdictBody fault) 0 8 = 3 ∧
      fault = (beAt (verdictBody fault) 8 1 == 1) := by
  unfold frameComes framePasses frameAuthentic; decide +kernel

/-- A unit that waits out its arbitration, one that has backed off, one whose takeover comes at device time 0. -/
def waitingRole : State := { twin 0 (fun t => { t with arb := .waiting 0 }) with glob := { (joined 0).glob with straps := 4 } }
def backedOff : State := twin 1 (fun t => { t with arb := .backoff 7, holdAt := some 5 })
def takingOver (role : Nat) (yielding : Bool) : State :=
  twin role (fun t => { t with takeover := some { cause := 2, yielding := yielding }, roleOut := true })

theorem wit_RolesAreArbitratedAndTakenOver : aliveHeld (joined 1).glob.state = false ∧ (joined 1).twin.yielded = false ∧ (joined 1).twin.toggling = true ∧
    (State.twin (twin 3 (fun t => { t with yielded := true }))).yielded = true ∧ (joined 1).twin.peerAlive = true ∧ waitingRole.twin.arb = .waiting 0 ∧
    waitingRole.twin.takeover = none ∧ sp2 waitingRole = 1 ∧ backedOff.twin.arb = .backoff 7 ∧ peerActive backedOff = false ∧
    backedOff.twin.holdAt = some 5 ∧ shadowing backedOff = true ∧ mayTakeOver (joined 2) = true ∧ serving (joined 2) = true ∧
    (takingOver 2 false).twin.roleOut = true ∧ (takingOver 2 false).twin.arb = .none ∧
    (takingOver 2 false).twin.takeover = some { cause := 2 } ∧ (takingOver 1 true).twin.takeover = some { cause := 2, yielding := true } ∧
    (takingOver 1 true).upd.activating = false := by decide

theorem wit_RolesAreArbitratedAndTakenOver_instant : ∀ s ∈ [takingOver 2 false, takingOver 1 true],
    0 < epochEnd (elapseDev 0 (saying [] s)) (elapseDev 0 (saying [] s)).epoch.current := by decide

theorem wit_RolesAreArbitratedAndTakenOver_frames : frameComes 0x42 (next 0x42 [0x80, 1]) (joined 2) ∧ ocIsFault (BitVec.ofNat 16 (beAt [0x80, 1] 0 2)) = true ∧
    ocIsFault (BitVec.ofNat 16 (beAt [0x7F, 1] 0 2)) = true ∧ frameComes 0x41 (next 0x41 (zeros 8 ++ [4])) (joined 2) := by
  unfold frameComes framePasses frameAuthentic; decide +kernel

/-- A unit whose start waits for its role. -/
def startingRole : State := { waitingRole with glob := { waitingRole.glob with state := .starting, startStep := 14 } }

theorem wit_RolesAreArbitratedAndTakenOver_open : startingRole.twin.arb = .waiting 0 ∧ roleOpen startingRole = true := by decide

/-- The body of a TWIN_CMD, and its order. -/
def twinBody (a : Nat) : List U8 := cborKeyed [(1, cborInt a)]
def twinOrder (a : Nat) : HxOrder := orderWith 10 (twinBody a)

theorem orderComes_twin : orderComes 10 true (fun _ => true) (twinOrder 0) (twin 1 (fun t => { t with resynced := true })) ∧
    orderComes 10 false (fun _ => true) (twinOrder 1) (twin 1 (fun t => { t with detached := true })) ∧
    orderComes 10 false (fun _ => true) (twinOrder 2) (joined 1) ∧
    (∀ a ∈ [(2 : Nat), 3], orderComes 10 false (fun _ => true) (twinOrder a) (joined 0)) ∧
    orderComes 10 false (fun _ => true) (twinOrder 1) (joined 2) := by
  refine ⟨orderComes_of { sid := 1, headend := 1, version := 2 } ?_ ?_ ?_, orderComes_of { sid := 1, headend := 1, version := 2 } ?_ ?_ ?_,
    orderComes_of { sid := 1, headend := 1, version := 2 } ?_ ?_ ?_, fun a h => ?_, orderComes_of { sid := 1, headend := 1, version := 2 } ?_ ?_ ?_⟩
  rotate_left 9
  · simp only [List.mem_cons, List.not_mem_nil, or_false] at h
    obtain rfl | rfl := h
    · exact orderComes_of { sid := 1, headend := 1, version := 2 } (by decide +kernel) (by decide) (by decide +kernel)
    · exact orderComes_of { sid := 1, headend := 1, version := 2 } (by decide +kernel) (by decide) (by decide +kernel)
  all_goals decide +kernel

theorem wit_TwinOrdersAreHandledByTheActive : let s := twin 1 (fun t => { t with resynced := true })
    s.twin.role = 1 ∧ s.twin.link.paired = true ∧ s.twin.takeover = none ∧ s.twin.resynced = true ∧ s.twin.detached = false ∧ s.twin.detachOrder = false ∧
    (State.twin (twin 1 (fun t => { t with detached := true }))).detached = true ∧ (joined 0).twin.role = 0 ∧ standby (joined 2) = true ∧
    (joined 2).twin.link.lanes ≠ 0 := by decide

theorem wit_TwinOrdersAreHandledByTheActive_bodies : ∀ a ∈ [(0 : Nat), 1, 2, 3], readTwinCmd a (envelopeOf (twinOrder a)).body = some (some a) := by decide +kernel

/-- A standby that has relayed order 1 of head end 1 and waits for its answer. -/
def relaying : State := { twin 2 (fun t => { t with relayed := [(1, 1)] }) with hx := { ordered.hx with repeats := [(1, [{ orderId := 1, waits := true, sid := 1 }])] } }

theorem wit_TwinOrdersAreHandledByTheActive_frames : (∀ a ∈ [(2 : Nat), 3], frameComes 0x60 (next 0x60 (twinOrder a).envelope) (joined 1) ∧
      (relayedOrder (next 0x60 (twinOrder a).envelope)).malformed = false ∧ (relayedOrder (next 0x60 (twinOrder a).envelope)).kind = 10 ∧
      ((cborMapOf (relayedOrder (next 0x60 (twinOrder a).envelope)).body).bind (fun m => natKey m 1)) = some a) ∧
    frameComes 0x50 (next 0x50 (zeros 64)) (joined 1) ∧ (zeros 64).length = 64 := by
  unfold frameComes framePasses frameAuthentic; decide +kernel

theorem wit_TwinOrdersAreHandledByTheActive_answer : frameComes 0x61 (next 0x61 [0, 0]) relaying ∧ standby relaying = true ∧
    relaying.twin.relayed = (1, 1) :: [] ∧
    (repeatsOf relaying 1).find? (fun r => r.orderId == 1 && r.waits) = some { orderId := 1, waits := true, sid := 1 } ∧ (sessionOf relaying 1).isSome = true :=
  ⟨frameComes_twin 0x61 2 2 _ (fun t => { t with relayed := [(1, 1)] }) (fun _ => rfl) rfl (by decide +kernel), rfl, rfl, rfl, rfl⟩

/-! ### Memory, field books, panel and power -/

/-- A unit whose patrol scrub stands at a line, with a record of block 3 open, a freeze and the panel's lead temperature known. -/
def patrolling (line : Nat) : State := withCad [(0x0930, [[1, 0, 5]])] { unit with
  ecc := { unit.ecc with scrubbing := true, dramGib := 32, scrubLine := line, poisoned := [7] }, fb := { unit.fb with blocks := [(3, { opened := some ({}, 4) })], freeze := some {} },
  panel := { unit.panel with accKnown := true } }

/-- The same with a waveform in progress, or waiting in the cold. -/
def waving : State := { patrolling 0 with panel := { (patrolling 0).panel with run := some {} } }
def waitingCold : State := { patrolling 0 with panel := { (patrolling 0).panel with cold := true } }

theorem wit_ScrubberFieldBooksAndPanelRun : (patrolling 0).ecc.scrubPaused = false ∧ (patrolling 0).ecc.scrubbing = true ∧ (patrolling 0).downs = [] ∧
    0 + 1 < dramLines (patrolling 0) ∧ dramLines (patrolling 536870911) ≤ (patrolling 536870911).ecc.scrubLine + 1 ∧
    (patrolling 0).ecc.late = false ∧ (tabGet (patrolling 0).fb.blocks 3 {}).opened = some ({}, 4) ∧
    (patrolling 0).fb.freeze = some {} ∧ cadNum (patrolling 0) 0x0930 0 ≠ 0 ∧ (patrolling 0).panel.run = none ∧ (patrolling 0).power.lastGasp = false ∧
    targetImage none (patrolling 0) ≠ (patrolling 0).panel.shown ∧ (patrolling 0).panel.balancePending = false ∧
    -150 ≤ (-150 : Int) + 10 * cadInt (patrolling 0) 0x0930 0 1 ∧ (-151 : Int) + 10 * cadInt waitingCold 0x0930 0 1 < -150 ∧
    waving.panel.run = some {} ∧ waitingCold.panel.cold = true ∧ waitingCold.panel.run = none ∧ waitingCold.power.lastGasp = false ∧ cadNum waitingCold 0x0930 0 ≠ 0 := by decide

theorem wit_ScrubberFieldBooksAndPanelRun_lines : (let v := fun l x => lineVerdict (markedDevice (patrolling l) l (LineRead.rank x)) (readErrors (patrolling l) l x)
    v 0 {} = .clean ∧ v 536870911 {} = .clean ∧ v 0 { flips := [(0, 0)] } = .corrected [(0, 1)] ∧ v 7 {} = .poisoned ∧
      v 0 { other := some 1 } = .uncorrectable) ∧
    (LineRead.flips {}) = [] ∧ (LineRead.other {}) = none := by decide +kernel

/-- A unit in LAST_GASP at a step of its flush. -/
def gasping (n : Nat) : State := withCad [(0x0932, [[9000]])] { unit with power := { unit.power with lastGasp := true, lgStep := n, thermalAt := some 5 } }

/-- A unit whose detector runs: threshold 9,000 mV, slope 200 mV in 100 us, dwell 50 us. -/
def guarded (window : List Nat) (low : Option Nat) : State := withCad [(0x0932, [[9000, 2000, 50]])]
  { unit with power := { unit.power with armed := true, window := window, lowSince := low } }

theorem wit_PowerFailsAndTemperatureTrips_trip :
    let past := List.replicate 9 9000 ++ [9200, 9300]
    (guarded past none).power.armed = true ∧ (guarded past none).power.lastGasp = false ∧ 8999 < cadNum (guarded past none) 0x0932 0 ∧
    4 * 6749 < 3 * cadNum (guarded past none) 0x0932 0 ∧ (guarded past none).power.window[9]? = some 9200 ∧
    cadNum (guarded past none) 0x0932 1 < 10 * (9200 - 8999) ∧ 10 * (9200 - 9000) ≤ cadNum (guarded past none) 0x0932 1 ∧
    (let s : State := { guarded past (some 60000) with mono := 100000 }
     s.power.lowSince.getD (s.mono + 10000) + cadNum s 0x0932 2 * 1000 ≤ s.mono + 10000) := by decide

theorem wit_PowerFailsAndTemperatureTrips_none :
    let s : State := { guarded [9000] (some 60001) with mono := 100000 }
    s.downs = [] ∧ unit.power.armed = false ∧ cadNum s 0x0932 0 ≤ 9000 ∧ 3 * cadNum s 0x0932 0 ≤ 4 * 6750 ∧
    (∀ o, s.power.window[9]? = some o → 10 * (o - 6750) ≤ cadNum s 0x0932 1) ∧
    s.mono + 10000 < s.power.lowSince.getD (s.mono + 10000) + cadNum s 0x0932 2 * 1000 := by
  refine ⟨by decide, by decide, by decide, by decide, ?_, by decide⟩
  intro o h
  have h' : ((guarded [9000] (some 60001)).power.window[9]?) = none := by decide
  simp [h'] at h

theorem wit_PowerFailsAndTemperatureTrips : (gasping 3).power.lastGasp = true ∧ (gasping 3).power.lgCut = false ∧ (gasping 3).power.lgStep = 3 ∧
    (gasping 7).power.lgStep = 7 ∧ cadNum (gasping 7) 0x0932 0 + 50 < 9051 ∧ (gasping 3).downs = [] ∧ unit.power.lastGasp = false ∧ standby ordered = false ∧
    (∃ x ∈ ordered.hx.sessions, x.version ≠ 0) ∧ ordered.glob.state ≠ .slowHold ∧ unit.power.tempHigh = false ∧
    (State.power { unit with power := { unit.power with tempHigh := true } }).tempHigh = true ∧ (gasping 3).power.thermalAt = some 5 := by decide

/-! ### Operands: one ill-formed command for each check of `Instr.wf`, which the check refuses -/

theorem smoke_access_without_bytes : Instr.wf (.unmappedAccess .firmware 0 0) = false := by decide
theorem smoke_access_of_nine_bytes : Instr.wf (.secureAccessDenied .firmware 0 9) = false := by decide
theorem smoke_misaligned_of_nine_bytes : Instr.wf (.misalignedAccess .firmware 0 9) = false := by decide
theorem smoke_gated_without_bytes : Instr.wf (.gatedBlockAccess .firmware 0 0) = false := by decide
theorem smoke_doorbell_beyond_bar2 : Instr.wf (.cmpDoorbellGo (.fn0 0) [(268435456, [0])] default default default {}) = false := by decide
theorem smoke_tail_write_beyond_bar2 : ∀ v n, Instr.wf (.dmaTailWrite (.fn0 0) v [(268435455, [0, 0])] n) = false := fun _ _ => rfl
theorem smoke_dma_run_beyond_bar2 : ∀ a b, Instr.wf (.dmaRun a b [(268435456, [0])]) = false := fun _ _ => rfl
theorem smoke_keyload_beyond_bar4 : Instr.wf (.mboxKeyload 0 [(65536, [0])]) = false := by decide
theorem smoke_service_on_outbound_channel : Instr.wf (.mboxPing 16) = false ∧ Instr.wf (.mboxStatus 36) = false ∧ Instr.wf (.mboxQuote 31) = false ∧
    Instr.wf (.mboxEventFeed 39) = false ∧ Instr.wf (.mboxUndefinedService 16) = false := by decide
theorem smoke_withdraw_on_inbound_channel : Instr.wf (.mboxOutboundWithdraw 0) = false := by decide
theorem smoke_capture_on_word_queue : ∀ l, Instr.wf (.streamCapture 7 l) = false := fun _ => rfl
theorem smoke_lifecycle_state_seven : Instr.wf (.jtagLifecycleTransition 7 true) = false := by decide
theorem smoke_fifth_port : Instr.wf (.ethLinkChange 5 true) = false := by decide

/-! ### One step each, its expected result read from the spec -/

/-- The fields of the state that a command at the front of the queue leads to. -/
def after {α : Type} (i : Instr) (s : State) (f : State → α) : Option α := match step { s with pending := [i] } with
  | .next t => some (f t)
  | _ => none

/-- 01 R32: EPOCH_LO reads the low half of the epoch number and latches the high one. -/
theorem test_epoch_latch : after (.epochLoRead .firmware) { unit with epoch := { unit.epoch with current := 0x700000009 } } (fun t => (t.out, t.glob.epochHi)) =
    some ([.rdata 9], 7) := by decide

/-- 01 R29: an access outside every block ends in a bus error and sets no LAST_OUTCOME. -/
theorem test_unmapped : after (.unmappedAccess .firmware 0x00FFF000 4) unit (fun t => (t.outcomes, t.out)) = some ([], [.busError OC_FAULT]) := by decide

/-- 04 R90: the meter's counter 100 takes 101 and refuses 100 again. -/
theorem test_counter_class : fcClass meter 101 = .new ∧ fcClass meter 100 ≠ .new := by decide

/-- 18 R412: HOURS advances by one each 225 s of the device, that is 1/16 h. -/
theorem test_hours : after .hoursTick unit (fun t => (t.fb.hours, t.mono)) = some (1, 225000000000) := by decide

/-- 15 R342: the only lane lost for 1 ms takes the link down. -/
theorem test_lane_loss : after (.blLaneLockLoss 0) (joined 1) (fun t => (t.twin.link.lanes, t.twin.link.paired)) = some (0, false) := by decide

/-- 20 R439: a rail low outside LAST_GASP is a C4 fault. -/
theorem test_rail_low : after (.railLow 2) unit (fun t => t.trav.c4) = some (some OC_RAIL_LOW) := by decide

/-- 17 R383: a read of CH_LOCK on an EMPTY channel makes it LOCKED and the reader's. -/
theorem test_lock : after (.chLockRead (.fn0 0) 0) attached (fun t => ((chOf t 0).state, (chOf t 0).owner)) = some (.locked, stampOf (.fn0 0)) := by decide

/-- 12 R285: an order whose signer differs is refused with OC_SIG, and no entry is made. -/
theorem test_sig : after (.twinResync { sigKey := 7 }) ordered (fun t => t.jrn.lastJsn) = some 0 := by decide

/-- 14 Table 14.3: JTAG may scrap a device in MANUFACTURE, which resets. -/
theorem test_scrap : after (.jtagLifecycleTransition 6 true) unit (fun t => (t.keys.state, t.glob.state)) = some (6, .reset) := by decide +kernel

/-! ### The worked examples of the spec, and the vectors of the algorithms it names -/

/-- 16 R358, its example: the counter wrapped between anchor and stamp. -/
theorem test_stamp_example : extendStamp { unit with bench := { unit.bench with anchors := [(5, 1800000004000000000, 0xFFF00000)] } } 5 0x00100000 =
    1800000004002097152 := by decide

/-- 01 R24, its example: L = 750 ms puts the frame into epoch 2,400,000,000. -/
theorem test_epoch_example : epochAt (withCad [(0x0010, [[3]])] unit) 1800000000123456789 = 2400000000 := by decide

/-- 08 R186, its example: the coded differences are 2, 1, -1, 2, 0, -3 and 2. -/
theorem test_grain_example : grainCodes 500 41207350 0 0
    [41208580, 41210060, 41210970, 41213030, 41214775, 41215415, 41216715, 41218270] = [2, 1, -1, 2, 0, -3, 2].map zigzag := by decide

/-- 05 R131, R132, its example: the channel of the water meter. -/
def waterChannel : ChanDef :=
  { codeKind := 0, kind := 0, code := [], nunit := 1, estimate := true, target := 0, pos := 0, intervalS := 900,
    modulus := 100000000000, rangeMin := 0, rangeMax := 99999999999, spike := 3000000, gapS := 1200, flatCount := 0, unit := 1, scaler := 0, flatMinS := 0 }

/-- Its state after a reading of `v` at `h`:`m`, and a reading of `v` at that time of the day. -/
def waterAt (v : Int) (h m : Nat) : ChannelState := { lastValue := v, lastTime := (3600 * h + 60 * m) * 1000000000, flags := 1, defTag := defTag 0 0 [] 1 }
def waterRead (v : Int) (h m : Nat) : Rec := { value := v, sourceTime := (3600 * h + 60 * m) * 1000000000, nunit := 1 }

theorem test_vee_example : (let a := veeRecord waterChannel 0 (waterAt 99999650000 6 0) (waterRead 210000 6 15); (a.delta, a.quality) = (560000, 4)) ∧
    (let b := veeRecord waterChannel 0 (waterAt 210000 6 15) (waterRead 810000 7 15); (b.delta, b.quality) = (600000, 32) ∧
      (estimates (civilMultiples [(0, 0)] []) waterChannel (waterAt 210000 6 15) b).map (·.2) = [360000, 510000, 660000]) ∧
    (let c := veeRecord waterChannel 0 (waterAt 810000 7 15) (waterRead 790000 7 30); (c.delta, c.editReason) = (0, 5) ∧ hasQ 1 c = true ∧ hasQ 10 c = true) := by
  decide +kernel

/-- 19 R427, its example: 41,600 leaves 22,400, 3,200 and 200 after three refreshes. -/
theorem test_compensation_example : let a := fun (x : Int) => tabGet (State.panel (accCompensate 20 (20 * 64) { unit with panel := { unit.panel with acc := [(37, x)] } })).acc 37 0
    a 41600 = 22400 ∧ a 22400 = 3200 ∧ a 3200 = 200 := by decide

/-- 12 R277, its example: the inclusion path of leaf 2 of five. -/
theorem test_path_example (a b c d e : List U8) : mth [a, b, c, d, e] = nodeHash (nodeHash (nodeHash (mth [a]) (mth [b])) (nodeHash (mth [c]) (mth [d]))) (mth [e]) ∧
    pathFuel 5 2 [a, b, c, d, e] = [mth [d], nodeHash (mth [a]) (mth [b]), mth [e]] := by
  have h5 : splitAt2 5 = 4 := by decide
  have h4 : splitAt2 4 = 2 := by decide
  have h2 : splitAt2 2 = 1 := by decide
  simp [mth, mthFuel, pathFuel, h5, h4, h2]

/-- 18 R400 to R404: eight symbols of one device are corrected and named; what another line's content gives is not. -/
theorem test_line_code : lineVerdict none (readErrors (patrolling 0) 0 { flips := (List.range 16).flatMap (fun b => [(b, 0), (b, 1), (b, 2), (b, 3)]) }) =
    .corrected [(0, 8)] ∧ lineVerdict none (readErrors (patrolling 0) 0 { other := some 4 }) = .uncorrectable := by decide +kernel

/-- FIPS 180-4: SHA-256 of "abc". -/
theorem test_sha256 : hashOf [0x61, 0x62, 0x63] = 0xBA7816BF8F01CFEA414140DE5DAE2223B00361A396177A9CB410FF61F20015AD := by decide +kernel

/-- RFC 4231, case 2. -/
theorem test_hmac : beNat (hmacSha256 [0x4A, 0x65, 0x66, 0x65] (asciiBytes "what do ya want for nothing?")) =
    0x5BDCC146BF60754E6A042426089575C75A003F089D2739839DEC58B964EC3843 := by decide +kernel

/-- RFC 3394, 4.6: 256 bits of key data under a 256-bit KEK. -/
theorem test_key_wrap : beNat (keyWrap 0x000102030405060708090A0B0C0D0E0F101112131415161718191A1B1C1D1E1F 32
      0x00112233445566778899AABBCCDDEEFF000102030405060708090A0B0C0D0E0F) =
    0x28C9F404C4B810F4CBCCB35CFB87F8263F5786E2D80ED326CBC7F0E71A99F43BFB988B9B7A02DD21 := by decide +kernel

/-- CRC-32C of the digits 1 to 9. -/
theorem test_crc32c : crc32c (asciiBytes "123456789") = 0xE3069283 := by decide +kernel

/-- RFC 8949, appendix A. -/
theorem test_cbor : cborInt 1000000 = [0x1A, 0, 0x0F, 0x42, 0x40] ∧ cborInt (-100) = [0x38, 0x63] ∧ cborArray [cborInt 1, cborInt 2, cborInt 3] = [0x83, 1, 2, 3] := by
  decide +kernel

/-- 15 Table 15.1: the header of a HEARTBEAT of session 5, its first byte the high byte of MAGIC. -/
theorem test_baseline_header : blHead 2 0 7 6 5 = [0x42, 0x4C, 1, 2, 0, 0, 0, 48, 0, 0, 0, 0, 0, 0, 0, 7, 0, 0, 0, 0, 0, 0, 0, 6, 0, 0, 0, 5, 0, 0, 0, 0] := by
  decide +kernel

/-- 19 R428: with 50 us of dwell the sixth sample below the threshold trips, not the fifth; a return above it plus 50 mV starts the dwell again. -/
theorem test_power_fail_dwell : let low := fun n => (powerFailTrip (List.replicate n 8990) (guarded [] none)).power.lastGasp
    low 5 = false ∧ low 6 = true ∧ (powerFailTrip ([8990, 8990, 8990, 9051] ++ List.replicate 5 8990) (guarded [] none)).power.lastGasp = false := by
  decide +kernel

/-- 16 R372: the second window in a row outside the band trips the monitor of XB. -/
theorem test_monitor_trips : (judgeAndJoin .xb 757811 sourced).clk.xb.good = true ∧
    (judgeAndJoin .xb 757811 (judgeAndJoin .xb 757811 sourced)).clk.xb.good = false ∧
    (judgeAndJoin .xb 757811 (judgeAndJoin .xb 757812 (judgeAndJoin .xb 757811 sourced))).clk.xb.good = true := by decide +kernel

end Sys2Proof.Tests
end

/-! ### The queue, and the state after reset -/

namespace Sys2Proof.Machine

/-- A command leaves the queue to the step. -/
theorem exec_next (i : Instr) (s : State) : ∃ t, exec i s = .next t ∧ t.pending = s.pending := by
  obtain ⟨f, hf⟩ := exec_runs i s
  exact ⟨runCmd f s, hf, runCmd_pending f s⟩

theorem step_next (s : State) : ∃ t, step s = .next t ∧ t.pending = s.pending.tail := by
  obtain ⟨f, hf⟩ := step_runs s
  exact ⟨_, hf, runCmd_pending f _⟩

theorem step_cons {i : Instr} {rest : List Instr} {s : State} (h : s.pending = i :: rest) : step s = exec i { s with pending := rest } := by
  rw [step, h]

/-- Settles O3: every command has an effect that `runCmd` carries out, and `runCmd` leaves the queue as the step took it. -/
theorem commandsAndStepsAnswerANextState : Obligations.CommandsAndStepsAnswerANextState :=
  ⟨exec_next, step_next⟩

/-- Settles O1. -/
theorem stepRunsTheFrontCommand : Obligations.StepRunsTheFrontCommand :=
  fun _ _ _ h => step_cons h

/-- A reset state holds no table entry and no byte, so that every outcome and every byte reads as the default. -/
theorem outcomeOf_reset (b : Nat) : outcomeOf State.reset b = OC_OK := rfl

theorem memRead_nil (a : Nat) : memRead [] a = 0 := rfl

/-- Settles O5: the addressed RAM and the outcomes of the reset state are empty tables, and each register field has its reset value. -/
theorem resetIsCanonicalAndQuiet : Obligations.ResetIsCanonicalAndQuiet := by
  have hmem : Canonical State.reset := ⟨rfl, rfl⟩
  exact ⟨hmem, rfl, rfl, outcomeOf_reset, fun a => ⟨memRead_nil a, memRead_nil a⟩, rfl, rfl⟩

/-! ### Register writes: what a write leaves as it was -/

theorem BooksOnly.outcomes {s t : State} (h : BooksOnly s t) : t.outcomes = s.outcomes := by rw [h.1]

@[simp] theorem msix_outcomes (f v : Nat) (s : State) : (msix f v s).outcomes = s.outcomes := (msix_books f v s).outcomes

@[simp] theorem fbThaw_outcomes (s : State) : (fbThaw s).outcomes = s.outcomes := (fbThaw_books s).outcomes

@[simp] theorem queueIrq_outcomes (q b : Nat) (s : State) : (queueIrq q b s).outcomes = s.outcomes := (queueIrq_books q b s).outcomes

@[simp] theorem crossingClass_outcomes (b : Bool) (s : State) : (crossingClass b s).outcomes = s.outcomes := by
  simp only [crossingClass, apply_ite State.outcomes, msix_outcomes, ite_self]

@[simp] theorem crossingUpdate_outcomes (s : State) : (crossingUpdate s).outcomes = s.outcomes := by simp [crossingUpdate]

@[simp] theorem postOut_outcomes (c : Nat) (msg : Tab U32) (s : State) : (postOut c msg s).outcomes = s.outcomes := by simp [postOut]

@[simp] theorem postWaiting_outcomes (b : Bool) (s : State) : (postWaiting b s).outcomes = s.outcomes := by
  unfold postWaiting
  split
  · exact postOut_outcomes ..
  · rfl

@[simp] theorem chAcked_outcomes (c : Nat) (code : U16) (s : State) : (chAcked c code s).outcomes = s.outcomes := by
  simp only [chAcked, crossingUpdate_outcomes, apply_ite State.outcomes, msix_outcomes, setCh_outcomes, ite_self]

/-! A write function answers the state it leaves and its outcome; none of them touches LAST_OUTCOME, which `completed` sets (00 R10). -/

theorem fbThawBy_outcomes (who : U32) (s : State) : (fbThawBy who s).1.outcomes = s.outcomes := by
  unfold fbThawBy
  split
  · split
    · exact fbThaw_outcomes _
    · rfl
  · rfl

theorem fbFreeze_outcomes (who : U32) (s : State) : (fbFreeze who s).1.outcomes = s.outcomes := by
  unfold fbFreeze
  split
  · split <;> rfl
  · rfl

theorem fbNext_outcomes (s : State) : (fbNext s).outcomes = s.outcomes := by
  unfold fbNext
  simp only []
  split <;> rfl

/-- The state a write leaves, of two writes one of which is made. -/
theorem wrote_ite_outcomes {p : Prop} [Decidable p] {a b : Wrote} {o : Tab U16} (ha : a.1.outcomes = o) (hb : b.1.outcomes = o) :
    (if p then a else b).1.outcomes = o := by
  split
  · exact ha
  · exact hb

theorem fbCommand_outcomes (who v : U32) (s : State) : (fbCommand who v s).1.outcomes = s.outcomes :=
  wrote_ite_outcomes rfl <| wrote_ite_outcomes rfl <| wrote_ite_outcomes (fbNext_outcomes s) <|
    wrote_ite_outcomes (fbFreeze_outcomes who s) <| wrote_ite_outcomes (fbThawBy_outcomes who s) <| wrote_ite_outcomes rfl rfl

theorem bmIncrWrite_outcomes (v : U32) (s : State) : (bmIncrWrite v s).1.outcomes = s.outcomes :=
  wrote_ite_outcomes rfl <| wrote_ite_outcomes rfl rfl

theorem stepCmdWrite_outcomes (v : U32) (s : State) : (stepCmdWrite v s).1.outcomes = s.outcomes := by
  refine wrote_ite_outcomes rfl ?_
  simp only [stored, applyIf, apply_ite State.outcomes, bmStepGo, ite_self]

theorem doorbellWrite_id_outcomes (v : U32) (s : State) : (doorbellWrite id v s).1.outcomes = s.outcomes := by
  refine wrote_ite_outcomes rfl ?_
  simp [stored, applyIf]

theorem counterWrite_outcomes (b off : Nat) (v : U32) (s : State) : (counterWrite b off v s).outcomes = s.outcomes := by
  unfold counterWrite
  split <;> rfl

theorem queuePush_outcomes (r : Requester) (q : Nat) (v : U32) (s : State) : (queuePush r q v s).1.outcomes = s.outcomes :=
  wrote_ite_outcomes rfl <| wrote_ite_outcomes rfl <| queueIrq_outcomes ..

theorem chMsgWrite_outcomes (r : Requester) (c i : Nat) (v : U32) (s : State) : (chMsgWrite r c i v s).1.outcomes = s.outcomes :=
  wrote_ite_outcomes rfl <| wrote_ite_outcomes rfl rfl

theorem chPost_outcomes (r : Requester) (c : Nat) (v : U32) (s : State) : (chPost r c v s).1.outcomes = s.outcomes := by
  refine wrote_ite_outcomes rfl <| wrote_ite_outcomes rfl <| wrote_ite_outcomes rfl <| wrote_ite_outcomes rfl <| wrote_ite_outcomes rfl ?_
  simp only [crossingUpdate_outcomes, apply_ite State.outcomes, msix_outcomes, setCh_outcomes, ite_self]

theorem chAckWrite_outcomes (r : Requester) (c : Nat) (v : U32) (s : State) : (chAckWrite r c v s).1.outcomes = s.outcomes := by
  refine wrote_ite_outcomes rfl <| wrote_ite_outcomes rfl <| wrote_ite_outcomes rfl ?_
  simp

theorem chRelease_outcomes (r : Requester) (c : Nat) (v : U32) (s : State) : (chRelease r c v s).1.outcomes = s.outcomes := by
  refine wrote_ite_outcomes rfl <| wrote_ite_outcomes rfl <| wrote_ite_outcomes rfl <| wrote_ite_outcomes rfl ?_
  simp

theorem channelWrite_outcomes (r : Requester) (c o : Nat) (v : U32) (s : State) : (channelWrite r c o v s).1.outcomes = s.outcomes := by
  unfold channelWrite
  split
  · exact chRelease_outcomes ..
  · exact chPost_outcomes ..
  · exact chAckWrite_outcomes ..
  · exact wrote_ite_outcomes (chMsgWrite_outcomes ..) rfl

theorem dmaCtrlWrite_outcomes (c : Nat) (v : U32) (s : State) : (dmaCtrlWrite c v s).1.outcomes = s.outcomes :=
  wrote_ite_outcomes rfl <| wrote_ite_outcomes rfl rfl

theorem dmaRingWrite_outcomes (c : Nat) (v : U32) (s : State) : (dmaRingWrite c v s).1.outcomes = s.outcomes :=
  wrote_ite_outcomes rfl <| wrote_ite_outcomes rfl rfl

theorem dmaSizeWrite_outcomes (c : Nat) (v : U32) (s : State) : (dmaSizeWrite c v s).1.outcomes = s.outcomes :=
  wrote_ite_outcomes rfl <| wrote_ite_outcomes rfl rfl

/-- The effect of a write leaves LAST_OUTCOME of every block; the doorbell does nothing here, GO being a command of its own. -/
theorem regEffect_outcomes (r : Requester) (b off : Nat) (v : U32) (s : State) : (regEffect r id b off v s).1.outcomes = s.outcomes := by
  unfold regEffect
  split
  case h_1 => exact wrote_ite_outcomes rfl <| wrote_ite_outcomes rfl rfl
  case h_2 => rfl
  case h_3 => exact wrote_ite_outcomes rfl <| wrote_ite_outcomes rfl rfl
  case h_4 => rfl
  case h_5 => rfl
  case h_6 => exact fbCommand_outcomes ..
  case h_7 => rfl
  case h_8 => exact bmIncrWrite_outcomes ..
  case h_9 => rfl
  case h_10 => rfl
  case h_11 => exact stepCmdWrite_outcomes ..
  case h_12 => exact wrote_ite_outcomes rfl rfl
  case h_13 => exact wrote_ite_outcomes rfl <| wrote_ite_outcomes rfl rfl
  case h_14 => exact wrote_ite_outcomes rfl rfl
  case h_15 => exact wrote_ite_outcomes rfl rfl
  case h_16 => exact doorbellWrite_id_outcomes ..
  case h_17 => exact wrote_ite_outcomes rfl rfl
  case h_18 => exact wrote_ite_outcomes rfl <| wrote_ite_outcomes rfl rfl
  case h_19 => exact wrote_ite_outcomes rfl <| wrote_ite_outcomes rfl rfl
  case h_20 => exact counterWrite_outcomes ..
  case h_21 => exact counterWrite_outcomes ..
  case h_22 =>
    split
    · rfl
    · exact wrote_ite_outcomes (queuePush_outcomes ..) <| wrote_ite_outcomes (wrote_ite_outcomes rfl rfl) rfl
  case h_23 =>
    split
    · rfl
    · split
      · exact dmaRingWrite_outcomes ..
      · exact dmaSizeWrite_outcomes ..
      · exact wrote_ite_outcomes rfl rfl
      · exact dmaCtrlWrite_outcomes ..
      · rfl
  case h_24 =>
    refine wrote_ite_outcomes (wrote_ite_outcomes rfl ?_) rfl
    split
    · exact channelWrite_outcomes ..
    · rfl

theorem keyCmdWrite_outcomes (r : Requester) (v : U32) (s : State) : (keyCmdWrite r v s).1.outcomes = s.outcomes := by
  refine wrote_ite_outcomes rfl <| wrote_ite_outcomes rfl ?_
  simp only []
  split
  · exact wrote_ite_outcomes rfl rfl
  · exact wrote_ite_outcomes rfl rfl
  · rfl

theorem ownedWrite_outcomes {r : Requester} {b off : Nat} {v : U32} {s : State} {w : Wrote} (h : ownedWrite r b off v s = some w) :
    w.1.outcomes = s.outcomes := by
  unfold ownedWrite at h
  split at h
  · cases h
    exact wrote_ite_outcomes rfl <| wrote_ite_outcomes rfl <| wrote_ite_outcomes rfl rfl
  · split at h
    · cases h
      exact wrote_ite_outcomes rfl rfl
    · split at h
      · cases h
        exact keyCmdWrite_outcomes ..
      · cases h

theorem regWrote_outcomes (r : Requester) (b off : Nat) (v : U32) (s : State) : (regWrote r id b off v s).1.outcomes = s.outcomes := by
  unfold regWrote
  split
  · next h => exact ownedWrite_outcomes h
  · exact wrote_ite_outcomes rfl (regEffect_outcomes ..)

/-! ### Register writes that complete -/

/-- A write that reaches its register makes the effect of its register and completes with that effect's outcome. -/
theorem exec_regWrite {r : Requester} {addr : U32} (v : U32) {s : State} (h : reach r addr 4 s = .register) :
    exec (.regWrite r addr v) s =
      .next (runCmd (fun s => completed r (blockOf addr) (regWrote r id (blockOf addr) (offsetOf addr) v s)) s) := by
  have h' : reach r addr 4 (saying [] s) = .register := h
  have hrun : runCmd (busWrite r addr v) s =
      runCmd (fun s => completed r (blockOf addr) (regWrote r id (blockOf addr) (offsetOf addr) v s)) s := by
    unfold runCmd
    rw [show busWrite r addr v { s with out := [] } = _ from writeAt_register _ h']
  show done (busWrite r addr v) s = _
  rw [done, hrun]

theorem regWrote_reserved {r : Requester} {go : State → State} {b off : Nat} {v : U32} {s : State} (ho : ownedWrite r b off v s = none)
    (hv : v &&& reservedBits b off ≠ 0) : regWrote r go b off v s = (s, OC_RESERVED_SET) := by
  rw [regWrote, ho]
  exact if_pos hv

theorem regWrote_plain {r : Requester} {go : State → State} {b off : Nat} {v : U32} {s : State} (ho : ownedWrite r b off v s = none)
    (hv : v &&& reservedBits b off = 0) : regWrote r go b off v s = regEffect r go b off v s := by
  rw [regWrote, ho]
  exact if_neg (not_not_intro hv)

/-- Settles O11: without an owner the reserved bits decide before the register's effect, so the write is dropped whole. -/
theorem reservedBitsRejectTheWholeWrite : Obligations.ReservedBitsRejectTheWholeWrite := by
  intro r addr v s h ho hv
  have h' : reach r addr 4 (saying [] s) = .register := h
  refine done_plain (t := ended (blockOf addr) OC_RESERVED_SET s) ?_ rfl rfl rfl rfl rfl
  rw [busWrite, writeAt_register _ h', regWrote_reserved ho hv, completed_plain r _ _ (by decide)]
  rfl

/-- A completed write sets LAST_OUTCOME of its block, and of no other (00 R10). -/
theorem regWrite_outcomeOf {r : Requester} {addr : U32} (v : U32) {s : State} (h : reach r addr 4 s = .register) :
    ∃ t, exec (.regWrite r addr v) s = .next t ∧
      t.outcomes = tabPut s.outcomes (blockOf addr) (regWrote r id (blockOf addr) (offsetOf addr) v (saying [] s)).2 :=
  ⟨_, exec_regWrite v h, (completed_outcomes r _ _).trans (congrArg (tabPut · _ _) (regWrote_outcomes r _ _ v (saying [] s)))⟩

/-- Settles O12: a completed write puts its outcome at its block's entry of LAST_OUTCOME, its effect leaving that table; the four
registers follow by the write rule `busWrite_ends`. -/
theorem registerWritesTakeEffectAndSetLastOutcome : Obligations.RegisterWritesTakeEffectAndSetLastOutcome := by
  refine ⟨fun r addr v s h => ?_, fun r v s => ⟨fun h => ?_, fun h hv => ?_, fun h hv => ?_, fun h => ⟨?_, rfl⟩⟩⟩
  · obtain ⟨t, ht, hout⟩ := regWrite_outcomeOf v h
    refine ⟨t, ht, ?_, fun b hb => ?_⟩
    · rw [outcomeOf, hout, tabGet_tabPut_same]
    · rw [outcomeOf, hout, tabGet_tabPut_other hb, outcomeOf]
  · exact busWrite_ends (by decide) (by decide) h (by decide) (regWrote_plain rfl BitVec.and_zero) rfl rfl rfl
  · exact busWrite_ends (by decide) (by decide) h (by decide) (regWrote_plain rfl hv) rfl rfl rfl
  · have hset : v &&& reservedBits 0x0D 0x800 ≠ 0 := by
      rw [show reservedBits 0x0D 0x800 = BitVec.allOnes 32 from rfl, BitVec.and_allOnes]
      exact hv
    exact busWrite_ends (by decide) (by decide) h (by decide) (regWrote_reserved rfl hset) rfl rfl rfl
  · exact busWrite_ends (by decide) (by decide) h (by decide) (regWrote_plain rfl BitVec.zero_and) rfl rfl rfl

end Sys2Proof.Machine

/-! ### What reports, records, journal entries and downlinks leave as it was

`Steady` gathers the parts of a state that the bookkeeping around a command never touches: the global block, the epoch, the mailboxes, the
update and power blocks, the cadastre, the lifecycle and which ports are settled. One equation `steady (f s) = steady s` for each shared operation. -/

namespace Sys2Proof.Machine

/-- The parts of a state that the bookkeeping around a command leaves. -/
structure Steady where
  mono : Nat
  glob : GlobalSt
  epoch : EpochSt
  mbox : MboxSt
  power : PowerSt
  upd : UpdSt
  cad : CadSt
  life : Nat
  plcSettled : Nat → Bool
  radioSettled : Nat → Bool

/-- The steady parts of a state; a port is settled once it is up or retired, as `portsSettled` asks of the enabled ones. -/
def steady (s : State) : Steady :=
  { mono := s.mono, glob := s.glob, epoch := s.epoch, mbox := s.mbox, power := s.power, upd := s.upd, cad := s.cad, life := s.keys.state,
    plcSettled := fun n => (plcOf s n).up || (plcOf s n).retired, radioSettled := fun n => (radioOf s n).up || (radioOf s n).retired }

/-- Whether the enabled ports are settled depends on the running cadastre and on each port being up or retired. -/
theorem portsSettled_congr {s t : State} (hc : t.cad.running = s.cad.running) (hp : (steady t).plcSettled = (steady s).plcSettled)
    (hr : (steady t).radioSettled = (steady s).radioSettled) : portsSettled t = portsSettled s := by
  have hp' : ∀ n, ((plcOf t n).up || (plcOf t n).retired) = ((plcOf s n).up || (plcOf s n).retired) := congrFun hp
  have hr' : ∀ n, ((radioOf t n).up || (radioOf t n).retired) = ((radioOf s n).up || (radioOf s n).retired) := congrFun hr
  simp only [portsSettled, plcEnabled, radioEnabled, plcCfg, radioCfg, cadInt, cadRows, hc, hp', hr']

section
variable {s t : State} (h : steady t = steady s)
include h
theorem steady_mono : t.mono = s.mono := congrArg Steady.mono h
theorem steady_glob : t.glob = s.glob := congrArg Steady.glob h
theorem steady_epoch : t.epoch = s.epoch := congrArg Steady.epoch h
theorem steady_mbox : t.mbox = s.mbox := congrArg Steady.mbox h
theorem steady_power : t.power = s.power := congrArg Steady.power h
theorem steady_upd : t.upd = s.upd := congrArg Steady.upd h
theorem steady_cad : t.cad = s.cad := congrArg Steady.cad h
theorem steady_life : t.keys.state = s.keys.state := congrArg Steady.life h

theorem steady_serving : serving t = serving s := by rw [serving, serving, steady_glob h]

theorem steady_portsSettled : portsSettled t = portsSettled s :=
  portsSettled_congr (congrArg CadSt.running (steady_cad h)) (congrArg Steady.plcSettled h) (congrArg Steady.radioSettled h)
end

/-! The parts outside `Steady`, in one update or through the model's named updates. -/

@[simp] theorem steady_with (s : State) (bench : BenchSt) (ptp : PtpSt) (clk : ClockSt) (fb : FbSt) (ecc : MemSt) (queues : Tab WordQueue)
    (dma : Tab DmaChan) (panel : PanelSt) (twin : TwinSt) (outcomes : Tab U16) (cmp stage : Memory) (store : StoreSt) (trav : TravSt)
    (jrn : JournalSt) (billing : BillingSt) (hx : HxSt) (steel : SteelSt) (downs : List Down) (flash : FlashSt) (act : ActSt)
    (notes : List (U16 × List Int)) (out : List Output) (freeCtr : Nat) (pending : List Instr) :
    steady { s with bench := bench, ptp := ptp, clk := clk, fb := fb, ecc := ecc, queues := queues, dma := dma, panel := panel, twin := twin,
                    outcomes := outcomes, cmp := cmp, stage := stage, store := store, trav := trav, jrn := jrn, billing := billing, hx := hx,
                    steel := steel, downs := downs, flash := flash, act := act, notes := notes, out := out, freeCtr := freeCtr,
                    pending := pending } = steady s := rfl

section
variable (s : State)
@[simp] theorem steady_emit (o : Output) : steady (emit o s) = steady s := rfl
@[simp] theorem steady_addNote (c : U16) (l : List Int) : steady (addNote c l s) = steady s := rfl
@[simp] theorem steady_modFlash (f : FlashSt → FlashSt) : steady (modFlash f s) = steady s := rfl
@[simp] theorem steady_modHx (f : HxSt → HxSt) : steady (modHx f s) = steady s := rfl
@[simp] theorem steady_modAct (f : ActSt → ActSt) : steady (modAct f s) = steady s := rfl
@[simp] theorem steady_modCell (c : Nat) (f : ActCell → ActCell) : steady (modCell c f s) = steady s := rfl
@[simp] theorem steady_modBilling (f : BillingSt → BillingSt) : steady (modBilling f s) = steady s := rfl
@[simp] theorem steady_modSteel (f : SteelSt → SteelSt) : steady (modSteel f s) = steady s := rfl
@[simp] theorem steady_modTrav (f : TravSt → TravSt) : steady (modTrav f s) = steady s := rfl
@[simp] theorem steady_modTwin (f : TwinSt → TwinSt) : steady (modTwin f s) = steady s := rfl
@[simp] theorem steady_modLink (f : LinkSt → LinkSt) : steady (modLink f s) = steady s := rfl
@[simp] theorem steady_workPush (c : Nat) : steady (workPush c s) = steady s := rfl

/-- An update of the keys that leaves the lifecycle. -/
theorem steady_modKeys {f : KeySt → KeySt} (h : (f s.keys).state = s.keys.state) : steady (modKeys f s) = steady s := by
  simp only [steady, modKeys, h]
  rfl

@[simp] theorem steady_vaultPut (n : Nat) (k : VaultKey) : steady (vaultPut n k s) = steady s := steady_modKeys s rfl
@[simp] theorem steady_vaultDel (n : Nat) : steady (vaultDel n s) = steady s := steady_modKeys s rfl
@[simp] theorem steady_vaultRemask : steady (vaultRemask s) = steady s := rfl
end

theorem forEach_keeps {α β : Type} (v : State → β) {f : α → State → State} (h : ∀ a t, v (f a t) = v t) (l : List α) (s : State) :
    v (forEach l f s) = v s := by
  induction l generalizing s with
  | nil => rfl
  | cons a l ih => exact (ih (f a s)).trans (h a s)

/-- A choice between two states, each steady. -/
theorem steady_ite {p : Prop} [Decidable p] {a b : State} {x : Steady} (ha : steady a = x) (hb : steady b = x) :
    steady (if p then a else b) = x := by
  split
  · exact ha
  · exact hb

/-! ### Records, the Baseline link and the journal -/

theorem BooksOnly.steady {s t : State} (h : BooksOnly s t) : steady t = steady s := by rw [h.1]; rfl

section
variable (s : State)
@[simp] theorem steady_record (b : Nat) (c : U16) (p : List U32) : steady (record b c p s) = steady s := (record_books b c p s).steady

@[simp] theorem steady_recordRefusal (b : Nat) (c : U16) (p : List U32) : steady (recordRefusal b c p s) = steady s :=
  steady_ite (steady_record ..) rfl

@[simp] theorem steady_fbBoundarySave : steady (fbBoundarySave s) = steady s := steady_ite rfl rfl

@[simp] theorem steady_blSend (t i : Nat) (b : List U8) : steady (blSend t i b s) = steady s := steady_ite rfl rfl

@[simp] theorem steady_shadowItem (t : Nat) (b : List U8) : steady (shadowItem t b s) = steady s :=
  steady_ite (steady_blSend { s with twin := { s.twin with item := s.twin.item + 1 } } ..) rfl

@[simp] theorem steady_blCommitSend (i j : Nat) (c : U16) : steady (blCommitSend i j c s) = steady s := steady_blSend ..

@[simp] theorem steady_closePage : steady (closePage s) = steady s := steady_ite rfl rfl

@[simp] theorem steady_pagePlace (n : Nat) : steady (pagePlace n s) = steady s := rfl

@[simp] theorem steady_pageFull : steady (pageFull s) = steady s := steady_ite rfl rfl

@[simp] theorem steady_appendEntry (e : JEntry) : steady (appendEntry e s) = steady s := by
  unfold appendEntry
  exact (steady_pageFull _).trans ((steady_with ..).trans (steady_pagePlace ..))

@[simp] theorem steady_commitSized (r : List U8) (p : Option Nat) (g : Nat) (b : JBody) : steady (commitSized r p g b s) = steady s := by
  unfold commitSized
  exact steady_ite (by simp) (by simp)

@[simp] theorem steady_commitMade (p : Option Nat) (g : Nat) (b : JBody) : steady (commitMade p g b s) = steady s := steady_commitSized ..

@[simp] theorem steady_commitBoundary (b : BoundaryEntry) : steady (commitBoundary b s) = steady s := by
  unfold commitBoundary
  simp

@[simp] theorem steady_commitTq : steady (commitTq s) = steady s :=
  steady_ite (steady_commitBoundary { s with billing := { s.billing with tqDue := false } } _) rfl

@[simp] theorem steady_deviceOrder (k : Nat) (l : List Int) : steady (deviceOrder k l s) = steady s := steady_ite (steady_commitMade ..) rfl

/-! ### Pages to the reserve, and leaves -/

@[simp] theorem steady_controlWrite : steady (controlWrite s) = steady s :=
  (steady_modFlash ..).trans (steady_modFlash ..)

@[simp] theorem steady_ringOverwrite : steady (ringOverwrite s) = steady s := by
  unfold ringOverwrite
  split
  · rfl
  · exact steady_ite rfl rfl

@[simp] theorem steady_ringWrite (j : Nat) : steady (ringWrite j s) = steady s := by
  rw [← steady_ringOverwrite s]
  unfold ringWrite
  generalize ringOverwrite s = u
  refine steady_ite ((steady_controlWrite _).trans ((steady_modFlash ..).trans ?_)) ((steady_modFlash ..).trans ?_) <;>
    exact (steady_modFlash ..).trans ((steady_with ..).trans (steady_modFlash u _))

@[simp] theorem steady_pageToReserve : steady (pageToReserve s) = steady s := by
  unfold pageToReserve
  split
  · rfl
  · exact steady_ite rfl (steady_ringWrite ..)

@[simp] theorem steady_flushPages : steady (flushPages s) = steady s := forEach_keeps steady (fun _ t => steady_pageToReserve t) _ s

@[simp] theorem steady_lmsComplete (f a e : Nat) : steady (lmsComplete f a e s) = steady s := by
  unfold lmsComplete
  refine steady_ite ?_ (steady_ite ?_ ?_)
  · exact (steady_record ..).trans (steady_modKeys s rfl)
  · exact (steady_record ..).trans ((steady_controlWrite _).trans (steady_modKeys s rfl))
  · exact (steady_controlWrite _).trans (steady_modKeys s rfl)

/-- A leaf reservation that fails is recorded and tried again at a boundary. -/
theorem steady_reserveFailed : steady (record 9 OC_LMS_RESERVE [] (modKeys (fun k => { k with reserveFailed := true }) s)) = steady s :=
  (steady_record ..).trans (steady_modKeys s rfl)
end

@[simp] theorem steady_lmsReserve (f : Nat) (s : State) : steady (lmsReserve f s) = steady s := by
  unfold lmsReserve
  refine steady_ite rfl ?_
  generalize hu : (if s.keys.rangeFuses ≤ _ then modKeys _ s else s) = u
  have hs : steady u = steady s := by
    rw [← hu]
    exact steady_ite (steady_modKeys s rfl) rfl
  rw [← hs]
  refine steady_ite (steady_reserveFailed u) (steady_ite ?_ ?_)
  · generalize hw : (if commitRoom 128 u = true then u else flushPages u) = w
    have hu : steady w = steady u := by
      rw [← hw]
      exact steady_ite rfl (steady_flushPages u)
    rw [← hu]
    refine steady_ite (steady_reserveFailed w) (steady_ite ?_ ?_)
    · exact (steady_reserveFailed _).trans (by simp)
    · simp
  · exact steady_blSend { u with twin := { u.twin with reserveAsked := some _ } } ..

theorem steady_takeLeaf {s t : State} {q : Nat} (h : takeLeaf s = some (q, t)) : steady t = steady s := by
  obtain ⟨-, hq⟩ := Option.ite_none_right_eq_some.1 h
  obtain ⟨-, rfl⟩ := Prod.mk.inj (Option.some.inj hq)
  exact (steady_modKeys _ rfl).trans (steady_ite rfl (steady_lmsReserve 0 s))

theorem steady_attestQuote (s : State) : steady (attestQuote s) = steady s := by
  unfold attestQuote
  split
  · next l t h =>
    obtain ⟨⟨q, u⟩, hq, e⟩ := Option.map_eq_some_iff.1 h
    obtain ⟨-, rfl⟩ := Prod.mk.inj e
    exact (steady_addNote ..).trans (steady_takeLeaf hq)
  · rfl

/-! ### Reports and downlinks -/

section
variable (s : State)
@[simp] theorem steady_hxSend (i : Nat) (n : String) (t : Nat) (l : List (Nat × List U8)) : steady (hxSend i n t l s) = steady s :=
  (steady_emit ..).trans (steady_modHx ..)

@[simp] theorem steady_reportOn (i : Nat) : steady (reportOn i s) = steady s :=
  (steady_modHx ..).trans (steady_hxSend ..)

@[simp] theorem steady_reportAll : steady (reportAll s) = steady s :=
  steady_ite rfl (forEach_keeps steady (fun i t => steady_reportOn t i) _ s)

@[simp] theorem steady_actDlEnd (d : ActDl) (c : U16) : steady (actDlEnd d c s) = steady s := by
  unfold actDlEnd
  exact steady_ite (steady_ite rfl rfl) (steady_ite (p := c = OC_OK) rfl rfl)

@[simp] theorem steady_actEnqueue (d : Down) : steady (actEnqueue d s) = steady s :=
  steady_ite (steady_actDlEnd ..) (steady_ite (steady_actDlEnd ..) rfl)
end

@[simp] theorem plcOf_modPlc_same (n : Nat) (f : PlcPort → PlcPort) (s : State) : plcOf (modPlc n f s) n = f (plcOf s n) :=
  tabGet_tabPut_same ..

theorem plcOf_modPlc_other {m n : Nat} (h : m ≠ n) (f : PlcPort → PlcPort) (s : State) : plcOf (modPlc n f s) m = plcOf s m :=
  tabGet_tabPut_other h ..

@[simp] theorem radioOf_modRadio_same (n : Nat) (f : RadioPort → RadioPort) (s : State) : radioOf (modRadio n f s) n = f (radioOf s n) :=
  tabGet_tabPut_same ..

theorem radioOf_modRadio_other {m n : Nat} (h : m ≠ n) (f : RadioPort → RadioPort) (s : State) : radioOf (modRadio n f s) m = radioOf s m :=
  tabGet_tabPut_other h ..

/-- Which PLC ports are settled after a change of port `n`: the others as before, and `n` as its flags now say. -/
theorem plcSettled_modPlc (n : Nat) (f : PlcPort → PlcPort) (s : State) : (steady (modPlc n f s)).plcSettled =
    fun m => if m = n then (f (plcOf s n)).up || (f (plcOf s n)).retired else (steady s).plcSettled m := by
  funext m
  by_cases hm : m = n
  · subst hm
    simp [steady]
  · simp [steady, hm, plcOf_modPlc_other hm]

theorem radioSettled_modRadio (n : Nat) (f : RadioPort → RadioPort) (s : State) : (steady (modRadio n f s)).radioSettled =
    fun m => if m = n then (f (radioOf s n)).up || (f (radioOf s n)).retired else (steady s).radioSettled m := by
  funext m
  by_cases hm : m = n
  · subst hm
    simp [steady]
  · simp [steady, hm, radioOf_modRadio_other hm]

/-- A change of a PLC port that keeps both flags keeps which ports are settled. -/
theorem steady_modPlc {n : Nat} {f : PlcPort → PlcPort} {s : State} (hu : ∀ p, (f p).up = p.up) (hr : ∀ p, (f p).retired = p.retired) :
    steady (modPlc n f s) = steady s := by
  have hp : (steady (modPlc n f s)).plcSettled = (steady s).plcSettled := by
    rw [plcSettled_modPlc]
    funext m
    split
    · next h => rw [hu, hr, h]; rfl
    · rfl
  exact congrArg (fun p => { steady s with plcSettled := p }) hp

/-- A change of a radio port that keeps both flags keeps which ports are settled. -/
theorem steady_modRadio {n : Nat} {f : RadioPort → RadioPort} {s : State} (hu : ∀ p, (f p).up = p.up) (hr : ∀ p, (f p).retired = p.retired) :
    steady (modRadio n f s) = steady s := by
  have hp : (steady (modRadio n f s)).radioSettled = (steady s).radioSettled := by
    rw [radioSettled_modRadio]
    funext m
    split
    · next h => rw [hu, hr, h]; rfl
    · rfl
  exact congrArg (fun p => { steady s with radioSettled := p }) hp

theorem steady_routeDown (d : Down) (s : State) : steady (routeDown d s) = steady s :=
  steady_ite (steady_modPlc (fun _ => rfl) (fun _ => rfl)) <| steady_ite (steady_modRadio (fun _ => rfl) (fun _ => rfl)) <|
    steady_ite (steady_actEnqueue ..) (steady_ite rfl rfl)

theorem steady_routeDowns (s : State) : steady (routeDowns s) = steady s :=
  steady_ite rfl <| steady_ite rfl <| forEach_keeps steady steady_routeDown s.downs { s with downs := [] }

/-- What follows a command's effect leaves the steady parts as the effect made them. -/
theorem steady_settle (old new : State) : steady (settle old new) = steady new := by
  unfold settle
  refine (steady_routeDowns _).trans (steady_ite ((steady_reportAll _).trans ?_) ?_)
  · exact steady_ite (steady_attestQuote new) rfl
  · exact steady_ite (steady_attestQuote new) rfl

/-- A command of effect `f` leads to a state whose steady parts are those `f` makes. -/
theorem run_steady (f : State → State) (s : State) : ∃ t, run f s = .next t ∧ steady t = steady (f (saying [] s)) :=
  ⟨_, rfl, steady_settle (saying [] s) (f (saying [] s))⟩

/-- A command whose effect makes a state with steady parts of which `P` holds leads to a state of which `P` holds. -/
theorem leads_of_run {i : Instr} {f : State → State} {s : State} {P : State → Prop} (hi : exec i s = run f s)
    (hP : ∀ t, steady t = steady (f (saying [] s)) → P t) : Leads i s P := by
  obtain ⟨t, ht, hst⟩ := run_steady f s
  exact ⟨t, hi.trans ht, hP t hst⟩

end Sys2Proof.Machine

/-! ### What the epoch boundary and the start of ingest leave as it was -/

namespace Sys2Proof.Machine

section
variable (s : State)
@[simp] theorem steady_utcApply (i : Nat) (o : Int) : steady (utcApply i o s) = steady s := by
  unfold utcApply
  exact steady_ite (steady_record ..) rfl

@[simp] theorem steady_xaRestore : steady (xaRestore s) = steady s := by
  unfold xaRestore
  exact steady_ite rfl rfl

@[simp] theorem steady_addItemAt (e : Int) (k j : Nat) (l : List Int) : steady (addItemAt e k j l s) = steady s := by
  unfold addItemAt
  exact steady_ite rfl rfl

@[simp] theorem steady_addEvent (e j i : Nat) (l : List Int) : steady (addEvent e j i l s) = steady s := steady_addItemAt ..

@[simp] theorem steady_applyCapacity (a b : Nat) : steady (applyCapacity a b s) = steady s := rfl

/-! ### Calendars and snapshots that are due -/

@[simp] theorem steady_closeCalendar (c : Nat) : steady (closeCalendar c s) = steady s := by
  unfold closeCalendar
  split
  · rfl
  · exact steady_ite ((steady_modBilling ..).trans (steady_commitBoundary ..)) (steady_commitBoundary ..)

@[simp] theorem steady_activateCalendar (c : Nat) : steady (activateCalendar c s) = steady s := by
  unfold activateCalendar
  simp only []
  split
  · exact steady_ite ((steady_modBilling ..).trans (steady_commitMade ..)) rfl
  · rfl

@[simp] theorem steady_commitMark (m : SnapMark) : steady (commitMark m s) = steady s := by
  unfold commitMark
  exact steady_ite rfl ((steady_modBilling ..).trans (steady_commitMade ..))

@[simp] theorem steady_commitDue : steady (commitDue s) = steady s := by
  refine steady_ite rfl ?_
  refine (forEach_keeps steady (fun a t => ?_) _ _).trans (forEach_keeps steady (fun c t => steady_closeCalendar t c) _ s)
  exact (forEach_keeps steady (fun m u => steady_commitMark u m) _ _).trans (forEach_keeps steady (fun c u => steady_activateCalendar u c) _ t)

/-! ### Archive, leaf blocks and field books at a boundary -/

@[simp] theorem steady_dropSeg (n : Nat) : steady (dropSeg n s) = steady s := by
  unfold dropSeg
  split <;> rfl

@[simp] theorem steady_retainRelease : steady (retainRelease s) = steady s := by
  refine steady_ite rfl ?_
  split
  · rfl
  · exact forEach_keeps steady (fun g t => (steady_dropSeg ..).trans (steady_modFlash ..)) _ s

@[simp] theorem steady_fgTest : steady (fgTest s) = steady s := rfl

theorem steady_takeArchiveBlock {s t : State} {b : Nat} (h : takeArchiveBlock s = some (b, t)) : steady t = steady s := by
  unfold takeArchiveBlock at h
  split at h
  · cases h
    rfl
  · obtain ⟨-, h⟩ := Option.ite_none_right_eq_some.1 h
    obtain ⟨x, -, e⟩ := Option.map_eq_some_iff.1 h
    obtain ⟨-, rfl⟩ := Prod.mk.inj e
    rfl

@[simp] theorem steady_gcStart : steady (gcStart s) = steady s := by
  unfold gcStart
  refine steady_ite rfl ?_
  split
  · rfl
  · refine steady_ite (steady_dropSeg ..) ?_
    simp only []
    split
    · rfl
    · next b u h =>
      refine (steady_workPush u 2).trans ?_
      split at h
      · next x hx =>
        cases h
        exact (steady_takeArchiveBlock hx).trans (steady_fgTest s)
      · obtain ⟨x, -, e⟩ := Option.map_eq_some_iff.1 h
        obtain ⟨-, rfl⟩ := Prod.mk.inj e
        rfl

@[simp] theorem steady_gcBackground (n : Nat) : steady (gcBackground n s) = steady s := (steady_gcStart _).trans rfl

@[simp] theorem steady_checkParents : steady (checkParents s) = steady s := by
  refine forEach_keeps steady (fun e t => ?_) _ s
  split
  · exact steady_ite ((steady_record ..).trans rfl) rfl
  · rfl

/-! ### Cells, head ends and topology of changed values -/

@[simp] theorem steady_judgeNode (now n : Nat) : steady (judgeNode now n s) = steady s := by
  refine steady_ite rfl ?_
  split
  · rfl
  · simp only []
    split <;> rfl

@[simp] theorem steady_cellTransition (c : Nat) (d : Bool) (t : Nat) : steady (cellTransition c d t s) = steady s := by
  refine steady_ite ?_ rfl
  exact (forEach_keeps steady (fun n u => steady_ite rfl (steady_judgeNode ..)) _ _).trans rfl

@[simp] theorem steady_cellState (c : Nat) (d : Bool) (w k : Nat) : steady (cellState c d w k s) = steady s := by
  unfold cellState
  refine steady_ite ?_ ?_ <;> simp

@[simp] theorem steady_actSend (c : Nat) (t : CapType) (n : String) (k : Nat) (b : List U8) : steady (actSend c t n k b s) = steady s := by
  unfold actSend
  split <;> rfl

@[simp] theorem steady_cellDisable (c : Nat) : steady (cellDisable c s) = steady s := by
  unfold cellDisable
  refine (forEach_keeps steady (fun d t => steady_actDlEnd t d _) _ _).trans ((steady_modCell ..).trans ?_)
  exact steady_ite ((steady_cellState ..).trans (steady_actSend ..)) (steady_actSend ..)

@[simp] theorem steady_cellsAmended (l : List (List Int)) : steady (cellsAmended l s) = steady s := by
  refine steady_ite rfl ((steady_modAct ..).trans ?_)
  exact forEach_keeps steady (fun c t => steady_cellDisable t c) _ s

@[simp] theorem steady_sessionClose (i : Nat) (c : U16) : steady (sessionClose i c s) = steady s := rfl

@[simp] theorem steady_headendsAmended : steady (headendsAmended s) = steady s :=
  forEach_keeps steady (fun _ _ => (steady_sessionClose ..).trans (steady_recordRefusal ..)) _ s

@[simp] theorem steady_headendKeys : steady (headendKeys s) = steady s := by
  unfold headendKeys
  split
  · rfl
  · refine (forEach_keeps steady (fun e t => ?_) _ _).trans (forEach_keeps steady (fun k t => steady_ite (steady_vaultDel ..) rfl) _ s)
    split
    · exact (steady_vaultPut ..).trans (steady_vaultPut ..)
    · rfl

@[simp] theorem steady_beaconChanged (n : Nat) : steady (beaconChanged n s) = steady s := steady_ite rfl rfl

@[simp] theorem steady_valuesChanged (b : Nat) (old : State) : steady (valuesChanged b old s) = steady s := by
  unfold valuesChanged
  refine (steady_beaconChanged ..).trans (steady_ite ?_ ?_)
  · exact (steady_cellsAmended ..).trans (steady_ite rfl rfl)
  · refine (steady_headendsAmended _).trans ((steady_headendKeys _).trans ((steady_cellsAmended ..).trans (steady_ite rfl rfl)))

/-! ### Ingest -/

@[simp] theorem steady_reportLosses : steady (reportLosses s) = steady s := by
  unfold reportLosses
  exact forEach_keeps steady (fun l t => steady_addItemAt t ..) _ s

@[simp] theorem steady_resweep : steady (resweep s) = steady s := by
  unfold resweep
  refine (forEach_keeps steady (fun c t => ?_) _ _).trans (steady_modBilling ..)
  split
  · exact steady_ite rfl rfl
  · rfl

@[simp] theorem steady_sendBlock (i : Nat) (c : Campaign) : steady (sendBlock i c s) = steady s := rfl

@[simp] theorem steady_campaignsResume : steady (campaignsResume s) = steady s := by
  unfold campaignsResume
  refine forEach_keeps steady ?_ _ s
  intro e t
  refine forEach_keeps steady ?_ _ t
  intro i u
  exact steady_sendBlock ..

@[simp] theorem steady_commitWaiting (b : Bool) : steady (commitWaiting b s) = steady s := by
  unfold commitWaiting
  refine (forEach_keeps steady ?_ _ _).trans (steady_with s ..)
  intro w t
  refine steady_ite ?_ (steady_ite ?_ ?_)
  · rw [steady_applyCapacity, steady_deviceOrder]
  · rw [steady_utcApply, steady_deviceOrder]
  · rw [steady_deviceOrder]
end

end Sys2Proof.Machine

/-! ### Time, resets and the device state -/

namespace Sys2Proof.Machine

/-- Only what the passing of time moves differs: the clocks, the time the epochs are counted in and the billing time. -/
def TimePasses (s t : State) : Prop :=
  t = { s with mono := t.mono, bench := t.bench, epoch := { s.epoch with clock := t.epoch.clock }, billing := t.billing }

theorem TimePasses.refl (s : State) : TimePasses s s := rfl

theorem TimePasses.trans {s t u : State} (h : TimePasses s t) (k : TimePasses t u) : TimePasses s u := by
  unfold TimePasses at *
  rw [k, h]

theorem noteTime_passes (s : State) : TimePasses s (noteTime s) := by
  unfold noteTime
  simp only []
  split <;> rfl

theorem TimePasses.ite {s a b : State} {p : Prop} [Decidable p] (ha : TimePasses s a) (hb : TimePasses s b) :
    TimePasses s (if p then a else b) := by
  split
  · exact ha
  · exact hb

theorem elapseTicks_passes (n : Nat) (s : State) : TimePasses s (elapseTicks n s) := by
  refine .ite (.refl s) (.ite (TimePasses.trans ?_ (noteTime_passes _)) rfl)
  exact .ite rfl rfl

theorem elapseTo_passes (a : Nat) (s : State) : TimePasses s (elapseTo a s) := elapseTicks_passes ..

theorem elapseDev_passes (a : Nat) (s : State) : TimePasses s (elapseDev a s) := by
  unfold elapseDev
  simp only []
  split
  · rfl
  · exact elapseTicks_passes ..

section
variable {s t : State} (h : TimePasses s t)
include h
theorem TimePasses.glob : t.glob = s.glob := by rw [h]
theorem TimePasses.upd : t.upd = s.upd := by rw [h]
theorem TimePasses.cad : t.cad = s.cad := by rw [h]
theorem TimePasses.jrn : t.jrn = s.jrn := by rw [h]
theorem TimePasses.twin : t.twin = s.twin := by rw [h]
theorem TimePasses.portsSettled : portsSettled t = portsSettled s := by rw [h]; rfl
end

theorem noteTime_mono (s : State) : (noteTime s).mono = s.mono := by
  simp only [noteTime, apply_ite State.mono, ite_self]

theorem elapseTicks_mono (n : Nat) (s : State) : (elapseTicks n s).mono = s.mono + 4 * n := by
  unfold elapseTicks
  split
  · next h => rw [h]; rfl
  · simp only [apply_ite State.mono, noteTime_mono, setAnchor, ite_self]

/-- A timer's instant has come once time has passed to it. -/
theorem le_mono_elapseTo (a : Nat) (s : State) : a ≤ (elapseTo a s).mono := by
  rw [elapseTo, elapse, elapseTicks_mono]
  omega

/-! ### The device state -/

theorem msixBoth_books (v : Nat) (s : State) : BooksOnly s (msixBoth v s) := BooksOnly_trans (msix_books ..) (msix_books ..)

@[simp] theorem steady_msixBoth (v : Nat) (s : State) : steady (msixBoth v s) = steady s := (msixBoth_books v s).steady

/-- Entering a device state sets it, and beside it in the global block only ingest and the levels of held pins. -/
theorem setDevState_glob (d : DevState) (s : State) : ∃ l g, (setDevState d s).glob =
    { s.glob with state := d, ingest := s.glob.ingest && (d == .healthy || d == .degraded), ledHeld := l, gpioHeld := g } := by
  unfold setDevState
  simp only [apply_ite State.glob, steady_glob (steady_msixBoth ..), ite_self]
  exact ⟨_, _, rfl⟩

/-- Of the steady parts, entering a device state touches the global block only. -/
theorem steady_setDevState (d : DevState) (s : State) : steady (setDevState d s) = steady { s with glob := (setDevState d s).glob } := by
  have h : ∀ t : State, steady t = steady { s with glob := t.glob } → steady (msixBoth 6 t) = steady { s with glob := (msixBoth 6 t).glob } := by
    intro t ht
    rw [steady_msixBoth, ht, steady_glob (steady_msixBoth ..)]
  unfold setDevState
  simp only []
  by_cases hd : s.glob.state ≠ d
  · rw [if_pos hd]
    exact h _ rfl
  · rw [if_neg hd]
    rfl

theorem setDevState_mono (d : DevState) (s : State) : (setDevState d s).mono = s.mono := congrArg Steady.mono (steady_setDevState d s)

theorem halt_glob (c : U16) (p : List U32) (s : State) : (halt c p s).glob.state = .halted ∧ (halt c p s).glob.haltCode = c := by
  unfold halt
  obtain ⟨l, g, h⟩ := setDevState_glob .halted
    { record 0 c p s with glob := { (record 0 c p s).glob with haltCode := c, haltedAt := some (record 0 c p s).mono },
                          bench := { (record 0 c p s).bench with running := false } }
  rw [h]
  exact ⟨rfl, rfl⟩

theorem halt_mono (c : U16) (p : List U32) (s : State) : (halt c p s).mono = s.mono := by
  have h : (halt c p s).mono = (record 0 c p s).mono := setDevState_mono ..
  exact h.trans (steady_mono (steady_record ..))

/-! ### The warm reset -/

/-- Only the mailboxes and the outputs differ, and the count of warm resets stands. -/
def MailboxOnly (s t : State) : Prop := t = { s with mbox := t.mbox, out := t.out } ∧ t.mbox.warmResets = s.mbox.warmResets

theorem MailboxOnly.trans {s t u : State} (h : MailboxOnly s t) (k : MailboxOnly t u) : MailboxOnly s u := by
  refine ⟨?_, k.2.trans h.2⟩
  rw [k.1, h.1]

theorem MailboxOnly.forEach {α : Type} {f : α → State → State} (h : ∀ a s, MailboxOnly s (f a s)) (l : List α) (s : State) :
    MailboxOnly s (forEach l f s) := by
  induction l generalizing s with
  | nil => exact ⟨rfl, rfl⟩
  | cons a l ih => exact (h a s).trans (ih (f a s))

theorem msix_mailbox (f v : Nat) (s : State) : MailboxOnly s (msix f v s) := by
  unfold msix
  split <;> exact ⟨rfl, rfl⟩

theorem crossingClass_mailbox (b : Bool) (s : State) : MailboxOnly s (crossingClass b s) := by
  unfold crossingClass
  simp only []
  generalize (if b = true then 1 else 0) = k
  by_cases hn : (classCrossing b s && !s.mbox.crossing.getLsbD k) = true
  · rw [if_pos hn]
    exact MailboxOnly.trans ⟨rfl, rfl⟩ (msix_mailbox ..)
  · rw [if_neg hn]
    exact ⟨rfl, rfl⟩

theorem crossingUpdate_mailbox (s : State) : MailboxOnly s (crossingUpdate s) := (crossingClass_mailbox ..).trans (crossingClass_mailbox ..)

theorem chSenderReset_mailbox (c : Nat) (s : State) : MailboxOnly s (chSenderReset c s) := by
  unfold chSenderReset
  simp only []
  split <;> exact ⟨rfl, rfl⟩

/-- The device's own reset counts in the mailboxes and touches nothing else but outputs. -/
theorem mboxDeviceReset_keeps (s : State) : mboxDeviceReset s = { s with mbox := (mboxDeviceReset s).mbox, out := (mboxDeviceReset s).out } ∧
    (mboxDeviceReset s).mbox.warmResets = s.mbox.warmResets + 1 := by
  unfold mboxDeviceReset
  simp only []
  generalize (List.range 40).filter chOutbound = l
  obtain ⟨hstate, hcount⟩ := (MailboxOnly.forEach chSenderReset_mailbox l
    { s with mbox := { s.mbox with warmResets := s.mbox.warmResets + 1, crossings := [], withdrawn := [], waiting := [] } }).trans
    (crossingUpdate_mailbox _)
  exact ⟨hstate, hcount⟩

/-- A warm reset is the state with its reset values and what survives a reset (00 R7), which the mailboxes then count. -/
theorem warmReset_eq (s : State) : ∃ t : State, warmReset s = (draw (mboxDeviceReset t)).2 ∧ t.glob.state = .reset ∧ t.glob.startStep = 0 ∧
    t.mono = s.mono ∧ t.power.trips = s.power.trips ∧ t.upd.activations = s.upd.activations ∧ t.upd.bootAttempts = s.upd.bootAttempts ∧
    t.mbox = s.mbox ∧ t.keys.state = s.keys.state := by
  unfold warmReset resetAs
  simp only [Bool.false_eq_true, false_and, if_false]
  exact ⟨_, rfl, rfl, rfl, rfl, rfl, rfl, rfl, rfl, rfl⟩

/-- What a warm reset resets, and the RWS counters and lifecycle it leaves (00 R7). -/
theorem warmReset_keeps (s : State) : (warmReset s).glob.state = .reset ∧ (warmReset s).glob.startStep = 0 ∧ (warmReset s).mono = s.mono ∧
    (warmReset s).power.trips = s.power.trips ∧ (warmReset s).upd.activations = s.upd.activations ∧
    (warmReset s).upd.bootAttempts = s.upd.bootAttempts ∧ (warmReset s).mbox.warmResets = s.mbox.warmResets + 1 ∧
    (warmReset s).keys.state = s.keys.state := by
  obtain ⟨t, ht, hstate, hstep, hmono, htrips, hact, hboot, hmbox, hlife⟩ := warmReset_eq s
  obtain ⟨hkeep, hcount⟩ := mboxDeviceReset_keeps t
  rw [ht, draw, hkeep]
  dsimp only
  exact ⟨hstate, hstep, hmono, htrips, hact, hboot, hcount.trans (by rw [hmbox]), hlife⟩

end Sys2Proof.Machine

/-! ### Start-up: ports retired, and the end in service -/

namespace Sys2Proof.Machine

/-- Of the steady parts only the update block differs, and a deferred activation stands. -/
def SlotsOnly (s t : State) : Prop := steady t = { steady s with upd := t.upd } ∧ t.upd.deferredAt = s.upd.deferredAt

theorem SlotsOnly.trans {s t u : State} (h : SlotsOnly s t) (k : SlotsOnly t u) : SlotsOnly s u := by
  refine ⟨?_, k.2.trans h.2⟩
  rw [k.1, h.1]

theorem SlotsOnly.ite {s a b : State} {p : Prop} [Decidable p] (ha : SlotsOnly s a) (hb : SlotsOnly s b) : SlotsOnly s (if p then a else b) := by
  split
  · exact ha
  · exact hb

theorem setFwSlot_slots (n : Nat) (x : Slot) (s : State) : SlotsOnly s (setFwSlot n x s) := ⟨rfl, rfl⟩

theorem modUpd_slots {f : UpdSt → UpdSt} {s : State} (h : (f s.upd).deferredAt = s.upd.deferredAt) : SlotsOnly s (modUpd f s) := ⟨rfl, h⟩

theorem modKeys_slots {f : KeySt → KeySt} {s : State} (h : (f s.keys).state = s.keys.state) : SlotsOnly s (modKeys f s) :=
  ⟨steady_modKeys s h, rfl⟩

/-- Committing the running slot touches, of the steady parts, the slot records and the amendment log. -/
theorem commitSlot_keeps (s : State) : ∃ t l n, SlotsOnly s t ∧
    steady (commitSlot s) = { steady t with cad := { t.cad with log := l, logBytes := n } } := by
  refine ⟨_, _, _, ?_, rfl⟩
  refine SlotsOnly.trans ?_ (modUpd_slots rfl)
  refine SlotsOnly.ite (SlotsOnly.trans ?_ (setFwSlot_slots ..)) ?_ <;> exact (modKeys_slots rfl).trans (setFwSlot_slots ..)

/-- A trial's commit leaves what the end of a start and a boundary go on with: the global block, the time, the epoch, the ports and a deferred
activation. -/
theorem trialCommit_keeps (s : State) : (trialCommit s).glob = s.glob ∧ (trialCommit s).mono = s.mono ∧ (trialCommit s).epoch = s.epoch ∧
    portsSettled (trialCommit s) = portsSettled s ∧ (trialCommit s).upd.deferredAt = s.upd.deferredAt := by
  have hcommit : (commitSlot s).glob = s.glob ∧ (commitSlot s).mono = s.mono ∧ (commitSlot s).epoch = s.epoch ∧
      portsSettled (commitSlot s) = portsSettled s ∧ (commitSlot s).upd.deferredAt = s.upd.deferredAt := by
    obtain ⟨t, l, n, ⟨ht, hd⟩, h⟩ := commitSlot_keeps s
    rw [ht] at h
    have hcad : t.cad = s.cad := congrArg Steady.cad ht
    refine ⟨congrArg Steady.glob h, congrArg Steady.mono h, congrArg Steady.epoch h, ?_, ?_⟩
    · have hrun : (commitSlot s).cad.running = t.cad.running := congrArg (fun x => x.cad.running) h
      exact portsSettled_congr (hrun.trans (congrArg CadSt.running hcad)) (by rw [h]) (by rw [h])
    · exact (congrArg (fun x => x.upd.deferredAt) h).trans hd
  unfold trialCommit
  split
  · exact ⟨rfl, rfl, rfl, rfl, rfl⟩
  · split
    · exact hcommit
    · exact ⟨rfl, rfl, rfl, rfl, rfl⟩

theorem setDevState_portsSettled (d : DevState) (s : State) : portsSettled (setDevState d s) = portsSettled s := by
  have h := steady_portsSettled (steady_setDevState d s)
  exact h

/-- The end of a start: in service, DEGRADED where a resource was retired (02 Table 2.4 step 16). -/
theorem startDone_keeps (s : State) : (startDone s).glob.state = (if s.glob.retired.isEmpty then .healthy else .degraded) ∧
    (startDone s).glob.startStep = 16 ∧ portsSettled (startDone s) = portsSettled s ∧ (startDone s).mono = s.mono := by
  obtain ⟨d, u, heq, hd, hstep, hports, hmono⟩ : ∃ d u, startDone s = trialCommit (setDevState d u) ∧
      d = (if s.glob.retired.isEmpty then .healthy else .degraded) ∧ u.glob.startStep = 16 ∧ portsSettled u = portsSettled s ∧ u.mono = s.mono :=
    ⟨_, _, rfl, rfl, rfl, rfl, rfl⟩
  obtain ⟨hglob, hmono', -, hports', -⟩ := trialCommit_keeps (setDevState d u)
  obtain ⟨l, g, hset⟩ := setDevState_glob d u
  rw [heq, hglob, hmono', hports', setDevState_portsSettled, setDevState_mono, hset]
  exact ⟨hd, hstep, hports, hmono⟩

/-- Retiring a resource touches, of the steady parts, the global block only, and leaves some resource retired. -/
theorem retireResource_keeps (r : Nat) (s : State) : steady (retireResource r s) = steady { s with glob := (retireResource r s).glob } ∧
    (retireResource r s).glob.retired ≠ [] := by
  have hne : (if s.glob.retired.contains r then s.glob.retired else s.glob.retired ++ [r]) ≠ [] := by
    split
    · next h => intro he; rw [he] at h; simp at h
    · simp
  unfold retireResource degrade
  generalize (if s.glob.retired.contains r then s.glob.retired else s.glob.retired ++ [r]) = l at hne
  split
  · refine ⟨(steady_setDevState ..).trans rfl, ?_⟩
    obtain ⟨a, b, h⟩ := setDevState_glob .degraded { s with glob := { s.glob with retired := l } }
    rw [h]
    exact hne
  · exact ⟨rfl, hne⟩

/-- What retiring ports does beside the ports: nothing at all, or some resource stands retired; the cadastre and the time stay. -/
def RetiresOnly (s t : State) : Prop := (t = s ∨ t.glob.retired ≠ []) ∧ t.cad = s.cad ∧ t.mono = s.mono

theorem RetiresOnly.refl (s : State) : RetiresOnly s s := ⟨.inl rfl, rfl, rfl⟩

theorem RetiresOnly.trans {s t u : State} (h : RetiresOnly s t) (k : RetiresOnly t u) : RetiresOnly s u := by
  obtain ⟨hr, hc, hm⟩ := h
  obtain ⟨kr, kc, km⟩ := k
  refine ⟨?_, kc.trans hc, km.trans hm⟩
  rcases kr with rfl | kr
  · exact hr
  · exact .inr kr

theorem RetiresOnly.forEach {α : Type} {f : α → State → State} (h : ∀ a s, RetiresOnly s (f a s)) (l : List α) (s : State) :
    RetiresOnly s (forEach l f s) := by
  induction l generalizing s with
  | nil => exact .refl s
  | cons a l ih => exact (h a s).trans (ih (f a s))

/-- What each element's change makes and every other change keeps holds of all elements after the loop. -/
theorem forEach_reaches {α : Type} {f : α → State → State} {P : State → α → Prop} (hmake : ∀ a s, P (f a s) a)
    (hkeep : ∀ a b s, P s b → P (f a s) b) (l : List α) (s : State) : ∀ b ∈ l, P (forEach l f s) b := by
  have hstays : ∀ (l : List α) (s : State) b, P s b → P (forEach l f s) b := by
    intro l
    induction l with
    | nil => exact fun _ _ h => h
    | cons a l ih => exact fun s b h => ih (f a s) b (hkeep a b s h)
  induction l generalizing s with
  | nil => simp
  | cons a l ih =>
    intro b hb
    rcases List.mem_cons.1 hb with rfl | hb
    · exact hstays l (f b s) b (hmake b s)
    · exact ih (f a s) b hb

/-- A PLC port that is not up is retired: one round of `portsRetire`. -/
def plcDown (n : Nat) (s : State) : State := if (plcOf s n).up then s else plcRetire n s

/-- A radio port that is not up is retired: one round of `portsRetire`. -/
def radioDown (n : Nat) (s : State) : State :=
  if (radioOf s n).up then s else retireResource (200 + n) (modRadio n (fun p => { p with retired := true }) s)

theorem portsRetire_eq (s : State) : portsRetire s =
    forEach (radioEnabled (forEach (plcEnabled s) plcDown s)) radioDown (forEach (plcEnabled s) plcDown s) := rfl

theorem plcDown_retires (n : Nat) (s : State) : RetiresOnly s (plcDown n s) := by
  unfold plcDown
  split
  · exact .refl s
  · obtain ⟨hst, hne⟩ := retireResource_keeps (100 + n) (modPlc n (fun p => { p with up := false, retired := true, inhibit := none }) s)
    exact ⟨.inr hne, congrArg Steady.cad hst, congrArg Steady.mono hst⟩

theorem radioDown_retires (n : Nat) (s : State) : RetiresOnly s (radioDown n s) := by
  unfold radioDown
  split
  · exact .refl s
  · obtain ⟨hst, hne⟩ := retireResource_keeps (200 + n) (modRadio n (fun p => { p with retired := true }) s)
    exact ⟨.inr hne, congrArg Steady.cad hst, congrArg Steady.mono hst⟩

theorem portsRetire_retires (s : State) : RetiresOnly s (portsRetire s) :=
  (RetiresOnly.forEach plcDown_retires _ s).trans (.forEach radioDown_retires _ _)

/-- A round of `portsRetire` settles its PLC port, keeps the settled ones settled and leaves the radio ports. -/
theorem plcDown_settles (n : Nat) (s : State) : (steady (plcDown n s)).plcSettled n = true ∧
    (∀ m, (steady s).plcSettled m = true → (steady (plcDown n s)).plcSettled m = true) := by
  unfold plcDown
  split
  · next hu => exact ⟨by simp [steady, hu], fun _ h => h⟩
  · obtain ⟨hst, -⟩ := retireResource_keeps (100 + n) (modPlc n (fun p => { p with up := false, retired := true, inhibit := none }) s)
    have hp := (congrArg Steady.plcSettled hst).trans (plcSettled_modPlc n _ s)
    refine ⟨(congrFun hp n).trans (by simp), fun m hm => (congrFun hp m).trans ?_⟩
    simp [hm]

/-- A round of `portsRetire` settles its radio port, keeps the settled ones settled and leaves the PLC ports. -/
theorem radioDown_settles (n : Nat) (s : State) : (steady (radioDown n s)).radioSettled n = true ∧
    (∀ m, (steady s).radioSettled m = true → (steady (radioDown n s)).radioSettled m = true) ∧
    (steady (radioDown n s)).plcSettled = (steady s).plcSettled := by
  unfold radioDown
  split
  · next hu => exact ⟨by simp [steady, hu], fun _ h => h, rfl⟩
  · obtain ⟨hst, -⟩ := retireResource_keeps (200 + n) (modRadio n (fun p => { p with retired := true }) s)
    have hr := (congrArg Steady.radioSettled hst).trans (radioSettled_modRadio n _ s)
    have hp := congrArg Steady.plcSettled hst
    refine ⟨(congrFun hr n).trans (by simp), fun m hm => (congrFun hr m).trans ?_, hp⟩
    simp [hm]

theorem portsSettled_iff (s : State) : portsSettled s = true ↔
    (∀ n ∈ plcEnabled s, (steady s).plcSettled n = true) ∧ (∀ n ∈ radioEnabled s, (steady s).radioSettled n = true) := by
  simp only [portsSettled, Bool.and_eq_true, List.all_eq_true]
  rfl

theorem plcEnabled_congr {s t : State} (h : t.cad = s.cad) : plcEnabled t = plcEnabled s := by
  simp only [plcEnabled, plcCfg, cadInt, cadRows, h]

theorem radioEnabled_congr {s t : State} (h : t.cad = s.cad) : radioEnabled t = radioEnabled s := by
  simp only [radioEnabled, radioCfg, cadInt, cadRows, h]

/-- Once the ports that are not up are retired, every enabled port is up or retired. -/
theorem portsSettled_portsRetire (s : State) : portsSettled (portsRetire s) = true := by
  obtain ⟨-, hcad, -⟩ := portsRetire_retires s
  obtain ⟨-, hcad', -⟩ := RetiresOnly.forEach plcDown_retires (plcEnabled s) s
  rw [portsSettled_iff, plcEnabled_congr hcad, radioEnabled_congr (hcad.trans hcad'.symm), portsRetire_eq]
  constructor
  · rw [forEach_keeps (fun t => (steady t).plcSettled) (fun n t => (radioDown_settles n t).2.2)]
    exact forEach_reaches (P := fun t n => (steady t).plcSettled n = true) (fun n t => (plcDown_settles n t).1)
      (fun n m t => (plcDown_settles n t).2 m) _ s
  · exact forEach_reaches (P := fun t n => (steady t).radioSettled n = true) (fun n t => (radioDown_settles n t).1)
      (fun n m t => (radioDown_settles n t).2.1 m) _ _

/-- Where a port was not settled, retiring the ports leaves a resource retired. -/
theorem retired_portsRetire {s : State} (h : portsSettled s = false) : (portsRetire s).glob.retired ≠ [] := by
  obtain ⟨hsame | hne, -⟩ := portsRetire_retires s
  · have hset := portsSettled_portsRetire s
    rw [hsame, h] at hset
    cases hset
  · exact hne

theorem twinParam_congr {s t : State} (h : t.cad = s.cad) (i : Nat) : twinParam t i = twinParam s i := by
  simp only [twinParam, cadNum, cadInt, cadRows, h]

theorem twinRun_single {s : State} (h : twinParam s 0 = 0) : twinRun s = false := by
  simp [twinRun, h]

/-- Without twin operation the start is done once the ports are (02 Table 2.4 step 15). -/
theorem startPorts_single {s : State} (h : twinParam s 0 = 0) : ∃ u, startPorts s = startDone u ∧ u.glob.retired = s.glob.retired ∧
    portsSettled u = portsSettled s ∧ u.mono = s.mono := by
  obtain ⟨u, hu, hcad, hret, hports, hmono⟩ : ∃ u, startPorts s = roleResolve (if twinRun u && !peerActive u then helloSend u else u) ∧
      u.cad = s.cad ∧ u.glob.retired = s.glob.retired ∧ portsSettled u = portsSettled s ∧ u.mono = s.mono := ⟨_, rfl, rfl, rfl, rfl, rfl⟩
  have h0 : twinParam u 0 = 0 := (twinParam_congr hcad 0).trans h
  refine ⟨u, ?_, hret, hports, hmono⟩
  rw [hu, twinRun_single h0, Bool.false_and, if_neg Bool.false_ne_true, roleResolve, if_pos h0]

/-- The effect of PORT_START_TIMEOUT at step 13 of a start without twin operation. -/
theorem portStartTimeout_starts {s : State} (hst : s.glob.state = .starting) (h13 : s.glob.startStep = 13) (htwin : twinParam s 0 = 0) :
    serving (portStartTimeout s) = true ∧ (portStartTimeout s).glob.startStep = 16 ∧ portsSettled (portStartTimeout s) = true ∧
      (portsSettled s = false → (portStartTimeout s).glob.state = .degraded) ∧
      s.glob.portsAt + cadNum s 0x0022 0 * 1000000 ≤ (portStartTimeout s).mono := by
  rw [portStartTimeout, if_pos ⟨hst, h13⟩]
  have htime := elapseTo_passes (s.glob.portsAt + cadNum s 0x0022 0 * 1000000) s
  have hle := le_mono_elapseTo (s.glob.portsAt + cadNum s 0x0022 0 * 1000000) s
  generalize elapseTo (s.glob.portsAt + cadNum s 0x0022 0 * 1000000) s = t at htime hle ⊢
  obtain ⟨-, hcad, hmono⟩ := portsRetire_retires t
  obtain ⟨u, hu, hret, hports, hmono'⟩ := startPorts_single ((twinParam_congr (hcad.trans htime.cad) 0).trans htwin)
  obtain ⟨hstate, hstep, hports', hmono''⟩ := startDone_keeps u
  rw [hu]
  refine ⟨?_, hstep, ?_, fun h => ?_, ?_⟩
  · rw [serving, hstate]
    split <;> rfl
  · rw [hports', hports, portsSettled_portsRetire]
  · have hne := retired_portsRetire (htime.portsSettled.trans h)
    rw [hstate, hret, List.isEmpty_eq_false_iff.2 hne]
    rfl
  · rw [hmono'', hmono', hmono]
    exact hle

/-! ### The first boundary in service -/

/-- The parts of a state that carry a start over its first boundary. -/
structure RunMarks where
  epoch : EpochSt
  ingest : Bool
  startStep : Nat
  deferredAt : Option Nat

/-- Those parts of a state. -/
def runMarks (s : State) : RunMarks :=
  { epoch := s.epoch, ingest := s.glob.ingest, startStep := s.glob.startStep, deferredAt := s.upd.deferredAt }

theorem runMarks_of_steady {s t : State} (h : steady t = steady s) : runMarks t = runMarks s := by
  rw [runMarks, steady_epoch h, steady_glob h, steady_upd h]
  rfl

theorem runMarks_ite {p : Prop} [Decidable p] {a b : State} {x : RunMarks} (ha : runMarks a = x) (hb : runMarks b = x) :
    runMarks (if p then a else b) = x := by
  split
  · exact ha
  · exact hb

theorem runMarks_trialCommit (s : State) : runMarks (trialCommit s) = runMarks s := by
  obtain ⟨hglob, -, hepoch, -, hdef⟩ := trialCommit_keeps s
  rw [runMarks, hglob, hepoch, hdef]
  rfl

/-- HEALTHY is a state in which ingest runs, so entering it leaves ingest as it is. -/
theorem runMarks_setHealthy (s : State) : runMarks (setDevState .healthy s) = runMarks s := by
  obtain ⟨l, g, h⟩ := setDevState_glob .healthy s
  have hst := steady_setDevState .healthy s
  have hepoch : (setDevState .healthy s).epoch = s.epoch := congrArg Steady.epoch hst
  have hupd : (setDevState .healthy s).upd = s.upd := congrArg Steady.upd hst
  rw [runMarks, hepoch, hupd, h]
  simp [runMarks]

theorem runMarks_degradedExit (s : State) : runMarks (degradedExit s) = runMarks s :=
  runMarks_ite ((runMarks_trialCommit _).trans (runMarks_setHealthy s)) rfl

theorem runMarks_wakeOne (s : State) : runMarks (wakeOne s) = runMarks s := by
  refine runMarks_ite rfl ?_
  split <;> rfl

theorem runMarks_minClusters (m : Nat) (s : State) : runMarks (minClusters m s) = runMarks s :=
  forEach_keeps runMarks (fun _ t => runMarks_wakeOne t) _ s

theorem runMarks_clusterDecision (load : Nat) (s : State) : runMarks (clusterDecision load s) = runMarks s := by
  unfold clusterDecision
  simp only []
  generalize hu : (if keptClusters _ < _ then _ else _ : State) = u
  have hmin : runMarks u = runMarks s := by
    rw [← hu]
    exact runMarks_ite (runMarks_minClusters ..) rfl
  refine (runMarks_ite (runMarks_wakeOne u) (runMarks_ite ?_ rfl)).trans hmin
  split
  · exact runMarks_ite rfl rfl
  · rfl

theorem runMarks_liveApply (s : State) : runMarks (liveApply s) = runMarks s :=
  (runMarks_of_steady (steady_valuesChanged ..)).trans rfl

theorem runMarks_modCad (f : CadSt → CadSt) (s : State) : runMarks (modCad f s) = runMarks s := rfl

theorem runMarks_installStaged (tag : Nat) (s : State) : runMarks (installStaged tag s) = runMarks s := by
  unfold installStaged
  split
  · rfl
  · refine runMarks_ite ((runMarks_of_steady (steady_gcStart _)).trans ((runMarks_modCad ..).trans ?_)) ((runMarks_modCad ..).trans ?_) <;>
      exact runMarks_ite rfl rfl

theorem runMarks_drainStart (s : State) : runMarks (drainStart s) = runMarks s := by
  unfold drainStart
  refine forEach_keeps runMarks ?_ _ s
  intro tag t
  exact runMarks_ite ((runMarks_installStaged ..).trans (runMarks_modCad ..)) (runMarks_modCad ..)

/-- The tasks of a boundary in service leave the epoch, ingest, the start's step and a deferred activation. -/
theorem runMarks_boundaryTasks (load fail : Nat) (s : State) : runMarks (boundaryTasks load fail s) = runMarks s := by
  unfold boundaryTasks
  simp only []
  refine (runMarks_of_steady ((steady_checkParents _).trans ((steady_fbBoundarySave _).trans (steady_xaRestore _)))).trans ?_
  refine (runMarks_of_steady (steady_ite (steady_lmsReserve ..) rfl)).trans ?_
  refine (runMarks_of_steady ((steady_gcBackground ..).trans ((steady_retainRelease ..).trans (steady_modFlash ..)))).trans ?_
  refine (runMarks_drainStart _).trans ((runMarks_of_steady (steady_vaultRemask _)).trans ((runMarks_clusterDecision ..).trans ?_))
  exact (runMarks_liveApply _).trans ((runMarks_degradedExit _).trans rfl)

/-- Ingest starts: of the steady parts only the two marks of the global block change. -/
theorem steady_ingestStart (s : State) : steady (ingestStart s) = steady { s with glob := { s.glob with ingest := true, startStep := 17 } } := by
  unfold ingestStart
  refine steady_ite rfl ?_
  simp only [steady_reportLosses, steady_campaignsResume, steady_resweep, steady_commitWaiting, steady_commitDue, steady_commitTq,
    steady_modBilling]
  rfl

theorem runMarks_ingestStart (s : State) : runMarks (ingestStart s) = { runMarks s with ingest := true, startStep := 17 } :=
  runMarks_of_steady (steady_ingestStart s)

theorem activationRetry_none {bad : Bool} {s : State} (h : s.upd.deferredAt = none) : activationRetry bad s = s := by
  rw [activationRetry, h]

/-- Where the epoch length has changed, the first boundary of a run numbers the epoch that begins at it one above the last sealed (01 R23). -/
theorem epochBegin_renumbers {s : State} {n : Int} {ms b : Nat} (hs : s.jrn.sealed = some (n, ms, b)) (h17 : s.glob.startStep < 17)
    (hrole : s.twin.role ≤ 1) (hms : ms * 1000000 ≠ epochLen s) :
    epochBegin s = { s with epoch := { s.epoch with offset := n + 1 - ((s.epoch.clock / epochLen s : Nat) : Int) } } := by
  rw [epochBegin, hs]
  refine if_neg ?_
  simp [makesEntries, hrole, hms, h17]

theorem epochBegin_offset (s : State) : ∃ o, epochBegin s = { s with epoch := { s.epoch with offset := o } } := by
  unfold epochBegin
  split
  · exact ⟨_, rfl⟩
  · split
    · exact ⟨_, rfl⟩
    · exact ⟨_, rfl⟩

/-- The first boundary in service starts ingest, in the epoch that its tasks find begun. -/
theorem runMarks_firstBoundary {load fail : Nat} {bad : Bool} {s : State} (hdef : s.upd.deferredAt = none) :
    runMarks (activationRetry bad (ingestStart (boundaryTasks load fail s))) = { runMarks s with ingest := true, startStep := 17 } := by
  have h := runMarks_ingestStart (boundaryTasks load fail s)
  rw [runMarks_boundaryTasks] at h
  generalize ingestStart (boundaryTasks load fail s) = t at h ⊢
  rw [activationRetry_none ((congrArg RunMarks.deferredAt h).trans hdef), h]

/-- The state at a boundary that ends epoch `n`, with the epoch that the time and the numbering give in progress (01 R25). -/
def epochTurned (n : Int) (s : State) : State :=
  let now : Int := ((s.epoch.clock / epochLen s : Nat) : Int) + s.epoch.offset
  { s with epoch := { s.epoch with current := max now (if s.glob.startStep < 17 then now else n + 1) } }

theorem boundaryNow_first {s : State} (load fail : Nat) (bad : Bool) (n : Int) (b : Nat) (hserv : serving s = true)
    (hing : s.glob.ingest = false) :
    boundaryNow load fail bad n b s = activationRetry bad (ingestStart (boundaryTasks load fail (epochTurned n (epochBegin s)))) := by
  obtain ⟨o, ho⟩ := epochBegin_offset s
  have hserv' : serving (epochTurned n (epochBegin s)) = true := by rw [ho]; exact hserv
  have hing' : (epochTurned n (epochBegin s)).glob.ingest = false := by rw [ho]; exact hing
  have hnot : ¬ ((!serving (epochTurned n (epochBegin s))) = true) := by rw [hserv']; decide
  have hnot' : ¬ ((epochTurned n (epochBegin s)).glob.ingest = true) := by rw [hing']; decide
  unfold boundaryNow
  exact (if_neg hnot).trans (if_neg hnot')

/-- EPOCH_BOUNDARY in service before ingest: the start's last step (02 Table 2.4 step 17). -/
theorem runMarks_epochBoundary {s : State} (load fail : Nat) (bad : Bool) (hrun : s.bench.running = true) (hserv : serving s = true)
    (hing : s.glob.ingest = false) (hdef : s.upd.deferredAt = none) : ∃ u, TimePasses s u ∧
    runMarks (epochBoundary load fail bad s) = { runMarks (epochTurned s.epoch.current (epochBegin u)) with ingest := true, startStep := 17 } := by
  have htime := elapseDev_passes (epochEnd s s.epoch.current) s
  have heq : epochBoundary load fail bad s =
      boundaryNow load fail bad s.epoch.current (epochEnd s s.epoch.current) (elapseDev (epochEnd s s.epoch.current) s) := by
    rw [epochBoundary, hrun]
    rfl
  rw [heq]
  generalize elapseDev (epochEnd s s.epoch.current) s = u at htime
  have hserv' : serving u = true := by rw [serving, htime.glob]; exact hserv
  obtain ⟨o, ho⟩ := epochBegin_offset u
  refine ⟨u, htime, ?_⟩
  rw [boundaryNow_first load fail bad _ _ hserv' (by rw [htime.glob, hing])]
  refine runMarks_firstBoundary ?_
  rw [ho]
  exact (congrArg UpdSt.deferredAt htime.upd).trans hdef

/-- An epoch renumbered at the boundary begins one above the last sealed. -/
theorem epochTurned_renumbered {s : State} (m : Int) {n : Int} {ms b : Nat} (hs : s.jrn.sealed = some (n, ms, b)) (h17 : s.glob.startStep < 17)
    (hrole : s.twin.role ≤ 1) (hms : ms * 1000000 ≠ epochLen s) : (epochTurned m (epochBegin s)).epoch.current = n + 1 := by
  rw [epochBegin_renumbers hs h17 hrole hms]
  have hsum : ((s.epoch.clock / epochLen s : Nat) : Int) + (n + 1 - ((s.epoch.clock / epochLen s : Nat) : Int)) = n + 1 := by omega
  simp only [epochTurned, if_pos h17, Int.max_def, ite_self]
  exact hsum

/-! ### The starts and resets -/

theorem warmReset_leads (s : State) :
    Leads .warmReset s (fun t => t.glob.state = .reset ∧ t.glob.startStep = 0 ∧ t.power.trips = s.power.trips ∧
    t.upd.activations = s.upd.activations ∧ t.upd.bootAttempts = s.upd.bootAttempts ∧ t.mbox.warmResets = s.mbox.warmResets + 1 ∧
    t.keys.state = s.keys.state ∧ t.mono = s.mono) := by
  refine leads_of_run (f := warmReset) rfl fun t ht => ?_
  obtain ⟨hstate, hstep, hmono, htrips, hact, hboot, hcount, hlife⟩ := warmReset_keeps (saying [] s)
  rw [steady_glob ht, steady_power ht, steady_upd ht, steady_mbox ht, steady_life ht, steady_mono ht]
  exact ⟨hstate, hstep, htrips, hact, hboot, hcount, hlife, hmono⟩

/-- A timer whose instant brings a warm reset: the device is in RESET, and the instant has come. -/
theorem timer_resets {i : Instr} {f : State → State} {s : State} {a : Nat} (hi : exec i s = run f s)
    (hf : f (saying [] s) = warmReset (elapseTo a (saying [] s))) : Leads i s (fun t => t.glob.state = .reset ∧ a ≤ t.mono) := by
  refine leads_of_run hi fun t ht => ?_
  obtain ⟨hstate, -, hmono, -⟩ := warmReset_keeps (elapseTo a (saying [] s))
  rw [steady_glob ht, steady_mono ht, hf, hmono]
  exact ⟨hstate, le_mono_elapseTo ..⟩

theorem companionImageTimeout_leads {s : State} (hstate : s.glob.state = .boot) (hstep : s.glob.startStep = 8) (hsrc : bootSrc s = 2) :
    Leads .companionImageTimeout s (fun t => t.glob.state = .halted ∧ t.glob.haltCode = OC_NO_CADASTRE ∧ s.glob.bootAt + 60000000000 ≤ t.mono) := by
  refine leads_of_run (f := companionImageTimeout) rfl fun t ht => ?_
  have hf : companionImageTimeout (saying [] s) = halt OC_NO_CADASTRE [] (elapseTo (s.glob.bootAt + 60000000000) (saying [] s)) :=
    if_pos ⟨hstate, hstep, hsrc⟩
  obtain ⟨hhalt, hcode⟩ := halt_glob OC_NO_CADASTRE [] (elapseTo (s.glob.bootAt + 60000000000) (saying [] s))
  rw [steady_glob ht, steady_mono ht, hf, halt_mono]
  exact ⟨hhalt, hcode, le_mono_elapseTo ..⟩

theorem portStartTimeout_leads {s : State} (hst : s.glob.state = .starting) (h13 : s.glob.startStep = 13) (htwin : twinParam s 0 = 0) :
    Leads .portStartTimeout s (fun t => serving t = true ∧ t.glob.startStep = 16 ∧ portsSettled t = true ∧
      (portsSettled s = false → t.glob.state = .degraded) ∧ s.glob.portsAt + cadNum s 0x0022 0 * 1000000 ≤ t.mono) := by
  refine leads_of_run (f := portStartTimeout) rfl fun t ht => ?_
  rw [steady_serving ht, steady_glob ht, steady_portsSettled ht, steady_mono ht]
  exact portStartTimeout_starts (s := saying [] s) hst h13 htwin

theorem epochBoundary_leads {s : State} (load fail : Nat) (bad : Bool) (hrun : s.bench.running = true) (hserv : serving s = true)
    (hing : s.glob.ingest = false) (hdef : s.upd.deferredAt = none) :
    Leads (.epochBoundary load fail bad) s (fun t => t.glob.ingest = true ∧ t.glob.startStep = 17 ∧
      ∀ n ms b, s.jrn.sealed = some (n, ms, b) → s.glob.startStep < 17 → s.twin.role ≤ 1 → ms * 1000000 ≠ epochLen s →
        t.epoch.current = n + 1) := by
  refine leads_of_run (f := epochBoundary load fail bad) rfl fun t ht => ?_
  obtain ⟨u, htime, hmarks⟩ := runMarks_epochBoundary (s := saying [] s) load fail bad hrun hserv hing hdef
  have hm := (runMarks_of_steady ht).trans hmarks
  refine ⟨congrArg RunMarks.ingest hm, congrArg RunMarks.startStep hm, fun n ms b hs h17 hrole hms => ?_⟩
  have hepoch : t.epoch = (epochTurned s.epoch.current (epochBegin u)).epoch := congrArg RunMarks.epoch hm
  rw [hepoch]
  refine epochTurned_renumbered _ (by rw [htime.jrn]; exact hs) (by rw [htime.glob]; exact h17) (by rw [htime.twin]; exact hrole) ?_
  rw [epochLen, cadNum, cadInt, cadRows, htime.cad]
  exact hms

/-- Settles O30: the resets and timers go through `warmReset` and `halt`, the last timeout of the ports through `startDone`, and the first
boundary in service through `ingestStart`; what follows each command leaves the parts the statement names. -/
theorem startsEndInServiceAndResetsInReset : Obligations.StartsEndInServiceAndResetsInReset := by
  refine ⟨fun s => ⟨warmReset_leads s, fun hwd hserv => ?_, fun a ha hst hlife => ?_, companionImageTimeout_leads⟩,
    fun s => ⟨portStartTimeout_leads, epochBoundary_leads⟩⟩
  · have hexpires : (s.glob.startWd && !serving s) = true := by rw [hwd, hserv]; rfl
    exact timer_resets (f := startWatchdogExpiry) rfl (if_pos hexpires)
  · refine timer_resets (f := haltedResetTimer) rfl ?_
    rw [haltedResetTimer, show (saying [] s).glob.haltedAt = some a from ha]
    exact if_pos ⟨hst, hlife⟩

end Sys2Proof.Machine

/-! ### The ledger: what billing commands write, and what the bookkeeping around a command leaves of it -/

namespace Sys2Proof.Machine

/-- The parts of a state that the billing statements speak of: the billing state, the parcel store and the last JSN. -/
structure Ledger where
  billing : BillingSt
  store : StoreSt
  lastJsn : Nat

/-- The ledger of a state. -/
def ledger (s : State) : Ledger := { billing := s.billing, store := s.store, lastJsn := s.jrn.lastJsn }

section
variable {s t : State} (h : ledger t = ledger s)
include h
theorem ledger_billing : t.billing = s.billing := congrArg Ledger.billing h
theorem ledger_store : t.store = s.store := congrArg Ledger.store h
theorem ledger_lastJsn : t.jrn.lastJsn = s.jrn.lastJsn := congrArg Ledger.lastJsn h
theorem ledger_parcelOf (i : Nat) : parcelOf t i = parcelOf s i := by rw [parcelOf, parcelOf, ledger_store h]
theorem ledger_calOf (c : Nat) : calOf t c = calOf s c := by rw [calOf, calOf, ledger_billing h]
end

/-- A choice between two states with the same ledger. -/
theorem ledger_ite {p : Prop} [Decidable p] {a b : State} {x : Ledger} (ha : ledger a = x) (hb : ledger b = x) :
    ledger (if p then a else b) = x := by
  split
  · exact ha
  · exact hb

section
variable (s : State)

@[simp] theorem ledger_blSend (t i : Nat) (b : List U8) : ledger (blSend t i b s) = ledger s := ledger_ite rfl rfl

@[simp] theorem ledger_shadowItem (t : Nat) (b : List U8) : ledger (shadowItem t b s) = ledger s :=
  ledger_ite (ledger_blSend { s with twin := { s.twin with item := s.twin.item + 1 } } ..) rfl

@[simp] theorem ledger_addItemAt (e : Int) (k j : Nat) (l : List Int) : ledger (addItemAt e k j l s) = ledger s := by
  unfold addItemAt
  exact ledger_ite rfl rfl

@[simp] theorem ledger_addItem (k j : Nat) (l : List Int) : ledger (addItem k j l s) = ledger s := ledger_addItemAt ..

@[simp] theorem ledger_setTag (t : Tag) : ledger (setTag t s) = ledger s := rfl

@[simp] theorem ledger_setMarks : ledger (setMarks s) = ledger s := rfl

@[simp] theorem ledger_queueTag (asn : Nat) : ledger (queueTag asn s) = ledger s := by
  unfold queueTag
  split
  · rfl
  · split
    · rfl
    · exact ledger_ite rfl ((ledger_setTag ..).trans (ledger_ite (ledger_ite rfl rfl) (ledger_ite rfl rfl)))

/-! ### Entries take the next JSN -/

@[simp] theorem ledger_pagePlace (n : Nat) : ledger (pagePlace n s) = ledger s := by
  simp only [pagePlace, ledger, apply_ite JournalSt.lastJsn, ite_self]

@[simp] theorem ledger_pageFull : ledger (pageFull s) = ledger s := ledger_ite rfl rfl

theorem ledger_appendEntry (e : JEntry) : ledger (appendEntry e s) = { ledger s with lastJsn := s.jrn.lastJsn + 1 } := by
  have h := ledger_pagePlace s (entryLength e)
  unfold appendEntry
  refine (ledger_pageFull _).trans ?_
  rw [← ledger_lastJsn h, ← h]
  rfl

/-- An entry the device makes takes the next JSN and touches nothing else of the ledger (04 R94). -/
theorem ledger_commitMade (p : Option Nat) (g : Nat) (b : JBody) :
    ledger (commitMade p g b s) = { ledger s with lastJsn := s.jrn.lastJsn + 1 } := by
  have happend : ∀ e u, ledger u = ledger s → ledger (appendEntry e u) = { ledger s with lastJsn := s.jrn.lastJsn + 1 } := by
    intro e u hu
    rw [ledger_appendEntry, hu, ledger_lastJsn hu]
  unfold commitMade commitSized
  exact ledger_ite ((ledger_blSend ..).trans (happend _ _ (ledger_shadowItem ..))) (happend _ _ (ledger_shadowItem ..))

/-- A BOUNDARY entry is kept under its JSN and counted (06 R150, R159). -/
theorem ledger_commitBoundary (b : BoundaryEntry) : ledger (commitBoundary b s) = { ledger s with
    billing := { s.billing with
      bounds := { b with nextAsn := nextAsn s, billingTime := s.billing.time, jsn := s.jrn.lastJsn + 1 } :: s.billing.bounds
      boundaryCommits := s.billing.boundaryCommits + 1 }
    lastJsn := s.jrn.lastJsn + 1 } := by
  unfold commitBoundary
  simp only []
  generalize hu : commitMade none 0 _ s = u
  have h : ledger u = { ledger s with lastJsn := s.jrn.lastJsn + 1 } := hu ▸ ledger_commitMade ..
  have hbilling : u.billing = s.billing := congrArg Ledger.billing h
  have hstore : u.store = s.store := congrArg Ledger.store h
  have hjsn : u.jrn.lastJsn = s.jrn.lastJsn + 1 := congrArg Ledger.lastJsn h
  simp only [ledger, hbilling, hstore, hjsn]

/-! ### Reports and downlinks -/

@[simp] theorem ledger_reportOn (i : Nat) : ledger (reportOn i s) = ledger s := rfl

@[simp] theorem ledger_reportAll : ledger (reportAll s) = ledger s :=
  ledger_ite rfl (forEach_keeps ledger (fun i t => ledger_reportOn t i) _ s)

@[simp] theorem ledger_actDlEnd (d : ActDl) (c : U16) : ledger (actDlEnd d c s) = ledger s := by
  unfold actDlEnd
  exact ledger_ite (ledger_ite rfl rfl) (ledger_ite (p := c = OC_OK) rfl rfl)

@[simp] theorem ledger_actEnqueue (d : Down) : ledger (actEnqueue d s) = ledger s :=
  ledger_ite (ledger_actDlEnd ..) (ledger_ite (ledger_actDlEnd ..) rfl)

@[simp] theorem ledger_routeDown (d : Down) : ledger (routeDown d s) = ledger s :=
  ledger_ite rfl <| ledger_ite rfl <| ledger_ite (ledger_actEnqueue ..) (ledger_ite rfl rfl)

@[simp] theorem ledger_routeDowns : ledger (routeDowns s) = ledger s :=
  ledger_ite rfl <| ledger_ite rfl <| forEach_keeps ledger (fun d t => ledger_routeDown t d) s.downs { s with downs := [] }
end

/-- What follows a command's effect leaves the ledger, unless the effect entered a serving state, whose quote may reserve leaves. -/
theorem ledger_settle {old new : State} (h : new.glob = old.glob) : ledger (settle old new) = ledger new := by
  have he : entersService old new = false := by simp [entersService, h]
  unfold settle
  rw [he]
  exact (ledger_routeDowns _).trans (ledger_ite (ledger_reportAll _) rfl)

/-- A command whose effect leaves the global block leads to a state with the ledger that the effect makes. -/
theorem leads_of_ledger {i : Instr} {f : State → State} {s : State} {P : State → Prop} (hi : exec i s = run f s)
    (hg : (f (saying [] s)).glob = s.glob) (hP : ∀ t, ledger t = ledger (f (saying [] s)) → P t) : Leads i s P :=
  ⟨_, hi, hP _ (ledger_settle (old := saying [] s) hg)⟩

/-! ### Waiting for an instant of billing time -/

/-- Time passes, and of the billing state only billing time moves, never back (06 R136). -/
def BillingWaits (s t : State) : Prop :=
  TimePasses s t ∧ t.billing = { s.billing with time := t.billing.time } ∧ s.billing.time ≤ t.billing.time

theorem BillingWaits.refl (s : State) : BillingWaits s s := ⟨.refl s, rfl, Nat.le_refl _⟩

theorem BillingWaits.trans {s t u : State} (h : BillingWaits s t) (k : BillingWaits t u) : BillingWaits s u := by
  obtain ⟨hpass, hbilling, hle⟩ := h
  obtain ⟨kpass, kbilling, kle⟩ := k
  refine ⟨hpass.trans kpass, ?_, Nat.le_trans hle kle⟩
  rw [kbilling, hbilling]

theorem BillingWaits.ite {s a b : State} {p : Prop} [Decidable p] (ha : BillingWaits s a) (hb : BillingWaits s b) :
    BillingWaits s (if p then a else b) := by
  split
  · exact ha
  · exact hb

theorem noteTime_waits (s : State) : BillingWaits s (noteTime s) :=
  .ite ⟨rfl, rfl, Nat.le_max_left ..⟩ ⟨rfl, rfl, Nat.le_refl _⟩

theorem elapseTicks_waits (n : Nat) (s : State) : BillingWaits s (elapseTicks n s) := by
  refine .ite (.refl s) (.ite (BillingWaits.trans ?_ (noteTime_waits _)) ⟨rfl, rfl, Nat.le_refl _⟩)
  exact .ite ⟨rfl, rfl, Nat.le_refl _⟩ ⟨rfl, rfl, Nat.le_refl _⟩

theorem elapseDev_waits (a : Nat) (s : State) : BillingWaits s (elapseDev a s) := by
  unfold elapseDev
  simp only []
  split
  · exact .refl s
  · exact elapseTicks_waits ..

/-- The commands of an instant of billing time let device time reach it in TQ0 and TQ1, and find billing time where it stands otherwise. -/
theorem elapseInTq_waits (a : Nat) (s : State) : BillingWaits s (if s.glob.tq ≤ 1 then elapseDev a s else s) := by
  split
  · exact elapseDev_waits ..
  · exact .refl s

section
variable {s t : State} (h : BillingWaits s t)
include h
theorem BillingWaits.glob : t.glob = s.glob := TimePasses.glob h.1
theorem BillingWaits.lastJsn : t.jrn.lastJsn = s.jrn.lastJsn := by rw [TimePasses.jrn h.1]
theorem BillingWaits.time_le : s.billing.time ≤ t.billing.time := h.2.2
theorem BillingWaits.marks : t.billing.marks = s.billing.marks := by rw [h.2.1]
theorem BillingWaits.sweeps : t.billing.sweeps = s.billing.sweeps := by rw [h.2.1]
theorem BillingWaits.calOf (c : Nat) : calOf t c = calOf s c := by rw [Machine.calOf, h.2.1]; rfl
theorem BillingWaits.nextAsn : nextAsn t = nextAsn s := by rw [h.1]; rfl
theorem BillingWaits.commitRoom (n : Nat) : commitRoom n t = commitRoom n s := by rw [h.1]; rfl
end

end Sys2Proof.Machine

/-! ### Activations, closures and marks commit when billing time has made them due -/

namespace Sys2Proof.Machine

/-- A passive version that is due becomes current, under the next JSN (06 R144). -/
theorem activateCalendar_due {s : State} {c : Nat} {v : CalVersion} (hp : (calOf s c).passive = some v) (ht : v.activation ≤ s.billing.time) :
    calOf (activateCalendar c s) c = { current := some v, previous := (calOf s c).current, passive := none } ∧
      (activateCalendar c s).jrn.lastJsn = s.jrn.lastJsn + 1 := by
  have hslot : activateSlot (calOf s c) = { current := some v, previous := (calOf s c).current, passive := none } := by
    rw [activateSlot, hp]
  simp only [activateCalendar, hp, if_pos ht]
  generalize hu : commitMade none 0 _ s = u
  have hl : ledger u = { ledger s with lastJsn := s.jrn.lastJsn + 1 } := hu ▸ ledger_commitMade ..
  exact ⟨(tabGet_tabPut_same ..).trans hslot, congrArg Ledger.lastJsn hl⟩

theorem calendarActivation_leads {s : State} {c : Nat} {v : CalVersion} (hp : (calOf s c).passive = some v) (hmay : mayCommitMade s = true)
    (ht : v.activation ≤ s.billing.time) : Leads (.calendarActivation c) s (fun u =>
      calOf u c = { current := some v, previous := (calOf s c).current, passive := none } ∧ u.jrn.lastJsn = s.jrn.lastJsn + 1) := by
  have hwait := elapseInTq_waits v.activation (saying [] s)
  have hf : calendarActivation c (saying [] s) =
      activateCalendar c (if (saying [] s).glob.tq ≤ 1 then elapseDev v.activation (saying [] s) else saying [] s) := by
    have hp' : (calOf (saying [] s) c).passive = some v := hp
    have hmay' : mayCommitMade (saying [] s) = true := hmay
    simp [calendarActivation, hp', hmay']
  generalize (if (saying [] s).glob.tq ≤ 1 then elapseDev v.activation (saying [] s) else saying [] s) = w at hwait hf
  have hcal : calOf w c = calOf s c := hwait.calOf c
  obtain ⟨hcals, hjsn⟩ := activateCalendar_due (hcal ▸ hp) (Nat.le_trans ht hwait.time_le)
  refine leads_of_ledger (f := calendarActivation c) rfl ?_ fun t hl => ?_
  · rw [hf, steady_glob (steady_activateCalendar w c), hwait.glob]
    rfl
  · rw [hf] at hl
    rw [ledger_calOf hl, ledger_lastJsn hl, hcals, hjsn, hcal, hwait.lastJsn]
    exact ⟨rfl, rfl⟩

/-- Only a calendar with a version in force has closures. -/
theorem current_of_closureDue {s : State} {c : Nat} {b : BoundaryEntry} (h : closureDue s c = some b) : (calOf s c).current.isNone = false := by
  refine Bool.eq_false_iff.2 fun hnone => ?_
  rw [closureDue, if_pos hnone] at h
  cases h

theorem demandClosure_due {s : State} {c : Nat} {b : BoundaryEntry} (hmay : mayCommitMade s = true) (hb : closureDue s c = some b) :
    demandClosure c s = closeCalendar c s := by
  simp [demandClosure, hmay, current_of_closureDue hb, hb]

/-- A closure that is due is kept under the next JSN and counted, and one with PERIOD starts a sweep (06 R150, R155). -/
theorem closeCalendar_due {s : State} {c : Nat} {b : BoundaryEntry} (hb : closureDue s c = some b) :
    (closeCalendar c s).jrn.lastJsn = s.jrn.lastJsn + 1 ∧
      (closeCalendar c s).billing.boundaryCommits = s.billing.boundaryCommits + 1 ∧
      (closeCalendar c s).billing.bounds =
        { b with nextAsn := nextAsn s, billingTime := s.billing.time, jsn := s.jrn.lastJsn + 1 } :: s.billing.bounds ∧
      (b.period = true → (closeCalendar c s).billing.sweeps.length = s.billing.sweeps.length + 1) := by
  have hl := ledger_commitBoundary s b
  have hbilling := congrArg Ledger.billing hl
  have hjsn := congrArg Ledger.lastJsn hl
  simp only [ledger] at hbilling hjsn
  simp only [closeCalendar, hb]
  split
  · simp [hbilling, hjsn]
  · next hperiod => simp [hbilling, hjsn, hperiod]

theorem demandClosure_leads {s : State} {c : Nat} {b : BoundaryEntry} (hmay : mayCommitMade s = true) (hb : closureDue s c = some b) :
    Leads (.demandClosure c) s (fun u => u.jrn.lastJsn = s.jrn.lastJsn + 1 ∧ u.billing.boundaryCommits = s.billing.boundaryCommits + 1 ∧
      u.billing.bounds = { b with nextAsn := nextAsn s, billingTime := s.billing.time, jsn := s.jrn.lastJsn + 1 } :: s.billing.bounds ∧
      (b.period = true → u.billing.sweeps.length = s.billing.sweeps.length + 1)) := by
  have hf : demandClosure c (saying [] s) = closeCalendar c (saying [] s) := demandClosure_due hmay hb
  refine leads_of_ledger (f := demandClosure c) rfl ?_ fun t hl => ?_
  · rw [hf, steady_glob (steady_closeCalendar ..)]
    rfl
  · rw [hf] at hl
    rw [ledger_lastJsn hl, ledger_billing hl]
    exact closeCalendar_due (s := saying [] s) hb

/-- A mark that is due is kept with the JSN and NEXT_ASN of its entry, and its sweep starts (12 R288). -/
theorem commitMark_due {s : State} {m : SnapMark} (hm : m.committed.isNone = true) (ht : m.at_ ≤ s.billing.time)
    (hroom : commitRoom (192 + 8 * m.identities.length) s = true) :
    (commitMark m s).jrn.lastJsn = s.jrn.lastJsn + 1 ∧ (commitMark m s).billing.sweeps.length = s.billing.sweeps.length + 1 ∧
      (commitMark m s).billing.marks =
        s.billing.marks.map (fun x => if x = m then { x with committed := some (s.jrn.lastJsn + 1, nextAsn s) } else x) := by
  have hdue : ¬ (m.committed.isSome = true ∨ s.billing.time < m.at_ ∨ (!commitRoom (192 + 8 * m.identities.length) s) = true) := by
    simp [hroom, Nat.not_lt.2 ht, Option.isNone_iff_eq_none.1 hm]
  simp only [commitMark, if_neg hdue]
  generalize hu : commitMade none 0 _ s = u
  have hl : ledger u = { ledger s with lastJsn := s.jrn.lastJsn + 1 } := hu ▸ ledger_commitMade ..
  have hbilling : u.billing = s.billing := congrArg Ledger.billing hl
  have hjsn : u.jrn.lastJsn = s.jrn.lastJsn + 1 := congrArg Ledger.lastJsn hl
  simp [hbilling, hjsn]

theorem snapshotMarkCommit_leads {s : State} {m : SnapMark} (hm : s.billing.marks.filter (fun x => x.committed.isNone) = [m])
    (hmay : mayCommitMade s = true) (ht : m.at_ ≤ s.billing.time) (hroom : commitRoom (192 + 8 * m.identities.length) s = true) :
    Leads .snapshotMarkCommit s (fun u => u.jrn.lastJsn = s.jrn.lastJsn + 1 ∧ u.billing.sweeps.length = s.billing.sweeps.length + 1 ∧
      u.billing.marks = s.billing.marks.map (fun x => if x = m then { x with committed := some (s.jrn.lastJsn + 1, nextAsn s) } else x)) := by
  have hwait := elapseInTq_waits m.at_ (saying [] s)
  have hf : snapshotMarkCommit (saying [] s) =
      commitMark m (if (saying [] s).glob.tq ≤ 1 then elapseDev m.at_ (saying [] s) else saying [] s) := by
    have hm' : (saying [] s).billing.marks.filter (fun x => x.committed.isNone) = [m] := hm
    have hmay' : mayCommitMade (saying [] s) = true := hmay
    simp [snapshotMarkCommit, hm', hmay']
  generalize (if (saying [] s).glob.tq ≤ 1 then elapseDev m.at_ (saying [] s) else saying [] s) = w at hwait hf
  have hpending : m.committed.isNone = true := by
    have hmem : m ∈ s.billing.marks.filter (fun x => x.committed.isNone) := hm ▸ List.mem_singleton_self m
    exact (List.mem_filter.1 hmem).2
  have hroom' : commitRoom (192 + 8 * m.identities.length) w = true := (hwait.commitRoom _).trans hroom
  obtain ⟨hjsn, hsweeps, hmarks⟩ := commitMark_due hpending (Nat.le_trans ht hwait.time_le) hroom'
  refine leads_of_ledger (f := snapshotMarkCommit) rfl ?_ fun t hl => ?_
  · rw [hf, steady_glob (steady_commitMark w m), hwait.glob]
    rfl
  · rw [hf] at hl
    rw [ledger_lastJsn hl, ledger_billing hl, hjsn, hsweeps, hmarks, hwait.lastJsn, hwait.sweeps, hwait.marks, hwait.nextAsn]
    exact ⟨rfl, rfl, rfl⟩

end Sys2Proof.Machine

/-! ### A slice of a sweep -/

namespace Sys2Proof.Machine

/-- What the work of a sweep on parcels leaves: the global block, the sweeps and the store's capacity. -/
def sweepFrame (s : State) : GlobalSt × List Sweep × Nat := (s.glob, s.billing.sweeps, s.store.capacity)

theorem sweepFrame_addItemAt (e : Int) (k j : Nat) (l : List Int) (s : State) : sweepFrame (addItemAt e k j l s) = sweepFrame s := by
  rw [sweepFrame, steady_glob (steady_addItemAt ..), ledger_billing (ledger_addItemAt ..), ledger_store (ledger_addItemAt ..)]
  rfl

theorem sweepFrame_advanceAt (e : Int) (jsn i through : Nat) (s : State) : sweepFrame (advanceAt e jsn i through s) = sweepFrame s := by
  refine (forEach_keeps sweepFrame (fun l t => sweepFrame_addItemAt e 1 jsn l t) _ _).trans ?_
  unfold sweepFrame modBilling
  dsimp only
  split <;> rfl

theorem sweepFrame_orderedSnapshot (e : Int) (jsn : Nat) (m : SnapMark) (i : Nat) (s : State) :
    sweepFrame (orderedSnapshot e jsn m i s) = sweepFrame s := by
  unfold orderedSnapshot
  simp only []
  split
  · exact sweepFrame_addItemAt ..
  · rfl

theorem sweepFrame_sweepParcel (w : Sweep) (i : Nat) (s : State) : sweepFrame (sweepParcel w i s) = sweepFrame s := by
  unfold sweepParcel
  simp only []
  split
  · rfl
  · split
    · split
      · exact sweepFrame_advanceAt ..
      · rfl
    · split
      · exact sweepFrame_orderedSnapshot ..
      · rfl

/-- The sweep found under a JSN is the one that was found, changed, where an update replaces every sweep of that JSN. -/
theorem find?_replace_sweep {jsn : Nat} {w x : Sweep} {l : List Sweep} (hw : l.find? (fun y => y.jsn == jsn) = some w) (hx : x.jsn = jsn) :
    (l.map (fun y => if y.jsn = jsn then x else y)).find? (fun y => y.jsn == jsn) = some x := by
  induction l with
  | nil => cases hw
  | cons y l ih =>
    by_cases hy : y.jsn = jsn
    · simp [hy, hx]
    · simp only [List.find?_cons, beq_eq_false_iff_ne.2 hy] at hw
      simpa [hy] using ih hw

/-- A sweep with slices left is kept with its new progress. -/
theorem putSweep_unfinished {w : Sweep} {n : Nat} (h : w.slice < n) (s : State) :
    (putSweep w n s).billing.sweeps = s.billing.sweeps.map (fun x => if x.jsn = w.jsn then w else x) := by
  have hnot : ¬ (n ≤ w.slice ∧ w.waiting = []) := fun h' => absurd h'.1 (Nat.not_le.2 h)
  simp [putSweep, hnot]

/-- A slice whose epoch has come is taken: the sweep goes on with the next one (06 R155). -/
theorem sweepSlice_next {s : State} {jsn : Nat} {w : Sweep} (hw : s.billing.sweeps.find? (fun x => x.jsn == jsn) = some w)
    (he : w.epoch + 2 + w.slice ≤ s.epoch.current) (hn : w.slice + 1 < sliceCount s) : (sweepSlice jsn s).glob = s.glob ∧
      ((sweepSlice jsn s).billing.sweeps.find? (fun x => x.jsn == jsn)).map (·.slice) = some (w.slice + 1) := by
  have hjsn : w.jsn = jsn := by simpa using List.find?_some hw
  have hdue : ¬ (s.epoch.current < w.epoch + 2 + w.slice ∨ sliceCount s ≤ w.slice) := by omega
  simp only [sweepSlice, hw, if_neg hdue]
  generalize hu : forEach _ (sweepParcel w) s = u
  have hframe : sweepFrame u = sweepFrame s := hu ▸ forEach_keeps sweepFrame (sweepFrame_sweepParcel w) _ s
  obtain ⟨hglob, hrest⟩ := Prod.mk.inj hframe
  obtain ⟨hsweeps, hcap⟩ := Prod.mk.inj hrest
  refine ⟨hglob, ?_⟩
  have hleft : w.slice + 1 < sliceCount u := by rw [sliceCount, hcap]; exact hn
  rw [putSweep_unfinished (w := { w with slice := w.slice + 1, waiting := _ }) hleft, hsweeps, hjsn, find?_replace_sweep hw rfl]
  rfl

theorem periodSweepSlice_leads {s : State} {jsn : Nat} {w : Sweep} (hw : s.billing.sweeps.find? (fun x => x.jsn == jsn) = some w)
    (he : w.epoch + 2 + w.slice ≤ s.epoch.current) (hn : w.slice + 1 < sliceCount s) : Leads (.periodSweepSlice jsn) s (fun u =>
      (u.billing.sweeps.find? (fun x => x.jsn == jsn)).map (·.slice) = some (w.slice + 1)) := by
  obtain ⟨hglob, hnext⟩ := sweepSlice_next (s := saying [] s) hw he hn
  refine leads_of_ledger (f := sweepSlice jsn) rfl hglob fun t hl => ?_
  rw [ledger_billing hl, hnext]

end Sys2Proof.Machine

/-! ### A credited DELTA -/

namespace Sys2Proof.Machine

@[simp] theorem parcelOf_setParcel_same (i : Nat) (p : Parcel) (s : State) : parcelOf (setParcel i p s) i = p := tabGet_tabPut_same ..

@[simp] theorem steady_setParcel (i : Nat) (p : Parcel) (s : State) : steady (setParcel i p s) = steady s := rfl

@[simp] theorem steady_addItem (k j : Nat) (l : List Int) (s : State) : steady (addItem k j l s) = steady s := steady_addItemAt ..

/-- The demand work of a credit leaves the total registers (06 R149). -/
theorem creditDemand_total (u : UtcTab) (k : CalSlot) (tc prev delta : Nat) (mode : Bool) (p : Parcel) :
    (creditDemand u k tc prev delta mode p).1.registers.total = p.registers.total := by
  unfold creditDemand
  simp only []
  split
  · rfl
  · split <;> rfl

/-- The target that the profile of a record gives its channel, 0 where it gives none (06 Table 6.8). -/
def targetFor (profiles : List (List Int)) (r : Rec) : Nat :=
  match profileIn profiles r.veeProfile with
  | some f => ((f.channels[r.channel]?).map (·.target)).getD 0
  | none => 0

/-- The total registers of parcel `i` become `total`, and the steady parts stay. -/
def TotalBecomes (i : Nat) (total : Tab Nat) (s t : State) : Prop := steady t = steady s ∧ (parcelOf t i).registers.total = total

/-- A record of a DELTA and a target credits the total register of the target's quantity; what follows it in the same credit (corrections,
the carry of an open period, demand) leaves that register (06 R147). -/
theorem creditRecord_total {i : Nat} {e : JEntry} {r : Rec} {prev : Nat} {s : State} (hd : r.delta ≠ 0) (ht : targetFor e.profiles r ≠ 0) :
    TotalBecomes i (tabMod (parcelOf s i).registers.total (targetIndex (targetFor e.profiles r)) 0 (fun v => add64 v (creditAmount r.delta))) s
      (creditRecord i e r prev s) := by
  have hcredits : ¬ (r.delta = 0 ∨ targetFor e.profiles r = 0) := not_or.2 ⟨hd, ht⟩
  unfold creditRecord
  extract_lets p target k u delta q bad hold tcEnd tc dflt tariff rg rg1 rg2 uuEnd p1 s1
  have htotal : rg2.total = tabMod (parcelOf s i).registers.total q 0 (fun v => add64 v delta) := by
    simp only [rg2]
    split <;> rfl
  have hs1 : steady s1 = steady s := steady_modBilling ..
  refine (if_neg hcredits).symm ▸ ?_
  generalize hlate : (if uuEnd ≤ p1.demand.closedThrough then _ else _) = x
  obtain ⟨p2, s2⟩ := x
  have hp2 : p2.registers.total = rg2.total ∧ steady s2 = steady s := by
    split at hlate
    · cases hlate
      exact ⟨rfl, (steady_addItem ..).trans ((steady_modBilling ..).trans hs1)⟩
    · split at hlate <;> cases hlate <;> exact ⟨rfl, hs1⟩
  dsimp only
  generalize hdemand : (if q = 0 then creditDemand u k tc prev delta (!dflt) p2 else (p2, false)) = y
  obtain ⟨p3, excluded⟩ := y
  have hp3 : p3.registers.total = p2.registers.total := by
    split at hdemand
    · exact (congrArg (·.1.registers.total) hdemand).symm.trans (creditDemand_total ..)
    · cases hdemand
      rfl
  refine ⟨(steady_setParcel ..).trans ((steady_modBilling ..).trans hp2.2), ?_⟩
  rw [parcelOf_setParcel_same, hp3, hp2.1, htotal]
  rfl

/-- Where no closure applies to an entry and no mark waits, its parcel is not advanced and no snapshot of it is due before it is credited
(06 R152, 12 R288). -/
theorem creditEntry_one {i : Nat} {e : JEntry} {r : Rec} {prev : Nat} {s : State}
    (hbound : boundFor s 1 (parcelOf s i).calendar e.asn = none) (hmarks : s.billing.marks = []) :
    creditEntry i e [r] [prev] s = creditRecord i e r prev s := by
  rw [creditEntry, advanceFor, hbound, snapshotsFor, hmarks]
  rfl

theorem creditAmount_of_pos {d : Int} (h : 0 < d) : creditAmount d = d.toNat := if_pos (Int.le_of_lt h)

@[simp] theorem steady_queueTag (asn : Nat) (s : State) : steady (queueTag asn s) = steady s := by
  unfold queueTag
  split
  · rfl
  · split
    · rfl
    · exact steady_ite rfl ((steady_modTrav ..).trans (steady_ite (steady_ite rfl rfl) (steady_ite rfl rfl)))

@[simp] theorem steady_setMarks (s : State) : steady (setMarks s) = steady s := rfl

/-- The tag in its turn is credited to its parcel; queueing it for stages 9 to 11 leaves the registers (04 R81, R88). -/
theorem registerUpdate_total {s : State} {asn i : Nat} {t : Tag} {total : Tab Nat} (ht : tagOf s asn = some t) (hp : t.parcel = some i)
    (hstate : t.state = .committed) (hreg : t.regDone = false) (hturn : engineTurn s t (fun x => !x.regDone) = true)
    (hrest : (parcelOf s i).state ≠ .restoring) (hheld : blockHeld s 16 = false)
    (hcredit : TotalBecomes i total s (creditEntry i { readingEntry t i with jsn := t.jsn } t.records t.prevs s)) :
    TotalBecomes i total s (registerUpdate asn s) := by
  have hpass : ¬ (t.state ≠ .committed ∨ t.regDone = true ∨ (!engineTurn s t (fun x => !x.regDone)) = true ∨
      (parcelOf s i).state = .restoring ∨ blockHeld s 16 = true) := by
    simp [hstate, hreg, hturn, hrest, hheld]
  simp only [registerUpdate, ht, hp, if_neg hpass]
  generalize creditEntry i _ t.records t.prevs s = w at hcredit
  obtain ⟨hsteady, htotal⟩ := hcredit
  refine ⟨?_, ?_⟩
  · rw [steady_setMarks, steady_queueTag]
    exact hsteady
  · rw [ledger_parcelOf ((ledger_setMarks _).trans ((ledger_queueTag ..).trans (ledger_setTag ..))), htotal]

theorem registerUpdate_leads {s : State} {asn i : Nat} {t : Tag} {r : Rec} {pv : Nat} {f : Profile} {d : ChanDef}
    (ht : tagOf s asn = some t) (hp : t.parcel = some i) (hstate : t.state = .committed) (hreg : t.regDone = false)
    (hturn : engineTurn s t (fun x => !x.regDone) = true) (hrest : (parcelOf s i).state ≠ .restoring) (hheld : blockHeld s 16 = false)
    (hrecords : t.records = [r]) (hprevs : t.prevs = [pv]) (hdelta : 0 < r.delta) (hf : profileIn t.profiles r.veeProfile = some f)
    (hd : f.channels[r.channel]? = some d) (htarget : d.target ≠ 0) (hbound : boundFor s 1 (parcelOf s i).calendar t.asn = none)
    (hmarks : s.billing.marks = []) : Leads (.registerUpdate asn) s (fun u =>
      tabGet (parcelOf u i).registers.total (targetIndex d.target) 0 =
        add64 (tabGet (parcelOf s i).registers.total (targetIndex d.target) 0) r.delta.toNat) := by
  have hfor : targetFor t.profiles r = d.target := by simp [targetFor, hf, hd]
  have hcredit : TotalBecomes i (tabMod (parcelOf s i).registers.total (targetIndex d.target) 0 (fun v => add64 v r.delta.toNat)) (saying [] s)
      (creditEntry i { readingEntry t i with jsn := t.jsn } t.records t.prevs (saying [] s)) := by
    rw [hrecords, hprevs, creditEntry_one (s := saying [] s) (e := { readingEntry t i with jsn := t.jsn }) hbound hmarks, ← hfor,
      ← creditAmount_of_pos hdelta]
    exact creditRecord_total (s := saying [] s) (Int.ne_of_gt hdelta) (hfor ▸ htarget)
  obtain ⟨hsteady, htotal⟩ := registerUpdate_total (s := saying [] s) ht hp hstate hreg hturn hrest hheld hcredit
  refine leads_of_ledger (f := registerUpdate asn) rfl (steady_glob hsteady) fun u hl => ?_
  rw [ledger_parcelOf hl, htotal]
  exact tabGet_tabPut_same ..

/-- Settles O37: each command finds its instant or turn come; what follows it leaves the ledger that its own effect made. -/
theorem billingEntriesAndCredits : Obligations.BillingEntriesAndCredits :=
  fun _ => ⟨fun _ _ => calendarActivation_leads, fun _ _ => demandClosure_leads, fun _ => snapshotMarkCommit_leads,
    fun _ _ => periodSweepSlice_leads, fun _ _ _ _ _ _ _ => registerUpdate_leads⟩

end Sys2Proof.Machine

/-! ### What records, items, entries and reports leave of the Steelyard -/

namespace Sys2Proof.Machine

section
variable (s : State)

@[simp] theorem addItemAt_steel (e : Int) (k j : Nat) (l : List Int) : (addItemAt e k j l s).steel = s.steel := by
  unfold addItemAt
  simp only [apply_ite State.steel, ite_self]

@[simp] theorem addEvent_steel (e j i : Nat) (l : List Int) : (addEvent e j i l s).steel = s.steel := addItemAt_steel ..

@[simp] theorem blSend_steel (t i : Nat) (b : List U8) : (blSend t i b s).steel = s.steel := by
  simp only [blSend, blSendCopy, apply_ite State.steel, emit_steel, ite_self]

@[simp] theorem blCommitSend_steel (i j : Nat) (c : U16) : (blCommitSend i j c s).steel = s.steel := blSend_steel ..

@[simp] theorem shadowItem_steel (t : Nat) (b : List U8) : (shadowItem t b s).steel = s.steel := by
  simp only [shadowItem, apply_ite State.steel, blSend_steel, ite_self]

@[simp] theorem pageFull_steel : (pageFull s).steel = s.steel := by
  simp only [pageFull, apply_ite State.steel, ite_self]

@[simp] theorem appendEntry_steel (e : JEntry) : (appendEntry e s).steel = s.steel := pageFull_steel _

@[simp] theorem commitMade_steel (p : Option Nat) (g : Nat) (b : JBody) : (commitMade p g b s).steel = s.steel := by
  simp only [commitMade, commitSized, apply_ite State.steel, blCommitSend_steel, appendEntry_steel, shadowItem_steel, ite_self]

@[simp] theorem reportAll_steel : (reportAll s).steel = s.steel := by
  unfold reportAll
  simp only [apply_ite State.steel, forEach_keeps State.steel (fun i t => (rfl : (reportOn i t).steel = t.steel)), ite_self]

@[simp] theorem actDlEnd_steel (d : ActDl) (c : U16) : (actDlEnd d c s).steel = s.steel := by
  simp only [actDlEnd, apply_ite State.steel, modAct_steel, ite_self]

@[simp] theorem actEnqueue_steel (d : Down) : (actEnqueue d s).steel = s.steel := by
  simp only [actEnqueue, apply_ite State.steel, actDlEnd_steel, show ∀ c f, (modCell c f s).steel = s.steel from fun _ _ => rfl, ite_self]

@[simp] theorem routeDown_steel (d : Down) : (routeDown d s).steel = s.steel := by
  simp only [routeDown, downLost, apply_ite State.steel, modPlc_steel, modRadio_steel, actEnqueue_steel, ite_self]

@[simp] theorem routeDowns_steel : (routeDowns s).steel = s.steel := by
  simp only [routeDowns, apply_ite State.steel, forEach_keeps State.steel (fun d t => routeDown_steel t d), ite_self]
end

/-- What follows a command's effect leaves the Steelyard, where the effect entered no serving state. -/
theorem settle_steel {old new : State} (h : new.glob = old.glob) : (settle old new).steel = new.steel := by
  have he : entersService old new = false := by simp [entersService, h]
  simp only [settle, he, routeDowns_steel, apply_ite State.steel, reportAll_steel, ite_self]
  rfl

/-- A command whose effect leaves the global block leads to a state with the ledger and the Steelyard that the effect makes. -/
theorem leads_of_steel {i : Instr} {f : State → State} {s : State} {P : State → Prop} (hi : exec i s = run f s)
    (hg : (f (saying [] s)).glob = s.glob)
    (hP : ∀ t, ledger t = ledger (f (saying [] s)) → t.steel = (f (saying [] s)).steel → P t) : Leads i s P :=
  ⟨_, hi, hP _ (ledger_settle (old := saying [] s) hg) (settle_steel (old := saying [] s) hg)⟩

end Sys2Proof.Machine

/-! ### The closure of a balance interval -/

namespace Sys2Proof.Machine

@[simp] theorem steady_scoreChild (iv k limit : Nat) (flagged : Bool) (e : Int) (i : Nat) (s : State) :
    steady (scoreChild iv k limit flagged e i s) = steady s := by
  unfold scoreChild
  exact steady_ite ((steady_addItemAt ..).trans rfl) rfl

@[simp] theorem steady_closeNode (k limit : Nat) (e : Int) (n : Nat) (x : BalNode) (s : State) : steady (closeNode k limit e n x s) = steady s := by
  unfold closeNode
  extract_lets iv r loss fn fm w0 w bad flag was s1 s2 s3
  have h1 : steady s1 = steady s := steady_modSteel ..
  clear_value s1 flag was bad r iv
  have h2 : steady s2 = steady s := steady_ite ((steady_addItemAt ..).trans h1) (steady_ite ((steady_addItemAt ..).trans h1) h1)
  have h3 : steady s3 = steady s := steady_ite ((steady_addItemAt ..).trans h2) h2
  exact steady_ite h3 ((forEach_keeps steady (fun i t => steady_scoreChild _ _ _ _ _ i t) _ _).trans h3)

@[simp] theorem steady_closeInterval (k limit : Nat) (e : Int) (s : State) : steady (closeInterval k limit e s) = steady s := by
  simp only [closeInterval, steady_modSteel]
  exact forEach_keeps steady (fun (x : Nat × BalNode) t => steady_closeNode k limit e x.1 x.2 t) _ s

/-- The next interval to close and the shares of the open ones. -/
def openWork (s : State) : Option Nat × List Share := (s.steel.nextK, s.steel.shares)

/-- Once interval `k` is closed the next one is open, and only later intervals keep shares (07 R166). -/
theorem openWork_closeInterval (k limit : Nat) (e : Int) (s : State) :
    ∃ l, openWork (closeInterval k limit e s) = (some (k + 1), l) ∧ ∀ h ∈ l, k < h.k :=
  ⟨_, rfl, fun _ hh => of_decide_eq_true (List.mem_filter.1 hh).2⟩

/-- Recording a check meter under the wrong parent notes its node and no more of the Steelyard (07 R162). -/
theorem openWork_checkParents (s : State) : openWork (checkParents s) = openWork s := by
  refine forEach_keeps openWork (fun x t => ?_) _ s
  split
  · dsimp only
    split
    · rw [openWork, (record_books ..).1]
      rfl
    · rfl
  · rfl

theorem balanceClose_due {s : State} {n : Int} {j : Nat} (hseal : lastSealed s = some (n, j)) (hheld : blockHeld s 17 = false)
    (hdue : (s.steel.nextK.getD (firstInterval s n) + 1) * balI s + balWait s ≤ epochEnd s n) :
    balanceClose s = checkParents (closeInterval (s.steel.nextK.getD (firstInterval s n)) j (n + 2) s) := by
  simp [balanceClose, hseal, hheld, hdue]

theorem balanceIntervalClose_leads {s : State} {n : Int} {j : Nat} (hseal : lastSealed s = some (n, j)) (hheld : blockHeld s 17 = false)
    (hdue : (s.steel.nextK.getD (firstInterval s n) + 1) * balI s + balWait s ≤ epochEnd s n) :
    Leads .balanceIntervalClose s (fun u => u.steel.nextK = some (s.steel.nextK.getD (firstInterval s n) + 1) ∧
      ∀ h ∈ u.steel.shares, s.steel.nextK.getD (firstInterval s n) < h.k) := by
  have hf := balanceClose_due (s := saying [] s) hseal hheld hdue
  refine leads_of_steel (f := balanceClose) rfl ?_ fun t _ hsteel => ?_
  · rw [hf, steady_glob ((steady_checkParents _).trans (steady_closeInterval ..))]
    rfl
  · obtain ⟨l, hwork, hlater⟩ := openWork_closeInterval (s.steel.nextK.getD (firstInterval s n)) j (n + 2) (saying [] s)
    have hopen : openWork t = (some (s.steel.nextK.getD (firstInterval s n) + 1), l) := by
      rw [openWork, hsteel, hf, ← hwork]
      exact openWork_checkParents _
    obtain ⟨hnext, hshares⟩ := Prod.mk.inj hopen
    exact ⟨hnext, hshares ▸ hlater⟩

end Sys2Proof.Machine

/-! ### A pass is taken -/

namespace Sys2Proof.Machine

/-- A due pass touches the Steelyard only: it is kept behind the waiting ones, and its instant is the set's last (07 R174). -/
theorem theoPass_due {s : State} {k inst j : Nat} {n : Int} (hdue : passDue s k = some (n, inst, j)) :
    ∃ v : SteelSt, theoPass k s = { s with steel := v } ∧ tabGet v.lastPass k 0 = inst ∧
      ∃ p, v.passes = s.steel.passes ++ [p] ∧ p.set = k ∧ p.epoch = n ∧ p.instant = inst := by
  simp only [theoPass, hdue]
  exact ⟨_, rfl, tabGet_tabPut_same .., _, rfl, rfl, rfl, rfl⟩

theorem theoPass_leads {s : State} {k inst j : Nat} {n : Int} (hdowns : s.downs = []) (hdue : passDue s k = some (n, inst, j)) :
    Leads (.theoPass k) s (fun u => u = { s with steel := u.steel, out := [] } ∧ tabGet u.steel.lastPass k 0 = inst ∧
      ∃ p, u.steel.passes = s.steel.passes ++ [p] ∧ p.set = k ∧ p.epoch = n ∧ p.instant = inst) := by
  obtain ⟨v, hf, hlast, hpass⟩ := theoPass_due (s := saying [] s) hdue
  refine ⟨{ s with steel := v, out := [] }, done_plain ?_ rfl rfl rfl rfl rfl, rfl, hlast, hpass⟩
  rw [settled, hf]
  exact settle_quiet rfl rfl hdowns

end Sys2Proof.Machine

/-! ### A pass is applied -/

namespace Sys2Proof.Machine

/-- What the judging of a pass row reads and writes of an endpoint: its state, its generation and LAST_PASS_S. -/
structure Standing where
  state : ParcelState
  generation : Nat
  lastPass : Nat

/-- The standing of a parcel. -/
def standing (p : Parcel) : Standing := { state := p.state, generation := p.generation, lastPass := p.theo.lastPass }

/-- The parts of a state that say how far the waiting passes are applied. -/
structure PassView where
  glob : GlobalSt
  passes : List Pass
  standings : Nat → Standing

/-- Those parts of a state. -/
def passView (s : State) : PassView := { glob := s.glob, passes := s.steel.passes, standings := fun i => standing (parcelOf s i) }

/-- A choice between two states with the same view. -/
theorem passView_ite {p : Prop} [Decidable p] {a b : State} {x : PassView} (ha : passView a = x) (hb : passView b = x) :
    passView (if p then a else b) = x := by
  split
  · exact ha
  · exact hb

/-- The standings with the one of parcel `i` replaced. -/
def withStanding (i : Nat) (x : Standing) (f : Nat → Standing) (m : Nat) : Standing := if m = i then x else f m

@[simp] theorem withStanding_same (i : Nat) (x : Standing) (f : Nat → Standing) : withStanding i x f i = x := if_pos rfl

theorem withStanding_other {i m : Nat} (h : m ≠ i) (x : Standing) (f : Nat → Standing) : withStanding i x f m = f m := if_neg h

theorem withStanding_self (i : Nat) (f : Nat → Standing) : withStanding i (f i) f = f := by
  funext m
  by_cases hm : m = i
  · rw [hm, withStanding_same]
  · exact withStanding_other hm ..

/-- Storing a parcel changes the standing of its index only. -/
theorem passView_setParcel (i : Nat) (p : Parcel) (s : State) : passView (setParcel i p s) =
    { passView s with standings := withStanding i (standing p) (passView s).standings } := by
  have hstandings : (passView (setParcel i p s)).standings = withStanding i (standing p) (passView s).standings := by
    funext m
    by_cases hm : m = i
    · rw [hm, withStanding_same]
      exact congrArg standing (parcelOf_setParcel_same ..)
    · rw [withStanding_other hm]
      exact congrArg standing (tabGet_tabPut_other hm ..)
  rw [← hstandings]
  rfl

/-- Storing a parcel of the same standing keeps the view. -/
theorem passView_setParcel_same {i : Nat} {p : Parcel} {s : State} (h : standing p = standing (parcelOf s i)) :
    passView (setParcel i p s) = passView s := by
  rw [passView_setParcel, h]
  exact congrArg (fun f => { passView s with standings := f }) (withStanding_self ..)

/-- Work that keeps the steady parts, the ledger's store and the Steelyard keeps the view. -/
theorem passView_of_parts {s t : State} (hsteady : steady t = steady s) (hstore : t.store = s.store) (hsteel : t.steel = s.steel) :
    passView t = passView s := by
  simp only [passView, parcelOf, steady_glob hsteady, hstore, hsteel]

@[simp] theorem passView_addEvent (e j i : Nat) (l : List Int) (s : State) : passView (addEvent e j i l s) = passView s :=
  passView_of_parts (steady_addEvent ..) (ledger_store (ledger_addItem ..)) (addEvent_steel ..)

@[simp] theorem passView_commitMade (p : Option Nat) (g : Nat) (b : JBody) (s : State) : passView (commitMade p g b s) = passView s :=
  passView_of_parts (steady_commitMade ..) (congrArg Ledger.store (ledger_commitMade ..)) (commitMade_steel ..)

@[simp] theorem passView_setPhase (i j at_ zc volt : Nat) (s : State) : passView (setPhase i j at_ zc volt s) = passView s := by
  have hset := passView_setParcel_same (s := s) (i := i)
    (p := { parcelOf s i with theo := { (parcelOf s i).theo with phase := (phaseJoin zc volt).1, source := (phaseJoin zc volt).2,
                                                                 voltPhase := volt } }) rfl
  unfold setPhase
  exact passView_ite ((passView_addEvent ..).trans hset) hset

@[simp] theorem passView_withdrawProposal (inst i : Nat) (s : State) : passView (withdrawProposal inst i s) = passView s := by
  unfold withdrawProposal
  exact passView_ite rfl ((passView_addEvent ..).trans (passView_setParcel_same rfl))

@[simp] theorem passView_applyTopology (i node inst t : Nat) (s : State) : passView (applyTopology i node inst t s) = passView s := by
  unfold applyTopology
  refine (passView_setParcel_same ?_).trans ?_ <;> rfl

/-- An entry commits and takes effect, or it waits in its domain; a view that the effect keeps is kept. -/
theorem passView_commitInDomain {i gen : Nat} {b : JBody} {effect : State → State} (h : ∀ t, passView (effect t) = passView t) (s : State) :
    passView (commitInDomain i gen b effect s) = passView s :=
  passView_ite ((h _).trans (passView_commitMade ..)) rfl

@[simp] theorem passView_autoTopology (i : Nat) (r1 : Int) (s : State) : passView (autoTopology i r1 s) = passView s := by
  unfold autoTopology
  exact passView_ite (passView_commitInDomain (fun t => passView_applyTopology _ _ _ _ t) s) rfl

/-- A row is for a parcel in use of the row's generation (07 R175). -/
def rowMeets (p : Parcel) (r : PassRow) : Prop := inUse p = true ∧ p.generation = r.generation

/-- A row whose parcel is free, or of another generation by now, judges nothing. -/
theorem judgeEndpoint_skips {inst : Nat} {r : PassRow} {s : State} (h : ¬ rowMeets (parcelOf s r.parcel) r) : judgeEndpoint inst r s = s := by
  refine if_pos ?_
  by_cases huse : inUse (parcelOf s r.parcel) = true
  · exact .inr fun hgen => h ⟨huse, hgen⟩
  · rw [Bool.eq_false_iff.2 huse]
    exact .inl rfl

/-- Judging an endpoint sets its LAST_PASS_S to the pass instant; scores, phase, proposal and topology leave every standing (07 R175). -/
theorem passView_judgeEndpoint {inst : Nat} {r : PassRow} {s : State} (h : rowMeets (parcelOf s r.parcel) r) :
    passView (judgeEndpoint inst r s) = { passView s with
      standings := withStanding r.parcel { standing (parcelOf s r.parcel) with lastPass := inst / 1000000000 }
        (passView s).standings } := by
  have hmeets : ¬ ((!inUse (parcelOf s r.parcel)) = true ∨ (parcelOf s r.parcel).generation ≠ r.generation) := by
    obtain ⟨huse, hgen⟩ := h
    simp [huse, hgen]
  unfold judgeEndpoint
  refine (if_neg hmeets).symm ▸ ?_
  extract_lets th i cur decisive th' s1 zc s2 upd s3 p3 th3 s4 s5
  have h1 : passView s1 = _ := passView_setParcel ..
  have h2 : passView s2 = passView s1 := passView_ite rfl (passView_setPhase ..)
  have hupd : ∀ f t, (∀ x : TheoState, (f x).lastPass = x.lastPass) → passView (upd f t) = passView t :=
    fun f t hf => passView_setParcel_same (by simp only [standing, hf])
  have hwithdrawn : ∀ f, (∀ x : TheoState, (f x).lastPass = x.lastPass) → passView (upd f (withdrawProposal inst i s2)) = passView s2 :=
    fun f hf => (hupd f _ hf).trans (passView_withdrawProposal ..)
  clear_value upd
  have h3 : passView s3 = passView s2 := by
    refine passView_ite (passView_ite (hwithdrawn _ ?_) (passView_ite (hupd _ _ ?_) (hwithdrawn _ ?_))) (hwithdrawn _ ?_) <;>
      exact fun _ => rfl
  have h4 : passView s4 = passView s3 := by
    refine (passView_setParcel_same ?_).trans ?_ <;> rfl
  have h5 : passView s5 = passView s3 := passView_ite ((passView_addEvent ..).trans h4) rfl
  rw [passView_autoTopology, h5, h3, h2, h1]
  rfl

/-- A row judges the endpoint it is for and changes, of any standing, LAST_PASS_S to the pass instant at most. -/
theorem standing_judgeEndpoint (inst : Nat) (r : PassRow) (s : State) (i : Nat) :
    standing (parcelOf (judgeEndpoint inst r s) i) = standing (parcelOf s i) ∨
    standing (parcelOf (judgeEndpoint inst r s) i) = { standing (parcelOf s i) with lastPass := inst / 1000000000 } := by
  by_cases h : rowMeets (parcelOf s r.parcel) r
  · have hi := congrFun (congrArg PassView.standings (passView_judgeEndpoint (inst := inst) h)) i
    by_cases hir : i = r.parcel
    · subst hir
      exact .inr (hi.trans (withStanding_same ..))
    · exact .inl (hi.trans (withStanding_other hir ..))
  · rw [judgeEndpoint_skips h]
    exact .inl rfl

/-- What the judging of a whole pass leaves: the global block, the waiting passes, and each parcel's state and generation. -/
def judgeFrame (s : State) : GlobalSt × List Pass × (Nat → ParcelState × Nat) :=
  (s.glob, s.steel.passes, fun i => ((parcelOf s i).state, (parcelOf s i).generation))

theorem judgeFrame_judgeEndpoint (inst : Nat) (r : PassRow) (s : State) : judgeFrame (judgeEndpoint inst r s) = judgeFrame s := by
  obtain ⟨hglob, hpasses⟩ : (judgeEndpoint inst r s).glob = s.glob ∧ (judgeEndpoint inst r s).steel.passes = s.steel.passes := by
    by_cases h : rowMeets (parcelOf s r.parcel) r
    · have hview := passView_judgeEndpoint (inst := inst) h
      exact ⟨congrArg PassView.glob hview, congrArg PassView.passes hview⟩
    · rw [judgeEndpoint_skips h]
      exact ⟨rfl, rfl⟩
  have hids : ∀ i, ((parcelOf (judgeEndpoint inst r s) i).state, (parcelOf (judgeEndpoint inst r s) i).generation) =
      ((parcelOf s i).state, (parcelOf s i).generation) := by
    intro i
    rcases standing_judgeEndpoint inst r s i with h | h <;> exact congrArg (fun x => (x.state, x.generation)) h
  rw [judgeFrame, hglob, hpasses, funext hids]
  rfl

/-- A row has been applied: if it is for an endpoint still, LAST_PASS_S there is the pass instant. -/
def RowApplied (inst : Nat) (s : State) (r : PassRow) : Prop :=
  rowMeets (parcelOf s r.parcel) r → (parcelOf s r.parcel).theo.lastPass = inst / 1000000000

theorem rowMeets_judgeEndpoint (inst : Nat) (q r : PassRow) (s : State) :
    rowMeets (parcelOf (judgeEndpoint inst q s) r.parcel) r ↔ rowMeets (parcelOf s r.parcel) r := by
  have hids := congrFun (congrArg (·.2.2) (judgeFrame_judgeEndpoint inst q s)) r.parcel
  obtain ⟨hstate, hgen⟩ := Prod.mk.inj hids
  rw [rowMeets, rowMeets, inUse, inUse, hstate, hgen]

theorem rowApplied_judgeEndpoint (inst : Nat) (r : PassRow) (s : State) : RowApplied inst (judgeEndpoint inst r s) r := by
  intro hmeets
  have hview := passView_judgeEndpoint (inst := inst) ((rowMeets_judgeEndpoint ..).1 hmeets)
  have hstanding := (congrFun (congrArg PassView.standings hview) r.parcel).trans (withStanding_same ..)
  exact congrArg Standing.lastPass hstanding

/-- A row of the same pass leaves every applied row applied. -/
theorem RowApplied.judgeEndpoint {inst : Nat} {r : PassRow} {s : State} (q : PassRow) (h : RowApplied inst s r) :
    RowApplied inst (judgeEndpoint inst q s) r := by
  intro hmeets
  rcases standing_judgeEndpoint inst q s r.parcel with hsame | hset
  · exact (congrArg Standing.lastPass hsame).trans (h ((rowMeets_judgeEndpoint ..).1 hmeets))
  · exact congrArg Standing.lastPass hset

theorem theoPassApply_due {s : State} {p : Pass} {ps : List Pass} (hp : s.steel.passes = p :: ps) (hepoch : p.epoch + 64 ≤ s.epoch.current)
    (hheld : blockHeld s 17 = false) : theoPassApply s =
      forEach p.rows (judgeEndpoint p.instant) (modSteel (fun v => { v with passes := ps, theoPasses := countUp s v.theoPasses }) s) := by
  simp only [theoPassApply, hp]
  refine if_neg ?_
  simp [hheld, Int.not_lt.2 hepoch]

theorem theoPassApply_leads {s : State} {p : Pass} {ps : List Pass} (hp : s.steel.passes = p :: ps)
    (hepoch : p.epoch + 64 ≤ s.epoch.current) (hheld : blockHeld s 17 = false) :
    Leads .theoPassApply s (fun u => u.steel.passes = ps ∧ ∀ r ∈ p.rows, inUse (parcelOf s r.parcel) = true →
      (parcelOf s r.parcel).generation = r.generation → (parcelOf u r.parcel).theo.lastPass = p.instant / 1000000000) := by
  have hf := theoPassApply_due (s := saying [] s) hp hepoch hheld
  generalize hv : modSteel _ (saying [] s) = v at hf
  have hframe : judgeFrame (theoPassApply (saying [] s)) =
      (s.glob, ps, fun i => ((parcelOf s i).state, (parcelOf s i).generation)) := by
    rw [hf, forEach_keeps judgeFrame (judgeFrame_judgeEndpoint p.instant), ← hv]
    rfl
  have hrows : ∀ r ∈ p.rows, RowApplied p.instant (theoPassApply (saying [] s)) r :=
    hf ▸ forEach_reaches (P := RowApplied p.instant) (rowApplied_judgeEndpoint p.instant) (fun q _ _ h => h.judgeEndpoint q) p.rows v
  obtain ⟨hglob, hrest⟩ := Prod.mk.inj hframe
  obtain ⟨hpasses, hids⟩ := Prod.mk.inj hrest
  refine leads_of_steel (f := theoPassApply) rfl hglob fun t hl hsteel => ⟨by rw [hsteel, hpasses], fun r hr huse hgen => ?_⟩
  obtain ⟨hstate, hgen'⟩ := Prod.mk.inj (congrFun hids r.parcel)
  rw [ledger_parcelOf hl]
  refine hrows r hr ⟨?_, hgen'.trans hgen⟩
  rw [inUse, hstate]
  exact huse

/-- Settles O38: a closure ends with its own interval's work done and the next one open, a due pass touches the Steelyard only, and each row of
an applied pass sets LAST_PASS_S where no other row of that pass undoes it. -/
theorem steelyardIntervalsAndPasses : Obligations.SteelyardIntervalsAndPasses :=
  fun _ => ⟨fun _ _ => balanceIntervalClose_leads, fun _ _ _ _ => theoPass_leads, fun _ _ => theoPassApply_leads⟩

end Sys2Proof.Machine

/-! ### What reports and downlinks leave of the flash -/

namespace Sys2Proof.Machine

section
variable (s : State)

@[simp] theorem reportAll_flash : (reportAll s).flash = s.flash := by
  unfold reportAll
  simp only [apply_ite State.flash, forEach_keeps State.flash (fun i t => (rfl : (reportOn i t).flash = t.flash)), ite_self]

@[simp] theorem actDlEnd_flash (d : ActDl) (c : U16) : (actDlEnd d c s).flash = s.flash := by
  simp only [actDlEnd, apply_ite State.flash, modAct_flash, ite_self]

@[simp] theorem actEnqueue_flash (d : Down) : (actEnqueue d s).flash = s.flash := by
  simp only [actEnqueue, apply_ite State.flash, actDlEnd_flash, show ∀ c f, (modCell c f s).flash = s.flash from fun _ _ => rfl, ite_self]

@[simp] theorem routeDown_flash (d : Down) : (routeDown d s).flash = s.flash := by
  simp only [routeDown, downLost, apply_ite State.flash, modPlc_flash, modRadio_flash, actEnqueue_flash, ite_self]

@[simp] theorem routeDowns_flash : (routeDowns s).flash = s.flash := by
  simp only [routeDowns, apply_ite State.flash, forEach_keeps State.flash (fun d t => routeDown_flash t d), ite_self]
end

/-- What follows a command's effect leaves the flash, where the effect entered no serving state. -/
theorem settle_flash {old new : State} (h : new.glob = old.glob) : (settle old new).flash = new.flash := by
  have he : entersService old new = false := by simp [entersService, h]
  simp only [settle, he, routeDowns_flash, apply_ite State.flash, reportAll_flash, ite_self]
  rfl

/-- A command whose effect leaves the global block leads to a state with the flash, the ledger and the time that the effect makes. -/
theorem leads_of_flash {i : Instr} {f : State → State} {s : State} {P : State → Prop} (hi : exec i s = run f s)
    (hg : (f (saying [] s)).glob = s.glob)
    (hP : ∀ t, t.flash = (f (saying [] s)).flash → ledger t = ledger (f (saying [] s)) → t.mono = (f (saying [] s)).mono → P t) :
    Leads i s P :=
  ⟨_, hi, hP _ (settle_flash (old := saying [] s) hg) (ledger_settle (old := saying [] s) hg) (steady_mono (steady_settle ..))⟩

end Sys2Proof.Machine

/-! ### What the flash translation layer has queued, is erasing, has retired and has counted -/

namespace Sys2Proof.Machine

/-- The parts of a state that the flash statements count on beside the segments: the global block, the chunks to program, the blocks being
erased or retired with their P/E counts, and the counters. -/
structure FtlView where
  glob : GlobalSt
  waiting : List Chunk
  erasing : List Nat
  retired : List Nat
  pe : Tab Nat
  chunksWritten : U32
  gcCopied : U32
  readRetries : U32
  uncorrectable : U32
  programFails : U32
  eraseFails : U32
  targetFails : U32

/-- Those parts of a state. -/
def ftl (s : State) : FtlView :=
  { glob := s.glob, waiting := s.flash.waiting, erasing := s.flash.erasing, retired := s.flash.retired, pe := s.flash.pe,
    chunksWritten := s.flash.chunksWritten, gcCopied := s.flash.gcCopied, readRetries := s.flash.readRetries,
    uncorrectable := s.flash.uncorrectable, programFails := s.flash.programFails, eraseFails := s.flash.eraseFails,
    targetFails := s.flash.targetFails }

theorem ftl_glob {s t : State} (h : ftl t = ftl s) : t.glob = s.glob := congrArg FtlView.glob h

/-- A choice between two states with the same view. -/
theorem ftl_ite {p : Prop} [Decidable p] {a b : State} {x : FtlView} (ha : ftl a = x) (hb : ftl b = x) : ftl (if p then a else b) = x := by
  split
  · exact ha
  · exact hb

/-- The blocks retired once `b` is, listed once each. -/
def withRetired (b : Nat) (l : List Nat) : List Nat := if l.contains b then l else l ++ [b]

theorem mem_withRetired_self (b : Nat) (l : List Nat) : b ∈ withRetired b l := by
  unfold withRetired
  split
  · next h => exact List.contains_iff_mem.1 h
  · simp

theorem mem_withRetired_of_mem {b c : Nat} {l : List Nat} (h : c ∈ l) : c ∈ withRetired b l := by
  unfold withRetired
  split
  · exact h
  · exact List.mem_append_left _ h

/-- The view once block `b` is retired. -/
def FtlView.retire (b : Nat) (v : FtlView) : FtlView := { v with retired := withRetired b v.retired }

/-- The view once a copy's target has failed. -/
def FtlView.targetFailed (v : FtlView) : FtlView := { v with targetFails := v.targetFails + 1 }

/-- The view once a program has failed. -/
def FtlView.programFailed (v : FtlView) : FtlView := { v with programFails := v.programFails + 1 }

/-- The view once the erase of block `b` has failed. -/
def FtlView.eraseFailed (b : Nat) (v : FtlView) : FtlView :=
  { v with eraseFails := v.eraseFails + 1, erasing := v.erasing.filter (fun x => x != b) }

/-- The view once a codeword was read with `n` retries, and corrected in a read or in none. -/
def FtlView.readIn (n : Nat) (corrected : Bool) (v : FtlView) : FtlView :=
  { v with readRetries := v.readRetries + u32 n, uncorrectable := v.uncorrectable + (if corrected then 0 else 1) }

theorem BooksOnly.ftl {s t : State} (h : BooksOnly s t) : ftl t = ftl s := by rw [h.1]; rfl

section
variable (s : State)

/-! Programming. -/

@[simp] theorem ftl_fgTest : ftl (fgTest s) = ftl s := rfl
@[simp] theorem ftl_modSeg (n : Nat) (f : Segment → Segment) : ftl (modSeg n f s) = ftl s := rfl
@[simp] theorem ftl_sealSeg (n : Nat) : ftl (sealSeg n s) = ftl s := rfl

@[simp] theorem ftl_addPage (n : Nat) (cs : List Chunk) : ftl (addPage n cs s) = ftl s := by
  unfold addPage
  simp only []
  split
  · exact ftl_ite (ftl_sealSeg ..) rfl
  · rfl

/-! Records, sheet items and containment. -/

@[simp] theorem ftl_record (b : Nat) (c : U16) (p : List U32) : ftl (record b c p s) = ftl s := (record_books b c p s).ftl

@[simp] theorem ftl_containRecord (b : Nat) (c : U16) (k n : Nat) (p : List U32) (l : List Nat) : ftl (containRecord b c k n p l s) = ftl s :=
  (recordFull_books ..).ftl

@[simp] theorem ftl_addItemAt (e : Int) (k j : Nat) (l : List Int) : ftl (addItemAt e k j l s) = ftl s := by
  unfold addItemAt
  exact ftl_ite rfl rfl

@[simp] theorem ftl_blSend (t i : Nat) (b : List U8) : ftl (blSend t i b s) = ftl s := ftl_ite rfl rfl

@[simp] theorem ftl_c4Begin (c : U16) : ftl (c4Begin c s) = ftl s := by
  unfold c4Begin
  exact ftl_ite ((ftl_blSend ..).trans (ftl_ite rfl rfl)) (ftl_ite rfl rfl)

@[simp] theorem ftl_c4Fault (b : Nat) (c : U16) (p : List U32) : ftl (c4Fault b c p s) = ftl s :=
  (ftl_c4Begin ..).trans (ftl_containRecord ..)

/-- An error of class C2 leaves the global block, which only C3 degrades, and the flash (04 Table 4.9). -/
@[simp] theorem ftl_containC2 (sc : Scope) (c : U16) (p : List U32) : ftl (containError 2 sc c p s) = ftl s := by
  unfold containError
  extract_lets blk opened mk push q s1
  have hpush : ∀ h t, ftl (push h t) = ftl t := fun _ _ => rfl
  have hs1 : ftl s1 = ftl s := ftl_containRecord s blk c 2 0 p []
  clear_value opened
  refine (congrArg ftl (if_neg (by decide))).trans ?_
  match opened with
  | [] => exact hs1
  | [h] =>
    exact ftl_ite ((hpush ..).trans (ftl_containRecord ..)) (ftl_ite ((ftl_containRecord ..).trans hs1) hs1)
  | _ :: _ :: _ => exact (ftl_c4Begin ..).trans (ftl_containRecord ..)

/-! Blocks: retired, replaced, released. -/

@[simp] theorem ftl_retireBlock (b : Nat) : ftl (retireBlock b s) = (ftl s).retire b := by
  have hretired : ∀ l, withRetired b s.flash.retired = l → (ftl s).retire b = { ftl s with retired := l } := by
    rintro l rfl
    rfl
  unfold retireBlock
  split
  · next h => exact (hretired _ (if_pos h)).symm
  · next h => exact (hretired _ (if_neg h)).symm

@[simp] theorem ftl_archiveReplace : ftl (archiveReplace s) = ftl s := by
  unfold archiveReplace
  split
  · exact ftl_ite rfl rfl
  · rfl

theorem ftl_forceSegment {t : State} (h : forceSegment s = some t) : ftl t = ftl s := by
  unfold forceSegment at h
  split at h
  · cases h
  · cases h
    exact (ftl_addItemAt ..).trans (ftl_record ..)

@[simp] theorem ftl_reserveReplace (ring : Bool) : ftl (reserveReplace ring s) = ftl s := by
  unfold reserveReplace
  refine ftl_ite rfl ?_
  split
  · rfl
  · split
    · rfl
    · split
      · next h => exact ftl_forceSegment s h
      · exact ftl_ite (ftl_ite (ftl_c4Fault ..) rfl) rfl
end

/-- A block is taken from the free blocks or the spare pool, and nothing else changes. -/
def TakesBlock (s t : State) : Prop := ∃ free spare n, t = modFlash (fun f => { f with free := free, spare := spare, archGood := n }) s

theorem takeArchiveBlock_takes {s t : State} {b : Nat} (h : takeArchiveBlock s = some (b, t)) : TakesBlock s t := by
  unfold takeArchiveBlock at h
  split at h
  · cases h
    exact ⟨_, _, _, rfl⟩
  · obtain ⟨-, h⟩ := Option.ite_none_right_eq_some.1 h
    obtain ⟨x, -, e⟩ := Option.map_eq_some_iff.1 h
    obtain ⟨-, rfl⟩ := Prod.mk.inj e
    exact ⟨_, _, _, rfl⟩

theorem TakesBlock.ftl {s t : State} (h : TakesBlock s t) : ftl t = ftl s := by
  obtain ⟨_, _, _, rfl⟩ := h
  rfl

theorem TakesBlock.segments {s t : State} (h : TakesBlock s t) : t.flash.segments = s.flash.segments := by
  obtain ⟨_, _, _, rfl⟩ := h
  rfl

/-- A copy restarts: its target is retired and counted, and every other part of the view stays (08 R197). -/
theorem ftl_gcRestart (j : GcJob) (s : State) : ftl (gcRestart j s) = (ftl s).targetFailed.retire j.target := by
  have hretired : ftl (archiveReplace (retireBlock j.target (modFlash (fun f => { f with targetFails := f.targetFails + 1 }) s))) =
      (ftl s).targetFailed.retire j.target := by
    rw [ftl_archiveReplace, ftl_retireBlock]
    rfl
  unfold gcRestart
  simp only []
  split
  · next h => exact (takeArchiveBlock_takes h).ftl.trans hretired
  · exact hretired

/-! ### Reclamation begins -/

/-- The best element that a fold picks is the first one given or of the list. -/
theorem foldl_pick_mem {α : Type} {pick : Option α → α → Option α} (h : ∀ a g, pick a g = a ∨ pick a g = some g) {l : List α} {a : Option α}
    {x : α} (hx : l.foldl pick a = some x) : a = some x ∨ x ∈ l := by
  induction l generalizing a with
  | nil => exact .inl hx
  | cons g l ih =>
    rcases ih hx with hp | hl
    · rcases h a g with e | e <;> rw [e] at hp
      · exact .inl hp
      · cases hp
        exact .inr List.mem_cons_self
    · exact .inr (List.mem_cons_of_mem _ hl)

/-- A victim is a segment of the table. -/
theorem mem_of_victim {s : State} {g : Segment} (h : victim s = some g) : g ∈ s.flash.segments := by
  have hfilter : ∀ {p : Segment → Bool} {l : List Segment}, g ∈ l.filter p → g ∈ l := fun h => (List.mem_filter.1 h).1
  have hpick : ∀ (a b : Option Segment) (q : Prop) [Decidable q], (if q then b else a) = a ∨ (if q then b else a) = b := by
    intro a b q _
    by_cases hq : q
    · exact .inr (if_pos hq)
    · exact .inl (if_neg hq)
  unfold victim at h
  extract_lets sealed at h
  split at h
  · next hl =>
    cases h
    have hg : g ∈ s.flash.relocate.filterMap (segOf s) := hl ▸ List.mem_cons_self
    obtain ⟨n, -, hn⟩ := List.mem_filterMap.1 hg
    exact List.mem_of_find?_eq_some hn
  · split at h
    · refine hfilter ((foldl_pick_mem (fun a x => ?_) h).resolve_left nofun)
      cases a with
      | none => exact .inr rfl
      | some y => exact hpick ..
    · refine hfilter (hfilter ((foldl_pick_mem (fun a x => ?_) h).resolve_left nofun))
      cases a with
      | none => exact .inr rfl
      | some y => exact hpick ..

/-- Where reclamation is asked to begin, it does no more than its tests, erases an empty victim, or begins a copy to a block it takes
(08 R195). -/
theorem gcStart_cases (s : State) : gcStart s = fgTest s ∨
    (∃ g ∈ s.flash.segments, validPages g = 0 ∧ gcStart s = dropSeg g.serial (fgTest s)) ∨
    ∃ j t, TakesBlock (fgTest s) t ∧ gcStart s = workPush 2 (modFlash (fun f => { f with job := some j }) t) := by
  unfold gcStart
  simp only []
  split
  · exact .inl rfl
  · split
    · exact .inl rfl
    · next g hg =>
      split
      · next hempty => exact .inr (.inl ⟨g, mem_of_victim hg, hempty, rfl⟩)
      · split
        · exact .inl rfl
        · next b t ht =>
          refine .inr (.inr ⟨_, t, ?_, rfl⟩)
          split at ht
          · next x hx =>
            cases ht
            exact takeArchiveBlock_takes hx
          · obtain ⟨x, -, e⟩ := Option.map_eq_some_iff.1 ht
            obtain ⟨-, rfl⟩ := Prod.mk.inj e
            exact ⟨_, _, _, rfl⟩

/-- Of the view only the blocks being erased differ. -/
def ErasesOnly (s t : State) : Prop := ftl t = { ftl s with erasing := t.flash.erasing }

theorem ErasesOnly.of_ftl {s t : State} (h : ftl t = ftl s) : ErasesOnly s t := by
  have he : t.flash.erasing = s.flash.erasing := congrArg FtlView.erasing h
  rw [ErasesOnly, he, h]
  rfl

theorem ErasesOnly.trans {s t u : State} (h : ErasesOnly s t) (k : ErasesOnly t u) : ErasesOnly s u := by
  unfold ErasesOnly at *
  rw [k, h]

section
variable {s t : State} (h : ErasesOnly s t)
include h
theorem ErasesOnly.glob : t.glob = s.glob := congrArg FtlView.glob h
theorem ErasesOnly.waiting : t.flash.waiting = s.flash.waiting := congrArg FtlView.waiting h
theorem ErasesOnly.retired : t.flash.retired = s.flash.retired := congrArg FtlView.retired h
theorem ErasesOnly.pe : t.flash.pe = s.flash.pe := congrArg FtlView.pe h
theorem ErasesOnly.chunksWritten : t.flash.chunksWritten = s.flash.chunksWritten := congrArg FtlView.chunksWritten h
theorem ErasesOnly.gcCopied : t.flash.gcCopied = s.flash.gcCopied := congrArg FtlView.gcCopied h
theorem ErasesOnly.readRetries : t.flash.readRetries = s.flash.readRetries := congrArg FtlView.readRetries h
theorem ErasesOnly.uncorrectable : t.flash.uncorrectable = s.flash.uncorrectable := congrArg FtlView.uncorrectable h
theorem ErasesOnly.programFails : t.flash.programFails = s.flash.programFails := congrArg FtlView.programFails h
end

theorem dropSeg_erases (n : Nat) (s : State) : ErasesOnly s (dropSeg n s) := by
  unfold dropSeg
  split <;> rfl

theorem gcStart_erases (s : State) : ErasesOnly s (gcStart s) := by
  rcases gcStart_cases s with h | ⟨g, -, -, h⟩ | ⟨j, t, ht, h⟩ <;> rw [h]
  · rfl
  · exact dropSeg_erases g.serial (fgTest s)
  · exact .of_ftl ht.ftl

/-- Only blocks of segments go to be erased when a segment is dropped. -/
theorem mem_erasing_dropSeg {n b : Nat} {s : State} (h : b ∈ (dropSeg n s).flash.erasing) :
    b ∈ s.flash.erasing ∨ ∃ g ∈ s.flash.segments, g.block = b := by
  unfold dropSeg at h
  split at h
  · exact .inl h
  · next g hg =>
    have hmem : b ∈ (if s.flash.retired.contains g.block then s.flash.erasing else s.flash.erasing ++ [g.block]) := h
    split at hmem
    · exact .inl hmem
    · rcases List.mem_append.1 hmem with hold | hnew
      · exact .inl hold
      · exact .inr ⟨g, List.mem_of_find?_eq_some hg, (List.mem_singleton.1 hnew).symm⟩

theorem mem_erasing_gcStart {b : Nat} {s : State} (h : b ∈ (gcStart s).flash.erasing) :
    b ∈ s.flash.erasing ∨ ∃ g ∈ s.flash.segments, g.block = b := by
  rcases gcStart_cases s with e | ⟨g, -, -, e⟩ | ⟨j, t, ht, e⟩ <;> rw [e] at h
  · exact .inl h
  · exact mem_erasing_dropSeg (s := fgTest s) h
  · have he : t.flash.erasing = s.flash.erasing := congrArg FtlView.erasing ht.ftl
    exact .inl (he ▸ h)

/-- Dropping a segment leaves those of other serials. -/
theorem mem_segments_dropSeg {n : Nat} {x : Segment} {s : State} (hx : x ∈ s.flash.segments) (hn : x.serial ≠ n) :
    x ∈ (dropSeg n s).flash.segments := by
  unfold dropSeg
  split
  · exact hx
  · exact List.mem_filter.2 ⟨hx, bne_iff_ne.2 hn⟩

/-- The segments after a drop are segments from before. -/
theorem mem_of_mem_segments_dropSeg {n : Nat} {x : Segment} {s : State} (hx : x ∈ (dropSeg n s).flash.segments) : x ∈ s.flash.segments := by
  unfold dropSeg at hx
  split at hx
  · exact hx
  · exact (List.mem_filter.1 hx).1

/-- Reclamation leaves a segment that holds valid pages, where no other segment has its serial. -/
theorem mem_segments_gcStart {x : Segment} {s : State} (hx : x ∈ s.flash.segments) (hvalid : 0 < validPages x)
    (hserial : ∀ g ∈ s.flash.segments, g.serial = x.serial → g = x) : x ∈ (gcStart s).flash.segments := by
  rcases gcStart_cases s with e | ⟨g, hg, hempty, e⟩ | ⟨j, t, ht, e⟩ <;> rw [e]
  · exact hx
  · refine mem_segments_dropSeg (s := fgTest s) hx fun hs => ?_
    rw [hserial g hg hs.symm] at hempty
    omega
  · have hsegs : t.flash.segments = s.flash.segments := ht.segments
    exact (congrArg (x ∈ ·) hsegs).mpr hx

end Sys2Proof.Machine

/-! ### Chunks are programmed, and a segment is sealed -/

namespace Sys2Proof.Machine

/-- With a segment open and no copy under way, the page that fits is programmed into that segment (08 R190). -/
theorem chunkProgramDone_open {s : State} {g : Segment} (hwait : s.flash.waiting ≠ []) (hopen : openSeg s = some g) (hjob : s.flash.job = none) :
    chunkProgramDone s = gcStart (workServe 0 (pageFit 16384 s.flash.waiting).length (modFlash (fun f => { f with
      waiting := f.waiting.drop (pageFit 16384 s.flash.waiting).length, gcSlots := 0, writeCode := OC_OK,
      chunksWritten := f.chunksWritten + u32 (pageFit 16384 s.flash.waiting).length })
      (addPage g.serial (pageFit 16384 s.flash.waiting) (dropDuplicates (pageFit 16384 s.flash.waiting) (fgTest s))))) := by
  have hopen' : openSeg (fgTest s) = some g := hopen
  have hwaits : (fgTest s).flash.waiting = s.flash.waiting := rfl
  have hjobs : (fgTest s).flash.job = s.flash.job := rfl
  simp only [chunkProgramDone, hopen', hwaits, hjobs, hjob]
  exact if_neg (by simp [hwait])

theorem chunkProgramDone_leads {s : State} {g : Segment} (hwait : s.flash.waiting ≠ []) (hopen : openSeg s = some g)
    (hjob : s.flash.job = none) : Leads .chunkProgramDone s (fun u =>
      u.flash.waiting = s.flash.waiting.drop (pageFit 16384 s.flash.waiting).length ∧
      u.flash.chunksWritten = s.flash.chunksWritten + u32 (pageFit 16384 s.flash.waiting).length) := by
  have hf := chunkProgramDone_open (s := saying [] s) hwait hopen hjob
  generalize hu : addPage g.serial _ _ = u at hf
  have hpage : ftl u = ftl s := hu ▸ ftl_addPage ..
  have herases := hf ▸ gcStart_erases _
  refine leads_of_flash (f := chunkProgramDone) rfl ?_ fun t hflash _ _ => ⟨?_, ?_⟩
  · exact herases.glob.trans (congrArg FtlView.glob hpage)
  · rw [hflash, herases.waiting]
    exact congrArg (List.drop _) (congrArg FtlView.waiting hpage)
  · rw [hflash, herases.chunksWritten]
    exact congrArg (· + u32 _) (congrArg FtlView.chunksWritten hpage)

/-- The segment found under a serial is the one that was found, changed, where an update changes every segment of that serial. -/
theorem segOf_modSeg_same {n : Nat} {f : Segment → Segment} (hf : ∀ g, (f g).serial = g.serial) (s : State) :
    segOf (modSeg n f s) n = (segOf s n).map f := by
  have hkeeps : ((fun g => g.serial == n) ∘ fun g => if g.serial = n then f g else g) = fun g : Segment => g.serial == n := by
    funext g
    by_cases hg : g.serial = n <;> simp [hg, hf]
  simp only [segOf, modSeg, modFlash, List.find?_map, hkeeps]
  refine Option.map_congr fun g hg => if_pos ?_
  simpa using List.find?_some hg

/-- A segment of the table is sealed from its seal on (08 R190). -/
theorem sealedAt_sealSeg {n : Nat} {s : State} {g : Segment} (h : segOf s n = some g) :
    (segOf (sealSeg n s) n).any (·.sealedAt.isSome) = true := by
  have hsealed : ∀ (f : Segment → Segment) (t : State), (∀ g, (f g).serial = g.serial) → (∀ g, (f g).sealedAt.isSome = true) →
      segOf t n = some g → (segOf (modSeg n f t) n).any (·.sealedAt.isSome) = true := by
    intro f t hserial hf ht
    rw [segOf_modSeg_same hserial, ht]
    exact hf g
  exact hsealed _ _ (fun _ => rfl) (fun _ => rfl) h

@[simp] theorem sealSeg_mono (n : Nat) (s : State) : (sealSeg n s).mono = s.mono := rfl

theorem segOf_of_openSeg {s : State} {g : Segment} (h : openSeg s = some g) : ∃ x, segOf s g.serial = some x :=
  Option.isSome_iff_exists.1 (List.find?_isSome.2 ⟨g, List.mem_of_find?_eq_some h, beq_self_eq_true g.serial⟩)

theorem TimePasses.flash {s t : State} (h : TimePasses s t) : t.flash = s.flash := by rw [h]

theorem segmentSealTimeout_open {s : State} {g : Segment} (hopen : openSeg s = some g) :
    segmentSealTimeout s = sealSeg g.serial (elapseTo (g.openedAt + 600000000000) s) := by
  simp only [segmentSealTimeout, hopen]

theorem segmentSealTimeout_leads {s : State} {g : Segment} (hopen : openSeg s = some g) :
    Leads .segmentSealTimeout s (fun u => (segOf u g.serial).any (·.sealedAt.isSome) = true ∧ g.openedAt + 600000000000 ≤ u.mono) := by
  have htime := elapseTo_passes (g.openedAt + 600000000000) (saying [] s)
  have hle := le_mono_elapseTo (g.openedAt + 600000000000) (saying [] s)
  have hf := segmentSealTimeout_open (s := saying [] s) hopen
  generalize elapseTo (g.openedAt + 600000000000) (saying [] s) = w at htime hle hf
  obtain ⟨x, hx⟩ := segOf_of_openSeg hopen
  have hw : segOf w g.serial = some x := by rw [segOf, htime.flash]; exact hx
  have hview : ftl (segmentSealTimeout (saying [] s)) = ftl w := hf ▸ ftl_sealSeg ..
  refine leads_of_flash (f := segmentSealTimeout) rfl ((ftl_glob hview).trans htime.glob) fun t hflash _ hmono => ⟨?_, ?_⟩
  · rw [segOf, hflash, hf]
    exact sealedAt_sealSeg hw
  · rw [hmono, hf, sealSeg_mono]
    exact hle

end Sys2Proof.Machine

/-! ### A copy is verified, or its target fails -/

namespace Sys2Proof.Machine

/-- A page of the victim is copied to page `k` of the target under way: counted, no longer valid at its source, and tagged (08 R195). -/
def pageCopied (victim k : Nat) (p : SegPage) (s : State) : PageTag × State :=
  newTag 1 1 s.flash.nextSerial k (archivePage p.chunks) <|
    modSeg victim (fun g => { g with pages := g.pages.map (fun x => if x.page = p.page then { x with valid := false } else x) }) <|
      modFlash (fun f => { f with gcCopied := f.gcCopied + 1, gcSlots := min 15 (f.gcSlots + 1) }) s

theorem ftl_pageCopied (v k : Nat) (p : SegPage) (s : State) :
    ftl (pageCopied v k p s).2 = { ftl s with gcCopied := s.flash.gcCopied + 1 } := rfl

/-- Copying a page leaves the serials of the segments, and the next one. -/
theorem serial_lt_pageCopied {v k : Nat} {p : SegPage} {s : State} (h : ∀ x ∈ s.flash.segments, x.serial < s.flash.nextSerial) :
    ∀ x ∈ (pageCopied v k p s).2.flash.segments, x.serial < (pageCopied v k p s).2.flash.nextSerial := by
  intro x hx
  obtain ⟨y, hy, rfl⟩ := List.mem_map.1 hx
  have hlt := h y hy
  split
  · exact hlt
  · exact hlt

/-- A verified page goes to the copy under way, which ends with its last page (08 R195, R197). -/
theorem gcCopyVerified_page {s : State} {j : GcJob} {g : Segment} {p : SegPage} {rest : List SegPage} (hjob : s.flash.job = some j)
    (hseg : segOf s j.victim = some g) (hpages : g.pages.filter (·.valid) = p :: rest) : gcCopyVerified true s =
      if rest.isEmpty then
        gcFinish j g (j.copied ++ [{ p with tag := (pageCopied j.victim j.copied.length p s).1 }]) (pageCopied j.victim j.copied.length p s).2
      else modFlash (fun f => { f with job := some { j with
        copied := j.copied ++ [{ p with tag := (pageCopied j.victim j.copied.length p s).1 }] } }) (pageCopied j.victim j.copied.length p s).2 := by
  simp only [gcCopyVerified, hjob, hseg, hpages]
  rfl

theorem gcCopyVerified_failed {s : State} {j : GcJob} {g : Segment} (hjob : s.flash.job = some j) (hseg : segOf s j.victim = some g) :
    gcCopyVerified false s = gcRestart j s := by
  simp only [gcCopyVerified, hjob, hseg]
  rfl

/-- The segment that a finished copy makes. -/
def copySegment (j : GcJob) (g : Segment) (done : List SegPage) (s : State) : Segment :=
  { g with serial := s.flash.nextSerial, block := j.target, pages := done.zipIdx.map (fun e => { e.1 with page := e.2, valid := true }),
           sealedAt := if scoredNow s then g.sealedAt else some (devTime s) }

/-- Every page of it is valid. -/
theorem validPages_copySegment (j : GcJob) (g : Segment) (done : List SegPage) (s : State) :
    validPages (copySegment j g done s) = done.length := by
  have hall : (copySegment j g done s).pages.filter (·.valid) = (copySegment j g done s).pages := by
    refine List.filter_eq_self.2 fun x hx => ?_
    obtain ⟨e, -, rfl⟩ := List.mem_map.1 hx
    rfl
  rw [validPages, hall, copySegment, List.length_map, List.length_zipIdx]

/-- A copy that took pages makes its segment of the target, the victim is dropped, and the next copy may begin. -/
theorem gcFinish_pages {j : GcJob} {g : Segment} {done : List SegPage} (h : done ≠ []) (s : State) : gcFinish j g done s =
    workServe 2 1 (gcStart (modFlash (fun f => { f with
      segments := f.segments ++ [copySegment j g done s], nextSerial := f.nextSerial + 1, job := none }) (dropSeg j.victim s))) := by
  unfold gcFinish
  simp only []
  rw [if_neg (by simpa using h)]
  rfl

theorem gcFinish_erases {j : GcJob} {g : Segment} {done : List SegPage} (h : done ≠ []) (s : State) : ErasesOnly s (gcFinish j g done s) := by
  rw [gcFinish_pages h]
  exact (dropSeg_erases j.victim s).trans (gcStart_erases _)

/-- The target of a finished copy is a segment with valid pages, which the reclamation that follows leaves: no other segment has its
serial. -/
theorem target_mem_gcFinish {j : GcJob} {g : Segment} {done : List SegPage} {s : State} (h : done ≠ [])
    (hserial : ∀ x ∈ s.flash.segments, x.serial < s.flash.nextSerial) :
    ∃ x ∈ (gcFinish j g done s).flash.segments, x.block = j.target ∧ 0 < validPages x := by
  have hvalid : 0 < validPages (copySegment j g done s) := validPages_copySegment j g done s ▸ List.length_pos_iff.2 h
  rw [gcFinish_pages h]
  refine ⟨copySegment j g done s, mem_segments_gcStart (List.mem_append_right _ (List.mem_singleton_self _)) hvalid ?_, rfl, hvalid⟩
  intro x hx hs
  rcases List.mem_append.1 hx with hold | hnew
  · exact absurd hs (Nat.ne_of_lt (hserial x (mem_of_mem_segments_dropSeg hold)))
  · exact List.mem_singleton.1 hnew

section
variable {s : State} {j : GcJob} {g : Segment} {p : SegPage} {rest : List SegPage} (hjob : s.flash.job = some j)
  (hseg : segOf s j.victim = some g)
include hjob hseg

theorem gcCopyVerified_next_leads (hpages : g.pages.filter (·.valid) = p :: rest) (hrest : rest ≠ []) :
    Leads (.gcCopyVerified true) s (fun u => (∃ t, u.flash.job = some { j with copied := j.copied ++ [{ p with tag := t }] }) ∧
      u.flash.gcCopied = s.flash.gcCopied + 1) := by
  have hf := gcCopyVerified_page (s := saying [] s) hjob hseg hpages
  have hview := ftl_pageCopied j.victim j.copied.length p (saying [] s)
  generalize pageCopied j.victim j.copied.length p (saying [] s) = x at hf hview
  rw [if_neg (by simpa using hrest)] at hf
  refine leads_of_flash (f := gcCopyVerified true) rfl ?_ fun t hflash _ _ => ?_
  · rw [hf]
    exact congrArg FtlView.glob hview
  · rw [hflash, hf]
    exact ⟨⟨x.1, rfl⟩, congrArg FtlView.gcCopied hview⟩

theorem gcCopyVerified_last_leads (hpages : g.pages.filter (·.valid) = p :: rest) (hrest : rest = [])
    (hserial : ∀ x ∈ s.flash.segments, x.serial < s.flash.nextSerial) :
    Leads (.gcCopyVerified true) s (fun u => (∃ x ∈ u.flash.segments, x.block = j.target ∧ 0 < validPages x) ∧
      u.flash.gcCopied = s.flash.gcCopied + 1) := by
  have hf := gcCopyVerified_page (s := saying [] s) hjob hseg hpages
  rw [if_pos (by simp [hrest])] at hf
  have hserial' := serial_lt_pageCopied (v := j.victim) (k := j.copied.length) (p := p) (s := saying [] s) hserial
  have hview := ftl_pageCopied j.victim j.copied.length p (saying [] s)
  generalize pageCopied j.victim j.copied.length p (saying [] s) = x at hf hserial' hview
  have hdone : j.copied ++ [{ p with tag := x.1 }] ≠ [] := List.append_ne_nil_of_right_ne_nil _ (List.cons_ne_nil _ _)
  have herases : ErasesOnly x.2 (gcCopyVerified true (saying [] s)) := hf ▸ gcFinish_erases hdone x.2
  refine leads_of_flash (f := gcCopyVerified true) rfl (herases.glob.trans (congrArg FtlView.glob hview)) fun t hflash _ _ => ?_
  rw [hflash]
  refine ⟨?_, herases.gcCopied.trans (congrArg FtlView.gcCopied hview)⟩
  rw [hf]
  exact target_mem_gcFinish hdone hserial'

theorem gcCopyVerified_failed_leads : Leads (.gcCopyVerified false) s (fun u =>
    u.flash.retired.contains j.target = true ∧ u.flash.targetFails = s.flash.targetFails + 1) := by
  have hview : ftl (gcCopyVerified false (saying [] s)) = _ :=
    (congrArg ftl (gcCopyVerified_failed (s := saying [] s) hjob hseg)).trans (ftl_gcRestart ..)
  refine leads_of_flash (f := gcCopyVerified false) rfl (congrArg FtlView.glob hview) fun t hflash _ _ => ?_
  have hretired : t.flash.retired = withRetired j.target s.flash.retired := hflash ▸ congrArg FtlView.retired hview
  exact ⟨hretired ▸ List.contains_iff_mem.2 (mem_withRetired_self ..), hflash ▸ congrArg FtlView.targetFails hview⟩
end

end Sys2Proof.Machine

/-! ### Failed blocks are retired, and erased ones are free again -/

namespace Sys2Proof.Machine

/-- What the work after a failed program leaves: the global block, PROGRAM_FAILS, and every block retired. -/
def StaysRetired (s t : State) : Prop :=
  t.glob = s.glob ∧ t.flash.programFails = s.flash.programFails ∧ ∀ b ∈ s.flash.retired, b ∈ t.flash.retired

theorem ErasesOnly.staysRetired {s t : State} (h : ErasesOnly s t) : StaysRetired s t :=
  ⟨h.glob, h.programFails, fun _ hb => h.retired.symm ▸ hb⟩

/-- A copy whose target fails restarts or is given up. -/
theorem gcCopyVerified_false_staysRetired (s : State) : StaysRetired s (gcCopyVerified false s) := by
  unfold gcCopyVerified
  split
  · exact ⟨rfl, rfl, fun _ hb => hb⟩
  · split
    · exact ⟨rfl, rfl, fun _ hb => hb⟩
    · next j _ _ _ _ =>
      have hview := ftl_gcRestart j s
      have hretired : (gcRestart j s).flash.retired = withRetired j.target s.flash.retired := congrArg FtlView.retired hview
      exact ⟨congrArg FtlView.glob hview, congrArg FtlView.programFails hview, fun b hb => hretired ▸ mem_withRetired_of_mem hb⟩

/-- A segment queued for relocation gets reclamation to begin (08 R194, R198). -/
theorem relocate_erases (n : Nat) (s : State) : ErasesOnly s (gcStart (workPushAt 1 2 (modFlash (fun f => { f with
    relocate := if f.relocate.contains n then f.relocate else f.relocate ++ [n] }) s))) := gcStart_erases _

theorem moveBlock_erases (b : Nat) (s : State) : ErasesOnly s (moveBlock b s) := by
  unfold moveBlock
  split
  · rfl
  · next g _ => exact relocate_erases g.serial (sealSeg g.serial s)

/-- What a failed program does first: it is counted, contained as C2, and its block is retired (08 R198). -/
def programFailed (block page : Nat) (s : State) : State :=
  retireBlock block (containError 2 (.op 13 block) OC_NAND_PROGRAM_FAIL [u32 block, u32 page]
    (modFlash (fun f => { f with programFails := f.programFails + 1 }) s))

theorem ftl_programFailed (block page : Nat) (s : State) : ftl (programFailed block page s) =
    (ftl s).programFailed.retire block := by
  rw [programFailed, ftl_retireBlock, ftl_containC2]
  rfl

/-- What replaces the block of a failed program leaves it retired and counted. -/
theorem nandProgramFail_staysRetired (area block page : Nat) (s : State) :
    StaysRetired (programFailed block page s) (nandProgramFail area block page s) := by
  unfold nandProgramFail
  extract_lets s1 s2 s3 target
  change StaysRetired s3 _
  split
  · split
    · exact gcCopyVerified_false_staysRetired s3
    · exact ((moveBlock_erases block s3).trans (.of_ftl (ftl_archiveReplace _))).staysRetired
  · exact (ErasesOnly.of_ftl (ftl_reserveReplace ..)).staysRetired

theorem nandProgramFail_leads (area block page : Nat) (s : State) : Leads (.nandProgramFail area block page) s (fun u =>
    u.flash.retired.contains block = true ∧ u.flash.programFails = s.flash.programFails + 1) := by
  obtain ⟨hglob, hfails, hretired⟩ := nandProgramFail_staysRetired area block page (saying [] s)
  have hu := ftl_programFailed block page (saying [] s)
  generalize programFailed block page (saying [] s) = u at hglob hfails hretired hu
  refine leads_of_flash (f := nandProgramFail area block page) rfl (hglob.trans (congrArg FtlView.glob hu)) fun t hflash _ _ => ?_
  rw [hflash, hfails]
  have hu' : u.flash.retired = withRetired block s.flash.retired := congrArg FtlView.retired hu
  exact ⟨List.contains_iff_mem.2 (hretired block (hu' ▸ mem_withRetired_self ..)), congrArg FtlView.programFails hu⟩

/-- A failed erase counts, ends, and retires its block; a copy to that block restarts (08 R198). -/
theorem ftl_nandEraseFail (area block : Nat) (s : State) :
    ftl (nandEraseFail area block s) = ((ftl s).eraseFailed block).retire block ∨
      ftl (nandEraseFail area block s) = ((ftl s).eraseFailed block).targetFailed.retire block := by
  unfold nandEraseFail
  extract_lets s1 s2 s3
  have hs2 : ftl s2 = (ftl s).eraseFailed block := ftl_record s1 ..
  split
  · next j hj =>
    obtain ⟨-, htarget⟩ := Option.filter_eq_some_iff.1 hj
    rw [ftl_gcRestart, beq_iff_eq.1 htarget, hs2]
    exact .inr rfl
  · have hs3 : ftl s3 = ((ftl s).eraseFailed block).retire block := by rw [ftl_retireBlock, hs2]
    refine .inl (ftl_ite ?_ ?_)
    · rw [ftl_fgTest, ftl_archiveReplace, hs3]
    · rw [ftl_reserveReplace, hs3]

theorem nandEraseFail_leads (area block : Nat) (s : State) : Leads (.nandEraseFail area block) s (fun u =>
    u.flash.retired.contains block = true ∧ u.flash.eraseFails = s.flash.eraseFails + 1 ∧ u.flash.erasing.contains block = false) := by
  obtain ⟨c, hview⟩ : ∃ c, ftl (nandEraseFail area block (saying [] s)) =
      { ((ftl s).eraseFailed block).retire block with targetFails := c } := by
    rcases ftl_nandEraseFail area block (saying [] s) with h | h <;> exact ⟨_, h⟩
  refine leads_of_flash (f := nandEraseFail area block) rfl (congrArg FtlView.glob hview) fun t hflash _ _ => ?_
  have hretired : t.flash.retired = withRetired block s.flash.retired := hflash ▸ congrArg FtlView.retired hview
  have herasing : t.flash.erasing = s.flash.erasing.filter (fun x => x != block) := hflash ▸ congrArg FtlView.erasing hview
  refine ⟨hretired ▸ List.contains_iff_mem.2 (mem_withRetired_self ..), hflash ▸ congrArg FtlView.eraseFails hview, ?_⟩
  simp [herasing]

/-- An erased block is no longer being erased, counts the erase, and is free unless it is retired (08 R195, R198). -/
def blockErased (b : Nat) (s : State) : State :=
  modFlash (fun f => { f with erasing := f.erasing.filter (fun x => x != b), pe := tabMod f.pe b 0 (· + 1),
                              free := if f.retired.contains b then f.free else rangesAdd b f.free }) s

theorem nandEraseDone_erasing {b : Nat} {s : State} (h : s.flash.erasing.contains b = true) :
    nandEraseDone b s = gcStart (blockErased b s) :=
  if_neg (by simpa using h)

theorem nandEraseDone_leads {b : Nat} {s : State} (h : s.flash.erasing.contains b = true) (hseg : ∀ g ∈ s.flash.segments, g.block ≠ b) :
    Leads (.nandEraseDone b) s (fun u => u.flash.erasing.contains b = false ∧ tabGet u.flash.pe b 0 = tabGet s.flash.pe b 0 + 1) := by
  have hf := nandEraseDone_erasing (s := saying [] s) h
  have herases := gcStart_erases (blockErased b (saying [] s))
  refine leads_of_flash (f := nandEraseDone b) rfl (hf ▸ herases.glob) fun t hflash _ _ => ?_
  rw [hflash, hf]
  constructor
  · refine Bool.eq_false_iff.2 fun hmem => ?_
    rcases mem_erasing_gcStart (List.contains_iff_mem.1 hmem) with hold | ⟨g, hg, hb⟩
    · exact absurd rfl (bne_iff_ne.1 (List.mem_filter.1 hold).2)
    · exact hseg g hg hb
  · rw [herases.pe]
    exact tabGet_tabPut_same ..

end Sys2Proof.Machine

/-! ### Reads are retried -/

namespace Sys2Proof.Machine

/-- The offset sets of the reads go to the NAND interface (08 R193). -/
def readsEmitted (block page : Nat) (l : List Nat) (s : State) : State :=
  forEach l (fun k t => emit (.nandOffsets block page (offsetLevels t k)) t) s

section
variable (b p : Nat) (l : List Nat) (s : State)

/-- Only the outputs differ once the sets are sent. -/
theorem readsEmitted_only : readsEmitted b p l s = { s with out := (readsEmitted b p l s).out } := by
  unfold readsEmitted
  induction l generalizing s with
  | nil => rfl
  | cons k l ih => exact ih (emit (.nandOffsets b p (offsetLevels s k)) s)

theorem ftl_readsEmitted : ftl (readsEmitted b p l s) = ftl s := by rw [readsEmitted_only]; rfl

theorem readsEmitted_flash : (readsEmitted b p l s).flash = s.flash := by rw [readsEmitted_only]

theorem cleanUnder_readsEmitted (e : List (Option Nat)) (k : Nat) : cleanUnder (readsEmitted b p l s) e k = cleanUnder s e k := by
  rw [readsEmitted_only]
  rfl
end

section
variable {s : State} {area block page : Nat} (codeword : Nat) {errors : List (Option Nat)}

/-- A read that is clean at once is a C1 event (08 R192). -/
theorem nandReadRetry_clean (h : cleanUnder s errors (readSetOf s area block page) = true) :
    nandReadRetry area block page codeword errors s = containC1 (readsEmitted block page [readSetOf s area block page] s) := by
  unfold nandReadRetry
  extract_lets st tried s1 s2
  have htried : tried = [] := if_pos h
  have hs1 : s1 = readsEmitted block page [st] s := by simp only [s1, htried, readsEmitted]
  rw [if_pos ⟨htried, by rw [hs1, cleanUnder_readsEmitted]; exact h⟩, hs1]

theorem nandReadRetry_clean_leads (h : cleanUnder s errors (readSetOf s area block page) = true) :
    Leads (.nandReadRetry area block page codeword errors) s (fun u => u.flash = s.flash) := by
  have hf := nandReadRetry_clean (s := saying [] s) codeword h
  have hview := ftl_readsEmitted block page [readSetOf s area block page] (saying [] s)
  refine leads_of_flash (f := nandReadRetry area block page codeword errors) rfl (hf ▸ ftl_glob hview) fun t hflash _ _ => ?_
  rw [hflash, hf]
  exact readsEmitted_flash ..
end

theorem relocateSeg_erases (b : Nat) (s : State) : ErasesOnly s (relocateSeg b s) := by
  unfold relocateSeg
  split
  · next g _ => exact relocate_erases g.serial s
  · rfl

@[simp] theorem ftl_codewordLost (area block page codeword : Nat) (s : State) : ftl (codewordLost area block page codeword s) = ftl s := by
  unfold codewordLost
  refine ftl_ite ?_ (ftl_ite ?_ rfl)
  · split
    · rfl
    · exact (ftl_addItemAt ..).trans (ftl_modSeg ..)
  · simp only []
    split
    · rfl
    · exact ftl_record ..

/-- The reads of a codeword that is not clean at once: the one of its band and the retries (08 R194). -/
def readsOf (s : State) (area block page : Nat) (errors : List (Option Nat)) : List Nat :=
  readSetOf s area block page :: triedSets s errors (readSetOf s area block page)

/-- Does a codeword correct in one of the reads? -/
def correctsIn (errors : List (Option Nat)) (l : List Nat) : Bool := l.any (fun k => (errors.getD k none).isSome)

/-- A read that is not clean at once counts its retries; where no read corrects it, the codeword counts as lost (08 R194, log 125). -/
theorem nandReadRetry_retried {s : State} {area block page : Nat} (codeword : Nat) {errors : List (Option Nat)}
    (h : cleanUnder s errors (readSetOf s area block page) = false) : ∃ u, ErasesOnly u (nandReadRetry area block page codeword errors s) ∧
      ftl u = (ftl s).readIn (triedSets s errors (readSetOf s area block page)).length (correctsIn errors (readsOf s area block page errors)) := by
  unfold nandReadRetry
  extract_lets st tried s1 s2
  have htried : tried = triedSets s errors st := if_neg (by rw [h]; decide)
  have hreads : correctsIn errors (readsOf s area block page errors) = correctsIn errors (st :: tried) := by
    rw [htried]
    rfl
  have hs1 : ftl s1 = ftl s := ftl_readsEmitted block page (st :: tried) s
  have hclean : cleanUnder s1 errors st = false := (cleanUnder_readsEmitted block page (st :: tried) s errors st).trans h
  rw [if_neg (by rw [hclean]; simp), hreads, ← htried, ← hs1]
  split
  · next hc =>
    refine ⟨s2, ?_, ?_⟩
    · split
      · exact relocateSeg_erases block (containC1 s2)
      · rfl
    · rw [correctsIn, hc]
      exact congrArg (fun n => { ftl s2 with uncorrectable := n }) (BitVec.add_zero s1.flash.uncorrectable).symm
  · next hc =>
    refine ⟨codewordLost area block page codeword _, rfl, ?_⟩
    rw [ftl_codewordLost, ftl_containC2, correctsIn, Bool.eq_false_iff.2 hc]
    rfl

theorem nandReadRetry_retried_leads {s : State} {area block page : Nat} (codeword : Nat) {errors : List (Option Nat)}
    (h : cleanUnder s errors (readSetOf s area block page) = false) : Leads (.nandReadRetry area block page codeword errors) s (fun u =>
      u.flash.readRetries = s.flash.readRetries + u32 (triedSets s errors (readSetOf s area block page)).length ∧
      u.flash.uncorrectable = s.flash.uncorrectable +
        (if (readSetOf s area block page :: triedSets s errors (readSetOf s area block page)).any (fun k => (errors.getD k none).isSome)
          then 0 else 1)) := by
  obtain ⟨u, herases, hu⟩ := nandReadRetry_retried (s := saying [] s) codeword h
  refine leads_of_flash (f := nandReadRetry area block page codeword errors) rfl
    (herases.glob.trans (congrArg FtlView.glob hu)) fun t hflash _ _ => ?_
  rw [hflash, herases.readRetries, herases.uncorrectable]
  exact ⟨congrArg FtlView.readRetries hu, congrArg FtlView.uncorrectable hu⟩

end Sys2Proof.Machine

/-! ### The image writer takes the next changed parcel -/

namespace Sys2Proof.Machine

/-- A parcel's record holds the parcel and the last JSN applied to it (08 R202). -/
theorem image_imageWriteOne (i : Nat) (p : Parcel) (s : State) :
    (imageWriteOne i p s).store.image = tabPut s.store.image i (p, lastApplied s i p) := rfl

theorem parcelImageWrite_next {s : State} {i : Nat} {p : Parcel} (hidle : enginesIdle s = true)
    (hnext : imageNextOf s s.flash.imageNext = some (i, p)) : parcelImageWrite s =
      imageSections (modFlash (fun f => { f with imageNext := i + 1 }) (workServe 5 1 (imageWriteOne i p s))) := by
  simp [parcelImageWrite, hidle, hnext]

theorem parcelImageWrite_leads {s : State} {i : Nat} {p : Parcel} (hidle : enginesIdle s = true)
    (hnext : imageNextOf s s.flash.imageNext = some (i, p)) : Leads .parcelImageWrite s (fun u =>
      tabFind u.store.image i = some (p, lastApplied s i p) ∧ u.flash.imageNext = i + 1) := by
  have hf := parcelImageWrite_next (s := saying [] s) hidle hnext
  have himage := image_imageWriteOne i p (saying [] s)
  have hglob : (imageWriteOne i p (saying [] s)).glob = s.glob := rfl
  generalize imageWriteOne i p (saying [] s) = w at hf himage hglob
  refine leads_of_flash (f := parcelImageWrite) rfl (hf ▸ hglob) fun t hflash hl _ => ?_
  rw [ledger_store hl, hflash, hf]
  exact ⟨himage ▸ tabFind_tabPut_same .., rfl⟩

end Sys2Proof.Machine

/-! ### The archive sweep visits its block of parcels -/

namespace Sys2Proof.Machine

theorem mem_of_tabFind {α : Type} {t : Tab α} {k : Nat} {a : α} (h : tabFind t k = some a) : (k, a) ∈ t := by
  induction t with
  | nil => cases h
  | cons e t ih =>
    obtain ⟨j, b⟩ := e
    unfold tabFind at h
    split at h
    · next hj =>
      cases h
      exact hj ▸ List.mem_cons_self
    · split at h
      · cases h
      · exact List.mem_cons_of_mem _ (ih h)

/-- What a sweep visit reads and writes of a parcel: its state and the epoch of its last visit. -/
structure VisitMark where
  state : ParcelState
  sweepEpoch : BitVec 32

/-- The mark of a parcel. -/
def visitMark (p : Parcel) : VisitMark := { state := p.state, sweepEpoch := p.archive.sweepEpoch }

/-- The parts of a state that say which parcels the sweep has visited. -/
structure VisitView where
  glob : GlobalSt
  marks : Nat → VisitMark

/-- Those parts of a state. -/
def visitView (s : State) : VisitView := { glob := s.glob, marks := fun i => visitMark (parcelOf s i) }

/-- A choice between two states with the same view. -/
theorem visitView_ite {p : Prop} [Decidable p] {a b : State} {x : VisitView} (ha : visitView a = x) (hb : visitView b = x) :
    visitView (if p then a else b) = x := by
  split
  · exact ha
  · exact hb

/-- The marks with the one of parcel `i` replaced. -/
def withMark (i : Nat) (x : VisitMark) (f : Nat → VisitMark) (m : Nat) : VisitMark := if m = i then x else f m

@[simp] theorem withMark_same (i : Nat) (x : VisitMark) (f : Nat → VisitMark) : withMark i x f i = x := if_pos rfl

theorem withMark_other {i m : Nat} (h : m ≠ i) (x : VisitMark) (f : Nat → VisitMark) : withMark i x f m = f m := if_neg h

theorem withMark_self (i : Nat) (f : Nat → VisitMark) : withMark i (f i) f = f := by
  funext m
  by_cases hm : m = i
  · rw [hm, withMark_same]
  · exact withMark_other hm ..

/-- Storing a parcel changes the mark of its index only. -/
theorem visitView_setParcel (i : Nat) (p : Parcel) (s : State) : visitView (setParcel i p s) =
    { visitView s with marks := withMark i (visitMark p) (visitView s).marks } := by
  have hmarks : (visitView (setParcel i p s)).marks = withMark i (visitMark p) (visitView s).marks := by
    funext m
    by_cases hm : m = i
    · rw [hm, withMark_same]
      exact congrArg visitMark (parcelOf_setParcel_same ..)
    · rw [withMark_other hm]
      exact congrArg visitMark (tabGet_tabPut_other hm ..)
  rw [← hmarks]
  rfl

/-- Storing a parcel of the same mark keeps the view. -/
theorem visitView_setParcel_same {i : Nat} {p : Parcel} {s : State} (h : visitMark p = visitMark (parcelOf s i)) :
    visitView (setParcel i p s) = visitView s := by
  rw [visitView_setParcel, h]
  exact congrArg (fun f => { visitView s with marks := f }) (withMark_self ..)

/-- Archive work on a parcel that is no visit keeps the view. -/
theorem visitView_modArch {f : ArchState → ArchState} (h : ∀ a, (f a).sweepEpoch = a.sweepEpoch) (i : Nat) (s : State) :
    visitView (modArch i f s) = visitView s := visitView_setParcel_same (by simp only [visitMark, h])

section
variable (s : State)

@[simp] theorem visitView_addItemAt (e : Int) (k j : Nat) (l : List Int) : visitView (addItemAt e k j l s) = visitView s := by
  unfold addItemAt
  exact visitView_ite rfl rfl

@[simp] theorem visitView_dropSeg (n : Nat) : visitView (dropSeg n s) = visitView s := by
  unfold dropSeg
  split <;> rfl

@[simp] theorem visitView_dropChunk (c : Chunk) : visitView (dropChunk c s) = visitView s := by
  unfold dropChunk
  exact (visitView_addItemAt ..).trans (visitView_ite (visitView_setParcel_same rfl) rfl)

@[simp] theorem visitView_archiveSqueeze : visitView (archiveSqueeze s) = visitView s := by
  unfold archiveSqueeze
  split
  · rfl
  · simp only []
    split
    · exact visitView_ite (visitView_dropSeg ..) rfl
    · exact visitView_dropChunk ..

@[simp] theorem visitView_putChunk (c : Chunk) : visitView (putChunk c s) = visitView s := by
  unfold putChunk
  exact visitView_ite (visitView_archiveSqueeze _) rfl

@[simp] theorem visitView_archClose (i ch : Nat) : visitView (archClose i ch s) = visitView s := by
  unfold archClose
  simp only []
  split
  · rfl
  · refine visitView_ite rfl ((visitView_putChunk ..).trans (visitView_modArch ?_ i s))
    exact fun _ => rfl

@[simp] theorem visitView_flushVerbatim (i : Nat) : visitView (flushVerbatim i s) = visitView s := by
  unfold flushVerbatim
  refine visitView_ite rfl ((visitView_putChunk ..).trans (visitView_modArch ?_ i s))
  exact fun _ => rfl
end

/-- The view once parcel `i` has had its visit of epoch `v`. -/
def VisitView.visit (i : Nat) (v : Int) (w : VisitView) : VisitView :=
  { w with marks := withMark i { w.marks i with sweepEpoch := BitVec.ofInt 32 v } w.marks }

/-- A visit marks a parcel in use, and nothing else, with its epoch (08 R183). -/
theorem visitView_archSweepParcel {i : Nat} {s : State} (v : Int) (t : Nat) (h : inUse (parcelOf s i) = true) :
    visitView (archSweepParcel i v t s) = (visitView s).visit i v := by
  unfold archSweepParcel
  extract_lets p lim due s1
  split
  · next hskip =>
    have hvisited : p.archive.sweepEpoch = BitVec.ofInt 32 v := by simpa [p, h] using hskip
    have hsame : (visitView s).marks i = { (visitView s).marks i with sweepEpoch := BitVec.ofInt 32 v } := by
      rw [← hvisited]
      rfl
    rw [VisitView.visit, ← hsame, withMark_self]
  · have hs1 : visitView s1 = visitView s :=
      (visitView_flushVerbatim ..).trans (forEach_keeps visitView (fun (e : Nat × ArchSlot) t => visitView_archClose t i e.1) due s)
    rw [modArch, visitView_setParcel, ← hs1]
    rfl

/-- A parcel that is free is not visited. -/
theorem archSweepParcel_free {i : Nat} {s : State} (v : Int) (t : Nat) (h : inUse (parcelOf s i) = false) : archSweepParcel i v t s = s := by
  unfold archSweepParcel
  exact if_pos (by simp [h])

/-- What a visit of one parcel does to the marks of all: states stay, and an epoch of a visit stays or becomes the visit's. -/
theorem mark_archSweepParcel (i : Nat) (v : Int) (t : Nat) (s : State) (m : Nat) :
    visitMark (parcelOf (archSweepParcel i v t s) m) = visitMark (parcelOf s m) ∨
      visitMark (parcelOf (archSweepParcel i v t s) m) = { visitMark (parcelOf s m) with sweepEpoch := BitVec.ofInt 32 v } := by
  by_cases h : inUse (parcelOf s i) = true
  · have hm := congrFun (congrArg VisitView.marks (visitView_archSweepParcel v t h)) m
    by_cases hi : m = i
    · subst hi
      exact .inr (hm.trans (withMark_same ..))
    · exact .inl (hm.trans (withMark_other hi ..))
  · rw [archSweepParcel_free v t (Bool.eq_false_iff.2 h)]
    exact .inl rfl

/-- What a sweep leaves: the global block and the state of every parcel. -/
def sweepLeaves (s : State) : GlobalSt × (Nat → ParcelState) := (s.glob, fun i => (parcelOf s i).state)

theorem sweepLeaves_archSweepParcel (i : Nat) (v : Int) (t : Nat) (s : State) : sweepLeaves (archSweepParcel i v t s) = sweepLeaves s := by
  have hglob : (archSweepParcel i v t s).glob = s.glob := by
    by_cases h : inUse (parcelOf s i) = true
    · exact congrArg VisitView.glob (visitView_archSweepParcel v t h)
    · rw [archSweepParcel_free v t (Bool.eq_false_iff.2 h)]
  have hstates : ∀ m, (parcelOf (archSweepParcel i v t s) m).state = (parcelOf s m).state := fun m =>
    (mark_archSweepParcel i v t s m).elim (congrArg VisitMark.state) (congrArg VisitMark.state)
  rw [sweepLeaves, hglob, funext hstates]
  rfl

theorem inUse_archSweepParcel (i : Nat) (v : Int) (t : Nat) (s : State) (m : Nat) :
    inUse (parcelOf (archSweepParcel i v t s) m) = inUse (parcelOf s m) :=
  congrArg (· != ParcelState.free) (congrFun (congrArg Prod.snd (sweepLeaves_archSweepParcel i v t s)) m)

/-- A parcel has had its visit of epoch `v`, if it is in use. -/
def Visited (v : Int) (s : State) (i : Nat) : Prop :=
  inUse (parcelOf s i) = true → (parcelOf s i).archive.sweepEpoch = BitVec.ofInt 32 v

theorem visited_archSweepParcel (i : Nat) (v : Int) (t : Nat) (s : State) : Visited v (archSweepParcel i v t s) i := by
  intro h
  rw [inUse_archSweepParcel] at h
  have hi := congrFun (congrArg VisitView.marks (visitView_archSweepParcel v t h)) i
  exact congrArg VisitMark.sweepEpoch (hi.trans (withMark_same ..))

/-- A visit of the same epoch to another parcel leaves a parcel visited. -/
theorem Visited.archSweepParcel {v : Int} {s : State} {m : Nat} (i t : Nat) (h : Visited v s m) : Visited v (archSweepParcel i v t s) m := by
  intro huse
  rw [inUse_archSweepParcel] at huse
  rcases mark_archSweepParcel i v t s m with hsame | hset
  · exact (congrArg VisitMark.sweepEpoch hsame).trans (h huse)
  · exact congrArg VisitMark.sweepEpoch hset

theorem archiveSweepVisit_leads (s : State) : Leads .archiveSweepVisit s (fun u => ∀ i p, tabFind s.store.parcels i = some p →
    inUse p = true → archPending s i = false → 65536 * (s.epoch.current % 256).toNat ≤ i →
      i < 65536 * (s.epoch.current % 256).toNat + 65536 → (parcelOf u i).archive.sweepEpoch = BitVec.ofInt 32 s.epoch.current) := by
  obtain ⟨l, b, hf, hl⟩ : ∃ l b, archiveSweepVisit (saying [] s) =
      forEach l (fun i t => archSweepParcel i s.epoch.current b t) (saying [] s) ∧
      ∀ i p, tabFind s.store.parcels i = some p → archPending s i = false → 65536 * (s.epoch.current % 256).toNat ≤ i →
        i < 65536 * (s.epoch.current % 256).toNat + 65536 → i ∈ l := by
    refine ⟨_, _, rfl, fun i p hp hpending hlo hhi => List.mem_map.2 ⟨(i, p), List.mem_filter.2 ⟨mem_of_tabFind hp, ?_⟩, rfl⟩⟩
    have hpending' : archPending (saying [] s) i = false := hpending
    simp only [Bool.and_eq_true, decide_eq_true_eq, Bool.not_eq_true']
    exact ⟨⟨hlo, hhi⟩, hpending'⟩
  have hleaves : sweepLeaves (archiveSweepVisit (saying [] s)) = sweepLeaves s :=
    hf ▸ forEach_keeps sweepLeaves (fun i t => sweepLeaves_archSweepParcel i _ b t) l (saying [] s)
  have hvisited : ∀ i ∈ l, Visited s.epoch.current (archiveSweepVisit (saying [] s)) i :=
    hf ▸ forEach_reaches (P := Visited s.epoch.current) (fun i t => visited_archSweepParcel i _ b t)
      (fun i _ _ h => h.archSweepParcel i b) l (saying [] s)
  obtain ⟨hglob, hstates⟩ := Prod.mk.inj hleaves
  refine leads_of_flash (f := archiveSweepVisit) rfl hglob fun t _ hledger _ i p hp huse hpending hlo hhi => ?_
  rw [ledger_parcelOf hledger]
  refine hvisited i (hl i p hp hpending hlo hhi) ?_
  have hparcel : parcelOf s i = p := by rw [parcelOf, tabGet, hp]; rfl
  rw [inUse, congrFun hstates i, hparcel]
  exact huse

/-- Settles O39: reclamation, which most of the commands end with, takes a block or drops an empty segment and leaves the queues, counters and
retired blocks that they report; what follows a command leaves the flash and the ledger. -/
theorem flashIsWrittenReadAndReclaimed : Obligations.FlashIsWrittenReadAndReclaimed :=
  fun s => ⟨fun _ => chunkProgramDone_leads, fun _ => segmentSealTimeout_leads,
    fun _ _ _ _ hjob hseg hpages => ⟨gcCopyVerified_next_leads hjob hseg hpages, gcCopyVerified_last_leads hjob hseg hpages,
      gcCopyVerified_failed_leads hjob hseg⟩,
    fun area block page => nandProgramFail_leads area block page s, fun area block => nandEraseFail_leads area block s,
    fun _ => nandEraseDone_leads, fun _ _ _ codeword _ => nandReadRetry_clean_leads codeword,
    fun _ _ _ codeword _ => nandReadRetry_retried_leads codeword, fun _ _ => parcelImageWrite_leads, archiveSweepVisit_leads s⟩

end Sys2Proof.Machine
